-- ==== Sys2Proof/Word.lean ====
section
/-! DEFINITION. The byte, and the plainest facts of it. The controller's other values (oven numbers, serials, timers,
pressures) are numbers to the manual and are `Nat` or `Int` in the model. -/

namespace Sys2Proof

/-- A byte of the battery line or of the local port. -/
abbrev Byte := BitVec 8

end Sys2Proof
end

