-- ==== Sys2Proof/Syntax.lean ====
section
/-! DEFINITION. The rows of spec/opcode_table.json, one constructor each, with what the station reads in that step. -/

namespace Sys2Proof

/-- The reading of a door's latch input (R77). -/
inductive Latch where
  | latched
  | unlatched
  deriving DecidableEq, Repr

/-- One character as a receiver reads it: its eight data bits and whether its stop bit was wrong. On the battery line (R2) and
on the local port (R177). -/
structure RxChar where
  value   : Byte
  framing : Bool
  deriving DecidableEq, Repr

/-- What a station has received of a frame when it enters the settle window (R7, R8): the characters 1 to 4+L, the census
field that follows a CENSUS frame as the other stations drive it (log 47), and whether HLD was read asserted before the station's own
frame end. -/
structure Reception where
  chars    : List RxChar
  census   : List RxChar
  hldEarly : Bool
  deriving DecidableEq, Repr

/-- One whole step of the station. -/
inductive Instr where
  /-- R19. The straps as the reset input reads them, and the level of the STOP input (R170). -/
  | hardwareReset (id : BitVec 5) (role lineRate portRate : BitVec 2) (stopInput : Bool)
  /-- R3. -/
  | idleGapComplete
  /-- R5. The contention characters of the other stations that begin their start bits together with this one. -/
  | contend (rivals : List Byte)
  /-- R3. -/
  | otherStartBit
  /-- R6. Whether DAT returned recessive after the jam. -/
  | idClash (recessive : Bool)
  /-- R7. -/
  | voidFrame
  /-- R8. -/
  | frameEnd (rx : Reception)
  /-- R118. -/
  | consentTimeout
  /-- R10. -/
  | holdTimeout
  /-- R9. The level of VTO, from the other stations, at the moment HLD reads free. -/
  | settleOutcome (vto : Bool)
  /-- R11. In a settle window, HOLD_TIMEOUT has come before where HLD stayed asserted (R10); else VTO alone stays (log 48). -/
  | lineBlocked
  /-- R11. The level of VTO, from the other stations, at the moment HLD read free. -/
  | blockedCleared (vto : Bool)
  /-- R18. -/
  | stopRunDetected
  /-- R18. Whether HLD or VTO still reads asserted. -/
  | stopRunEnd (asserted : Bool)
  /-- R176. -/
  | stuckLine
  /-- R171. -/
  | unnotedMarkExpiry
  /-- R170. -/
  | stopInputAsserted
  /-- R170. -/
  | stopInputClear
  /-- R25. -/
  | censusTimerExpiry
  /-- R28. Whether the timer has come to 2000 ms; else to 200 ms. -/
  | announceTimer (full : Bool)
  /-- R22. -/
  | leaveTimeout
  /-- R44. -/
  | ovenTick
  /-- R41. The oven's place in the bank, from 0. -/
  | heldTimerExpiry (i : Nat)
  /-- R54. The converter channel and its raw sample. -/
  | pressureSample (i : Nat) (x : BitVec 12)
  /-- R55. -/
  | sampleWatchExpiry (i : Nat)
  /-- R57. -/
  | lostTimerExpiry (i : Nat)
  /-- R60. -/
  | mainSample (x : BitVec 12)
  /-- R61. -/
  | mainReportTimer
  /-- R68. -/
  | chargeTimerExpiry (i : Nat)
  /-- R78. The latch input (2i + j for side j of oven F + i) and the level it has held for 50 ms. -/
  | latchEvent (d : Nat) (level : Latch)
  /-- R79. -/
  | leakLevel (d : Nat) (level : BitVec 10)
  /-- R81. -/
  | seatTimerExpiry (d : Nat)
  /-- R88. -/
  | leakingTimerExpiry (d : Nat)
  /-- R88. -/
  | callTimerExpiry (d : Nat)
  /-- R85. -/
  | mismatchWatchExpiry (d : Nat)
  /-- R96. -/
  | resealTimerExpiry (d : Nat)
  /-- R90. The slot of the reseal claim record, from 0. -/
  | resealRecordTimerExpiry (slot : Nat)
  /-- R103. -/
  | planTimerExpiry
  /-- R139. -/
  | chainOpens
  /-- R139. -/
  | chainClosed
  /-- R141. -/
  | revokeRetryTimer
  /-- R158. -/
  | moveStart
  /-- R160. -/
  | moveTimerExpiry
  /-- R165. -/
  | quenchTimeExpiry
  /-- R165. -/
  | drainTimeExpiry
  /-- R162. -/
  | readyRetryTimer
  /-- R128. -/
  | claimTimerExpiry
  /-- R128. -/
  | abandonRetry
  /-- R134. -/
  | abandonWaitTimeout
  /-- R178, R179. The bytes that come in on RXD. -/
  | messageReceived (bytes : List RxChar)
  /-- R178. -/
  | interByteGap
  /-- R183. -/
  | messageSent
  /-- R179. -/
  | unassignedCommand
  /-- R20. The levels of the 16 latch inputs at that moment, a bit set where the input reads UNLATCHED (R77, R189). -/
  | start (latches : BitVec 16)
  /-- R21. -/
  | rejoin
  /-- R22. -/
  | leave
  /-- R170. -/
  | stop
  /-- R174. -/
  | resume
  /-- R119. -/
  | consent
  /-- R107. -/
  | pushRequest
  /-- R129. -/
  | abandon
  /-- R142. -/
  | stage
  /-- R140. -/
  | machineAt
  /-- R151. -/
  | levelDone
  /-- R147. -/
  | resealStart
  /-- R149. -/
  | resealFinish
  /-- R159. -/
  | carAt
  /-- R163. -/
  | loadSensed
  /-- R166. -/
  | gateClosed
  /-- R157. -/
  | park
  /-- R168. -/
  | clearCar
  /-- R42. -/
  | setWallTemp
  /-- R38. -/
  | restoreOven
  /-- R39. -/
  | setService
  /-- R73. -/
  | setValve
  /-- R40. -/
  | clearFault
  /-- R87. -/
  | freeDoorLatch
  /-- R109. -/
  | planChange
  /-- R181. -/
  | readStatus
  /-- R138. -/
  | readView
  /-- R111. -/
  | readClaim
  /-- R76. -/
  | readOven
  /-- R97. -/
  | readPlan
  /-- R169. -/
  | readCar
  /-- R3. -/
  | holdOrVetoAssertedInIdle
  /-- R8. -/
  | minimumHoldElapsed
  /-- R8. -/
  | dominantBitInSettle
  deriving DecidableEq, Repr

end Sys2Proof
end

