-- ==== Sys2Proof/Decode.lean ====
section
/-! DEFINITION. The opcode table gives no row any bits: its rows are events of the line, of the port and of the field, and not
words. So no word spells a command. (The bytes of local messages and the characters of frames are decoded by
Machine/Messages.lean and Machine/Frames.lean.) -/

namespace Sys2Proof

/-- The command that a word spells by the table's bits: none, since every row's list of fields is empty (log 26). -/
def decodeTableWord (_nbits _w : Nat) : Option Instr := none

end Sys2Proof
end

