-- ==== Sys2Proof/Config.lean ====
section
/-! DEFINITION. What the part fixes: its limits and periods, each with the rule that states it, and the one value that the
manual leaves open. Every time is in milliseconds. -/

namespace Sys2Proof.Config

/-- R14: the most entries of the send queue. -/
abbrev sendQueueMax : Nat := 8
/-- R179: the most commands of the command buffer. -/
abbrev commandMax : Nat := 4
/-- R180: the most replies of the reply queue. -/
abbrev replyMax : Nat := 8
/-- R182: the most reports of the report queue. -/
abbrev reportMax : Nat := 16
/-- R89: the most entries of a machine's reseal queue. -/
abbrev resealQueueMax : Nat := 4
/-- R101: the most entries of the deferred list. -/
abbrev deferredMax : Nat := 8
/-- R118: the consent wait. -/
abbrev consentWait : Nat := 15
/-- R10: the hold limit of a settle window. -/
abbrev holdLimit : Nat := 25
/-- R11: the time after which an asserted HLD or VTO blocks the line. -/
abbrev blockedLimit : Nat := 100
/-- R176: the length of a stop run that is reported as STUCK_LINE. -/
abbrev stuckLimit : Nat := 1000
/-- R171: the life of the unnoted mark after its stop run. -/
abbrev unnotedLimit : Nat := 2000
/-- R28: the least spacing of two announces of changed content. -/
abbrev announceSpacing : Nat := 200
/-- R28: the greatest spacing of two announces. -/
abbrev announcePeriod : Nat := 2000
/-- R22, R134: the wait of LEAVE and of ABANDON. -/
abbrev commandWait : Nat := 500
/-- R44: the oven unit's tick. -/
abbrev ovenTick : Nat := 60000
/-- R55: the sample watch. -/
abbrev sampleWatch : Nat := 150
/-- R57: the time after which SENSOR_LOST raises attention. -/
abbrev lostLimit : Nat := 30000
/-- R61: the main report period. -/
abbrev mainReport : Nat := 1000
/-- R61, R63: the greatest age of a main pressure record in use. R102: of an announce in use. -/
abbrev freshAge : Nat := 5000
/-- R24, R60: where an age stops. -/
abbrev ageMax : Nat := 65535
/-- R88: the call timer. -/
abbrev callLimit : Nat := 600000
/-- R85: the mismatch watch. -/
abbrev mismatchLimit : Nat := 10000
/-- R90: the record timer of a reseal record. -/
abbrev recordLimit : Nat := 2400000
/-- R103: the plan timer. -/
abbrev planPeriod : Nat := 500
/-- R128, R141, R162: the retry timers. -/
abbrev retryLimit : Nat := 1000
/-- R13: the check streak at which a station turns to LISTEN_ONLY. -/
abbrev streakLimit : Nat := 8
/-- R13: the clean run at which a listening station rejoins. -/
abbrev cleanLimit : Nat := 32
/-- R35: the greatest coking credit. -/
abbrev creditMax : Nat := 16777215
/-- R35: the greatest minutes to ready. -/
abbrev minutesMax : Nat := 4095
/-- Scope section 2: the timebase is a 32-bit count. -/
abbrev timeWrap : Nat := 4294967296

/-- The period of a station's census timer (R25). -/
def censusPeriod (id : Nat) : Nat := 1000 + 10 * id

/-- DESIGN CHOICE (log 13). The serial that stands in a STOP_NOTE before its contention fills it in: R170 says it is not
fixed, so nothing is known of it. The argument is the model's draw counter. -/
opaque unfixedStopSerial : Nat → Nat

end Sys2Proof.Config
end

