-- ==== Sys2Proof/Machine/State.lean ====
section
/-! DEFINITION. The station's state: every item that a chapter of the manual gives it, as plain data, and its value after reset. -/

namespace Sys2Proof.Machine

/-! ## Names (R189) -/

/-- The strapped role (R19). -/
inductive Role where
  | bank | pusher | guide | quench
  deriving DecidableEq, Repr

/-- The station state (section 2.2). -/
inductive StationState where
  | offLine | joining | onLine | listenOnly | conflict
  deriving DecidableEq, Repr

/-- The line state (section 1.2). -/
inductive LineState where
  | off | seeking | gap | idle | sending | receiving | settle | stopRun | blocked
  deriving DecidableEq, Repr

/-- What the station's own DAT drive is doing (R1, R18). -/
inductive DatDrive where
  | released | frame | stopPulse
  deriving DecidableEq, Repr

/-- Presence of a station (R24). -/
inductive Presence where
  | absent | present | lost
  deriving DecidableEq, Repr

/-- Local causes and reasons (R189). -/
inductive Cause where
  | check | malformed | holdTimeout | stopped | role | staleSerial | claimBusy | resealOpen | notReady | doorState
  | regulator | position | car | ownerAbsent | ownerJoining | order | consentRefused | consentTimeout | localStop | strap
  | idClash | roleDuplicate | rangeOverlap
  deriving DecidableEq, Repr

/-- The ten stages of a push (R111). -/
inductive Stage where
  | isolated | psDoorOff | csDoorOff | ramOut | carLoaded | ramHome | psDoorOn | csDoorOn | guideSet | carReady
  deriving DecidableEq, Repr

/-- A side of the battery. -/
inductive Side where
  | ps | cs
  deriving DecidableEq, Repr

/-- Cause of an abandon. `command` is the manual's LOCAL; `other` is a code not assigned (R186). -/
inductive AbandonCause where
  | timeout | command | carFault | dropped | other (code : Nat)
  deriving DecidableEq, Repr

/-- End state of a push claim (R111). -/
inductive ClaimEnd where
  | opened | closed | abandoned (cause : AbandonCause)
  deriving DecidableEq, Repr

/-- End state of a reseal claim (R90). -/
inductive ResealEnd where
  | opened | done | givenUp
  deriving DecidableEq, Repr

/-- Oven state (R35). -/
inductive OvenState where
  | unknown | empty | coking | claimed | pushing | held | faulted | outOfService
  deriving DecidableEq, Repr

/-- Readiness (R46). -/
inductive Readiness where
  | notReady | ready | overcoked
  deriving DecidableEq, Repr

/-- State code of a summary (R49). -/
inductive SummaryState where
  | unknown | empty | notReady | ready | overcoked | claimed | pushing | held | faulted | outOfService
  deriving DecidableEq, Repr

/-- Quality of a pressure sample (R53). -/
inductive Quality where
  | good | rail | missing
  deriving DecidableEq, Repr

/-- Regulator mode (R53). -/
inductive Mode where
  | collect | charge | isolating | isolated | manual | released
  deriving DecidableEq, Repr

/-- Seal state of a door (R77). -/
inductive Seal where
  | seating | tight | weeping | leaking | off | resealing | unlatchedUnexpected
  deriving DecidableEq, Repr

/-- What a mismatch watch expects of the latch (R85). -/
inductive Watch where
  | offExpected | onExpected
  deriving DecidableEq, Repr

/-- Cycle mark of an oven (R97). -/
inductive Mark where
  | unpushed | pushed | skippedOos | faultSkipped
  deriving DecidableEq, Repr

/-- State of the quench car (R153). -/
inductive CarState where
  | idle | travelling | spotted | loading | loaded | quenching | draining | dumping | fault
  deriving DecidableEq, Repr

/-- Load of the quench car (R153). -/
inductive Load where
  | none | hot | quenched
  deriving DecidableEq, Repr

/-- A move of the quench car (R155). -/
inductive Move where
  | spot (oven : Nat) | tower | wharf | park
  deriving DecidableEq, Repr

/-- Attention causes (R189). -/
inductive Attention where
  | overcoked | faulted | sensorLost | unlatchedUnexpected | doorMismatch | carFault
  deriving DecidableEq, Repr

/-- Cause of a stop (R189). `command` is the manual's LOCAL; `other` is a code not assigned. -/
inductive StopCause where
  | command | stopInput | other (code : Nat)
  deriving DecidableEq, Repr

/-! ## Configuration (R19, R20) -/

/-- The straps as read at hardware reset (R19). -/
structure Straps where
  id       : Nat
  role     : Role
  lineRate : Nat
  portRate : Nat
  deriving DecidableEq, Repr

/-- The frames on which the station asks consent (R20, R118). -/
structure ConsentMask where
  pushClaim   : Bool
  resealClaim : Bool
  resume      : Bool
  deriving DecidableEq, Repr

/-- The fields of part 0 of a BANK's START (R191). Times in s, credit target and allowance in min, pressures in dPa. -/
structure BankPart0 where
  ovens      : Nat
  pushLimit  : Nat
  consent    : ConsentMask
  first      : Nat
  count      : Nat
  target     : Nat
  nominal    : Nat
  allowance  : Nat
  base       : Int
  floor      : Int
  chargeSp   : Int
  chargeTime : Nat
  deriving DecidableEq, Repr

/-- The fields of part 1 of a BANK's START (R191). -/
structure BankPart1 where
  kp          : Nat
  ki          : Nat
  kf          : Nat
  pnom        : Int
  mainSensor  : Bool
  rw          : Int
  rl          : Int
  rr          : Int
  weeping     : Nat
  leaking     : Nat
  seat        : Nat
  leakDelay   : Nat
  resealLimit : Nat
  deriving DecidableEq, Repr

/-- The pushing plan's fields of START. -/
structure PlanConfig where
  stride : Nat
  step   : Nat
  skip   : Nat
  deriving DecidableEq, Repr

/-- The quench car's fields of START, in s. -/
structure CarConfig where
  quench    : Nat
  drain     : Nat
  moveLimit : Nat
  deriving DecidableEq, Repr

/-- The fields of START that belong to the strapped role. -/
inductive RoleConfig where
  | bank (p0 : BankPart0) (p1 : BankPart1)
  | pusher (plan : PlanConfig)
  | guide
  | quench (car : CarConfig)
  deriving DecidableEq, Repr

/-- The configuration held after START (R20). -/
structure Configuration where
  ovens     : Nat
  pushLimit : Nat
  consent   : ConsentMask
  role      : RoleConfig
  deriving DecidableEq, Repr

/-! ## Frames (R4, R187) -/

/-- The stages set in a claim (R111). -/
structure StageSet where
  isolated  : Bool
  psDoorOff : Bool
  csDoorOff : Bool
  ramOut    : Bool
  carLoaded : Bool
  ramHome   : Bool
  psDoorOn  : Bool
  csDoorOn  : Bool
  guideSet  : Bool
  carReady  : Bool
  deriving DecidableEq, Repr

/-- The claim trailer of an ANNOUNCE (R29). -/
structure Trailer where
  oven   : Nat
  serial : Nat
  stages : StageSet
  deriving DecidableEq, Repr

/-- The role payload of an ANNOUNCE (R50, R110, R152, R169), its codes as received. -/
inductive Payload where
  | bank (first : Nat) (summaries : List Byte)
  | pusher (next cycle pass position : Nat)
  | guide (position queued oven side : Nat)
  | quench (state marker load head : Nat)
  deriving DecidableEq, Repr

/-- The twelve frame kinds. -/
inductive FrameKind where
  | census | announce | mainPressure | charged | pushClaim | pushStage | pushAbandon | resealCall | resealClaim | resealDone
  | stopNote | resume
  deriving DecidableEq, Repr

/-- The body of a frame by its named fields (R186, R187). Codes stand as received. -/
inductive Body where
  | census
  | announce (payload : Payload) (trailer : Trailer)
  | mainPressure (pressure : Int) (quality : Nat)
  | charged (oven : Nat)
  | pushClaim (oven serial : Nat) (forced : Bool)
  | pushStage (oven serial stage : Nat) (revoke : Bool)
  | pushAbandon (oven serial cause : Nat)
  | resealCall (oven side : Nat)
  | resealClaim (oven side serial : Nat)
  | resealDone (oven side serial outcome : Nat)
  | stopNote (cause serial : Nat)
  | resume (serial : Nat)
  deriving DecidableEq, Repr

/-- A frame: its contention and kind/flags characters and its body. -/
structure Frame where
  priority  : Nat
  sender    : Nat
  stopped   : Bool
  attention : Bool
  leaving   : Bool
  joining   : Bool
  body      : Body
  deriving DecidableEq, Repr

/-! ## Line interface (01) -/

/-- An entry of the send queue (R14). Entries stand in the order in which they entered it. -/
structure QueueEntry where
  body     : Body
  leaving  : Bool
  age      : Nat
  retries  : Nat
  inFlight : Bool
  deriving DecidableEq, Repr

/-- A station's judgement of a frame: open while consent is asked, else take or one veto cause (R8, R120). -/
inductive Verdict where
  | asking
  | take
  | veto (cause : Cause)
  deriving DecidableEq, Repr

/-- The settle window (R8 to R12): the frame with its census field, what was found wrong with it, and this station's part. -/
structure Window where
  frame     : Option Frame
  census    : List Byte
  fault     : Bool
  malformed : Bool
  kind      : Option Nat
  sender    : Option Nat
  own       : Bool
  verdict   : Verdict
  /-- The veto has been asserted on VTO. -/
  cast      : Bool
  /-- The minimum hold of 12 bit times is over. -/
  holdDone  : Bool
  timedOut  : Bool
  timer     : Nat
  /-- The census characters this station drove on DAT after a CENSUS frame (R4, R188). -/
  driven    : List Byte
  /-- HLD has come free with VTO asserted, on a line that is BLOCKED since (R9, R11). -/
  vetoRead  : Bool
  deriving DecidableEq, Repr

/-- The line interface: its state, its drives, the frame it is sending, the settle window and the fault counters. -/
structure Line where
  state       : LineState
  dat         : DatDrive
  hld         : Bool
  vto         : Bool
  sent        : List Byte
  window      : Option Window
  run         : Option Nat
  stuck       : Bool
  wasBlocked  : Bool
  checkStreak : Nat
  cleanRun    : Nat
  deriving DecidableEq, Repr

/-! ## Station table (R24) -/

/-- One entry of the station table. A role of `none` is UNKNOWN. -/
structure Entry where
  presence  : Presence
  role      : Option Role
  missed    : Nat
  attention : Bool
  range     : Option (Nat × Nat)
  age       : Nat
  payload   : Option (Payload × Trailer)
  joining   : Bool
  deriving DecidableEq, Repr

/-! ## Claim tracker (05, 07, 10) -/

/-- The claim record (R111). -/
structure Claim where
  oven     : Nat
  serial   : Nat
  claimant : Option Nat
  forced   : Bool
  stages   : StageSet
  taken    : Nat
  timer    : Nat
  ending   : ClaimEnd
  deriving DecidableEq, Repr

/-- A reseal claim record (R90). -/
structure Reseal where
  oven     : Nat
  side     : Side
  serial   : Nat
  claimant : Nat
  taken    : Nat
  timer    : Nat
  ending   : ResealEnd
  /-- At the bank that gave the reseal up (R94): its RESEAL_DONE is owed, and this long ago it was last offered, in ms (R96). -/
  owed     : Option Nat
  deriving DecidableEq, Repr

/-- The veto record (R120). Kind and sender are `none` where a faulty frame did not bring them. -/
structure Veto where
  kind   : Option Nat
  sender : Option Nat
  cause  : Cause
  oven   : Nat
  time   : Nat
  deriving DecidableEq, Repr

/-- The claim tracker's records. -/
structure Tracker where
  record        : Option Claim
  highest       : Nat
  reseals       : List (Option Reseal)
  highestReseal : Nat
  ask           : Nat
  veto          : Option Veto
  retry         : Option Nat
  deriving DecidableEq, Repr

/-- The stop record (R171). -/
structure StopNote where
  serial : Nat
  cause  : StopCause
  giver  : Nat
  deriving DecidableEq, Repr

/-- The stop state (R170, R171). The unnoted mark is `none` when clear, `some none` when set with its timer stopped. -/
structure StopState where
  input   : Bool
  stopped : Bool
  highest : Nat
  note    : Option StopNote
  mark    : Option (Option Nat)
  deriving DecidableEq, Repr

/-! ## BANK units (03, 04, 05) -/

/-- An oven record (R35). -/
structure Oven where
  state     : OvenState
  credit    : Nat
  readiness : Readiness
  minutes   : Nat
  temp      : Option Nat
  tempAge   : Nat
  stale     : Bool
  stamp     : Nat
  held      : Option Nat
  overcoked : Bool
  faulted   : Bool
  deriving DecidableEq, Repr

/-- An entry of a sample ring (R53). -/
structure Sample where
  value   : Int
  quality : Quality
  deriving DecidableEq, Repr

/-- A regulating loop (R53). The ring stands newest first. `driven` is the level on the valve output. -/
structure Loop where
  mode      : Mode
  ring      : List Sample
  watch     : Nat
  pf        : Int
  lost      : Bool
  lostTimer : Option Nat
  attention : Bool
  sp        : Int
  e         : Int
  a         : Int
  u         : Option Int
  driven    : Option Int
  target    : Option Int
  charge    : Option Nat
  zero      : Nat
  owed      : Bool
  deriving DecidableEq, Repr

/-- A running mismatch watch (R85). -/
structure Mismatch where
  kind  : Watch
  timer : Nat
  deriving DecidableEq, Repr

/-- A door record (R77). The ring stands newest first. -/
structure Door where
  latch     : Latch
  sealing   : Seal
  ring      : List Nat
  seat      : Option Nat
  leaking   : Option Nat
  called    : Bool
  call      : Option Nat
  reseal    : Option Nat
  mismatch  : Option Mismatch
  unlatched : Bool
  mismatched : Bool
  held      : Bool
  snapLatch : Latch
  snapSeal  : Seal
  deriving DecidableEq, Repr

/-- The main pressure record (R60). -/
structure MainRecord where
  value   : Int
  quality : Quality
  deriving DecidableEq, Repr

/-- The units of a BANK: ovens and loops by place in the bank, doors 2i + j for side j of oven i. -/
structure Bank where
  ovens     : List Oven
  loops     : List Loop
  doors     : List Door
  main      : Option MainRecord
  mainAge   : Nat
  mainTimer : Option Nat
  tick      : Option Nat
  deriving DecidableEq, Repr

/-! ## PUSHER, GUIDE and QUENCH units (06, 08, 09) -/

/-- The plan record (R97). The note is the oven and cycle of the claim taken. -/
structure Plan where
  ovens    : Nat
  stride   : Nat
  step     : Nat
  skip     : Nat
  cycle    : Nat
  pass     : Nat
  pos      : Nat
  marks    : List Mark
  deferred : List Nat
  staged   : Option (Nat × Nat)
  note     : Option (Nat × Nat)
  shown    : Nat
  timer    : Option Nat
  deriving DecidableEq, Repr

/-- The machine unit (R138). `chain` is set for CLOSED. `revokeOwed` holds the claim serial it concerns. `setWanted` is the latest wish of a guide
that has reported GUIDE_SET while its own revoke is in flight, with the serial, until the outcome of that revoke is known (R126, R143). -/
structure MachineUnit where
  position    : Nat
  chain       : Bool
  queue       : List Nat
  revokeOwed  : Option Nat
  revokeTimer : Option Nat
  charged     : Option (Nat × Nat)
  setWanted   : Option Nat
  deriving DecidableEq, Repr

/-- The car record (R153). -/
structure Car where
  state      : CarState
  marker     : Nat
  load       : Load
  move       : Option Move
  moveTimer  : Option Nat
  phase      : Option Nat
  loads      : Nat
  queue      : List Move
  chain      : Bool
  lastNext   : Nat
  readyTimer : Option Nat
  fault      : Bool
  deriving DecidableEq, Repr

/-- The permit, spray and gate outputs (R144, R154). -/
structure Outputs where
  ram       : Bool
  extractor : Bool
  travel    : Bool
  spray     : Bool
  gate      : Bool
  deriving DecidableEq, Repr

/-! ## Local port (11) -/

/-- Result code of a reply (R180). -/
inductive Result where
  | accepted | refused | busy | badArg | badState | notRole | notReady | ownerAbsent | order | tooLate | badMessage
  deriving DecidableEq, Repr

/-- A reply (R180, R191): its kind, result code, detail byte and values. -/
structure Reply where
  kind   : Byte
  result : Result
  detail : Nat
  values : List Byte
  deriving DecidableEq, Repr

/-- Result of a claim frame (R117, R148). -/
inductive ClaimResult where
  | taken | vetoed | cut | listenOnly
  deriving DecidableEq, Repr

/-- What set off a STOPPED report (R171). -/
inductive StopEvent where
  | pulse | note | adopted | stuckLine
  deriving DecidableEq, Repr

/-- What a LINE_STATE report says. -/
inductive LineReport where
  | station (state : StationState)
  | conflict (cause : Cause)
  | blocked
  deriving DecidableEq, Repr

/-- Reports to the station processor, in the order of the table of R183. -/
inductive Report where
  /-- R117. Sender and own cause are given at stations other than the PUSHER. -/
  | pushOutcome (oven serial : Nat) (forced : Bool) (result : ClaimResult) (sender : Option Nat) (cause : Option Cause)
  /-- R148. -/
  | resealOutcome (oven side serial : Nat) (result : ClaimResult)
  | stageSeen (oven serial : Nat) (stage : Stage) (revoke : Bool)
  | claimClosed (oven serial timer : Nat)
  | claimAbandoned (oven serial : Nat) (cause : AbandonCause) (stages : StageSet)
  | abandonLate (oven serial : Nat) (cause : AbandonCause)
  | stageLate (oven serial : Nat) (stage : Nat)
  | vetoGiven (veto : Veto)
  /-- R118. -/
  | consentAsk (ask : Nat) (frame : Frame)
  | doorEvent (oven : Nat) (side : Side) (latch : Latch) (sealing : Seal) (mean : Nat)
  /-- R88, R89. `queued` distinguishes "queued" from "called". -/
  | resealCalled (oven : Nat) (side : Side) (queued : Bool)
  | resealQueueFull (oven : Nat) (side : Side)
  | resealEnded (oven : Nat) (side : Side) (serial : Nat) (outcome : ResealEnd)
  | ovenState (oven : Nat) (before after : OvenState) (credit : Nat) (readiness : Readiness) (stamp : Nat)
  /-- R37, R57, R84, R85, R160. Oven and side are given where the cause has them. -/
  | attention (oven : Option Nat) (side : Option Side) (cause : Attention) (raised : Bool)
  | stationChange (id : Nat) (presence : Presence) (role : Option Role)
  | duplicateSeen (id : Nat) (cause : Cause)
  | lineState (what : LineReport)
  | stopped (event : StopEvent) (serial : Option Nat) (cause : Option StopCause) (giver : Option Nat)
  | resumed (serial sender : Nat)
  | moveGranted (target : Nat)
  /-- R159. For a SPOT, whether the guide stands at the spot. -/
  | moveDone (target : Nat) (guideThere : Option Bool)
  | quenchDone (quench drain : Nat)
  | frameRefused (body : Body)
  deriving DecidableEq, Repr

/-- A message in the transmitter. A report carries the SPILLED mark as it stood when its transmission began (R182). -/
inductive Outgoing where
  | reply (r : Reply)
  | report (r : Report) (spilled : Bool)
  deriving DecidableEq, Repr

/-- The receive assembler (R178): what it waits for, with the kind and the body bytes it holds. -/
inductive Assembler where
  | hunt
  | kind
  | length (kind : Byte)
  | body (kind : Byte) (len : Nat) (got : List Byte)
  deriving DecidableEq, Repr

/-- A command of the command buffer (R179). -/
structure Command where
  kind : Byte
  body : List Byte
  deriving DecidableEq, Repr

/-- A command that holds execution (R180), with the time since it was executed. -/
inductive Hold where
  | leave (timer : Nat)
  | abandon (timer : Nat)
  deriving DecidableEq, Repr

/-- The local port. -/
structure Port where
  rx       : Assembler
  commands : List Command
  replies  : List Reply
  reports  : List Report
  spilled  : Bool
  tx       : Option Outgoing
  hold     : Option Hold
  deriving DecidableEq, Repr

/-! ## Station life (02) -/

/-- Announce content (R28). -/
structure Content where
  payload : Payload
  trailer : Trailer
  joining : Bool
  stopped : Bool
  deriving DecidableEq, Repr

/-- The station's life: its state and what it keeps of joining, census and announce (R22 to R28, R33). -/
structure Life where
  state       : StationState
  conflict    : Option Cause
  joinCount   : Nat
  adopted     : Bool
  census      : Option Nat
  announce    : Option Nat
  lastContent : Option Content
  deriving DecidableEq, Repr

/-! ## The whole station -/

/-- The station. `pending` is the queue of rows that wait; `free` is the model's own draw counter (log 13). -/
structure State where
  straps  : Straps
  config  : Option Configuration
  staged  : Option BankPart0
  life    : Life
  time    : Nat
  line    : Line
  queue   : List QueueEntry
  table   : List Entry
  claims  : Tracker
  stop    : StopState
  bank    : Bank
  plan    : Option Plan
  machine : MachineUnit
  car     : Car
  out     : Outputs
  port    : Port
  free    : Nat
  pending : List Instr
  deriving DecidableEq, Repr

/-- Reasons for which the machine stops. No meaning raises one: what the manual calls a fault is a state of the station. -/
inductive Fault where
  /-- Raised by nobody. Safe. -/
  | never
  deriving DecidableEq, Repr

/-- Reasons for which a row has no meaning. -/
inductive Refusal where
  /-- Raised by `exec` alone, for a row whose meaning is not written. Safe: nothing can be proved of such a row. No row is. -/
  | notModelled (mnemonic : String)
  deriving DecidableEq, Repr

/-! ## Reset values -/

/-- No stage set. -/
def StageSet.clear : StageSet := ⟨false, false, false, false, false, false, false, false, false, false⟩

/-- The reset state of a station table entry (R24). -/
def Entry.reset : Entry :=
  { presence := .absent, role := none, missed := 0, attention := false, range := none, age := Config.ageMax, payload := none,
    joining := false }

/-- The line interface after reset: OFF, nothing driven (R1, R13, R19). -/
def Line.reset : Line :=
  { state := .off, dat := .released, hld := false, vto := false, sent := [], window := none, run := none, stuck := false,
    wasBlocked := false, checkStreak := 0, cleanRun := 0 }

/-- The claim tracker after reset (R90, R111, R118, R120). -/
def Tracker.reset : Tracker :=
  { record := none, highest := 0, reseals := [none, none, none, none], highestReseal := 0, ask := 0, veto := none, retry := none }

/-- No bank units (R35, R53, R77: before START no records). R60: an age of 65535. -/
def Bank.empty : Bank :=
  { ovens := [], loops := [], doors := [], main := none, mainAge := Config.ageMax, mainTimer := none, tick := none }

/-- The machine unit after reset (R138). -/
def MachineUnit.reset : MachineUnit :=
  { position := 0, chain := false, queue := [], revokeOwed := none, revokeTimer := none, charged := none, setWanted := none }

/-- The car record after reset (R153). -/
def Car.reset : Car :=
  { state := .idle, marker := 0, load := .none, move := none, moveTimer := none, phase := none, loads := 0, queue := [],
    chain := false, lastNext := 0, readyTimer := none, fault := false }

/-- No output asserted (R138, R153). -/
def Outputs.inactive : Outputs := ⟨false, false, false, false, false⟩

/-- The local port after reset (R184). -/
def Port.reset : Port :=
  { rx := .hunt, commands := [], replies := [], reports := [], spilled := false, tx := none, hold := none }

/-- Station life after reset: OFF_LINE (R19). -/
def Life.reset : Life :=
  { state := .offLine, conflict := none, joinCount := 0, adopted := false, census := none, announce := none, lastContent := none }

/-- Stop state after reset (R171), with the STOP input reading given. -/
def StopState.reset (input : Bool) : StopState :=
  { input := input, stopped := false, highest := 0, note := none, mark := none }

/-- The station after a hardware reset that read the given straps and STOP input (R19). -/
def State.afterReset (straps : Straps) (stopInput : Bool) : State :=
  { straps := straps, config := none, staged := none, life := .reset, time := 0, line := .reset, queue := [],
    table := List.replicate 32 .reset, claims := .reset, stop := .reset stopInput, bank := .empty, plan := none,
    machine := .reset, car := .reset, out := .inactive, port := .reset, free := 0, pending := [] }

/-- The station after reset. Its straps and STOP input are the pins' own, so their values here are DESIGN CHOICE (log 5); the row
HARDWARE_RESET reads them. -/
def State.reset : State := State.afterReset ⟨0, .bank, 0, 0⟩ false

end Sys2Proof.Machine
end

