-- ==== Sys2Proof/Machine/Ops.lean ====
section
/-! DEFINITION. The named operations over the state: one update per field, the timers, the local port's queues, the bank's records
by place, and look-ups in the configuration, the station table and the claim records. -/

namespace Sys2Proof.Machine

/-! ## Updates -/

/-- The state with another `straps`. -/
def State.withStraps (s : State) (x : Straps) : State := { s with straps := x }
/-- The state with another `config`. -/
def State.withConfig (s : State) (x : Option Configuration) : State := { s with config := x }
/-- The state with another `staged`. -/
def State.withStaged (s : State) (x : Option BankPart0) : State := { s with staged := x }
/-- The state with another `life`. -/
def State.withLife (s : State) (x : Life) : State := { s with life := x }
/-- The state with another `time`. -/
def State.withTime (s : State) (x : Nat) : State := { s with time := x }
/-- The state with another `line`. -/
def State.withLine (s : State) (x : Line) : State := { s with line := x }
/-- The state with another `queue`. -/
def State.withQueue (s : State) (x : List QueueEntry) : State := { s with queue := x }
/-- The state with another `table`. -/
def State.withTable (s : State) (x : List Entry) : State := { s with table := x }
/-- The state with another `claims`. -/
def State.withClaims (s : State) (x : Tracker) : State := { s with claims := x }
/-- The state with another `stop`. -/
def State.withStop (s : State) (x : StopState) : State := { s with stop := x }
/-- The state with another `bank`. -/
def State.withBank (s : State) (x : Bank) : State := { s with bank := x }
/-- The state with another `plan`. -/
def State.withPlan (s : State) (x : Option Plan) : State := { s with plan := x }
/-- The state with another `machine`. -/
def State.withMachine (s : State) (x : MachineUnit) : State := { s with machine := x }
/-- The state with another `car`. -/
def State.withCar (s : State) (x : Car) : State := { s with car := x }
/-- The state with another `out`. -/
def State.withOut (s : State) (x : Outputs) : State := { s with out := x }
/-- The state with another `port`. -/
def State.withPort (s : State) (x : Port) : State := { s with port := x }
/-- The state with another `free`. -/
def State.withFree (s : State) (x : Nat) : State := { s with free := x }
/-- The state with another `pending`. -/
def State.withPending (s : State) (x : List Instr) : State := { s with pending := x }

/-! ## Station and configuration -/

/-- The strapped role (R19). -/
def State.role (s : State) : Role := s.straps.role

/-- The station drives the line: JOINING or ON_LINE (R1). -/
def State.drives (s : State) : Bool :=
  match s.life.state with
  | .joining | .onLine => true
  | .offLine | .listenOnly | .conflict => false

/-- The station receives: JOINING, ON_LINE or LISTEN_ONLY (R3). -/
def State.receives (s : State) : Bool :=
  match s.life.state with
  | .joining | .onLine | .listenOnly => true
  | .offLine | .conflict => false

/-- The station is ON_LINE. -/
def State.onLine (s : State) : Bool := decide (s.life.state = .onLine)

/-- The station is JOINING. -/
def State.joining (s : State) : Bool := decide (s.life.state = .joining)

/-- A configuration is held: START has been accepted (R20). -/
def State.started (s : State) : Bool := s.config.isSome

/-- The oven count N from START, 0 before it. -/
def State.ovenCount (s : State) : Nat := (s.config.map Configuration.ovens).getD 0

/-- The push limit in ms (R127). -/
def State.pushLimit (s : State) : Nat := 1000 * (s.config.map Configuration.pushLimit).getD 0

/-- The reseal limit of a BANK in ms (R96), 0 at any other station. -/
def State.resealLimit (s : State) : Nat :=
  match s.config.map Configuration.role with
  | some (.bank _ p1) => 1000 * p1.resealLimit
  | some (.pusher _) | some .guide | some (.quench _) | none => 0

/-- The consent mask (R118); empty before START. -/
def State.consent (s : State) : ConsentMask := (s.config.map Configuration.consent).getD ⟨false, false, false⟩

/-- A BANK's fields of START. -/
def State.bankConfig (s : State) : Option (BankPart0 × BankPart1) :=
  match s.config with
  | some ⟨_, _, _, .bank p0 p1⟩ => some (p0, p1)
  | _ => none

/-- A QUENCH station's fields of START. -/
def State.carConfig (s : State) : Option CarConfig :=
  match s.config with
  | some ⟨_, _, _, .quench c⟩ => some c
  | _ => none

/-- The place in this bank of oven n, where its range covers n (R35). -/
def State.ovenIndex (s : State) (n : Nat) : Option Nat :=
  match s.bankConfig with
  | some (p0, _) => if p0.first ≤ n ∧ n < p0.first + p0.count then some (n - p0.first) else none
  | none => none

/-- The oven number at place i of this bank. -/
def State.ovenAt (s : State) (i : Nat) : Nat :=
  match s.bankConfig with
  | some (p0, _) => p0.first + i
  | none => i

/-! ## Timers -/

/-- A timer after d ms: it stands at its limit until its expiry is taken (log 4). A stopped timer stays stopped. -/
def runTimer (d limit : Nat) : Option Nat → Option Nat
  | none => none
  | some t => some (min (t + d) limit)

/-- An age after d ms, saturating (R24, R60). -/
def runAge (d age : Nat) : Nat := min (age + d) Config.ageMax

/-- The moment a is later than the moment b: 1 to 2,147,483,647 ms beyond it, modulo the wrap (scope, section 2). -/
def later (a b : Nat) : Bool :=
  let gap := (a + Config.timeWrap - b) % Config.timeWrap
  decide (1 ≤ gap) && decide (gap ≤ 2147483647)

/-! ## The local port's queues (R180, R182, R183) -/

/-- A CONSENT_ASK report. -/
def Report.isAsk : Report → Bool
  | .consentAsk _ _ => true
  | _ => false

/-- The report at the head begins transmission: it leaves the queue with the SPILLED mark as it stands, which is then cleared
(R182). -/
def Port.sendReport (p : Port) : Port :=
  match p.reports with
  | r :: rest => { p with reports := rest, tx := some (.report r p.spilled), spilled := false }
  | [] => p

/-- A free transmitter takes the next message: a CONSENT_ASK at the head of the report queue, else the oldest reply, else the
report at the head (R183). Every offer and reply kicks it as it is made, so of a row that reports and then replies the first report begins
before the reply (DESIGN CHOICE, log 63). -/
def Port.kick (p : Port) : Port :=
  match p.tx with
  | some _ => p
  | none =>
    if (p.reports.head?.map Report.isAsk).getD false then p.sendReport
    else
      match p.replies with
      | r :: rest => { p with replies := rest, tx := some (.reply r) }
      | [] => p.sendReport

/-- A report joins the tail, or is lost with the SPILLED mark set (R182). -/
def Port.offerReport (p : Port) (r : Report) : Port :=
  (if p.reports.length < Config.reportMax then { p with reports := p.reports ++ [r] } else { p with spilled := true }).kick

/-- A CONSENT_ASK joins at the head; the entry at the tail makes room for it (R182). -/
def Port.offerAsk (p : Port) (r : Report) : Port :=
  (if p.reports.length < Config.reportMax then { p with reports := r :: p.reports }
   else { p with reports := r :: p.reports.dropLast, spilled := true }).kick

/-- A reply joins the reply queue, or is lost with the SPILLED mark set (R180, R182). -/
def Port.offerReply (p : Port) (r : Reply) : Port :=
  (if p.replies.length < Config.replyMax then { p with replies := p.replies ++ [r] } else { p with spilled := true }).kick

/-- A block offers a report (R182). -/
def State.report (s : State) (r : Report) : State := s.withPort (s.port.offerReport r)

/-- Reports offered one after another. -/
def State.reportAll (s : State) (rs : List Report) : State := rs.foldl State.report s

/-- A report offered only where the condition holds. -/
def State.reportIf (s : State) (b : Bool) (r : Report) : State := if b then s.report r else s

/-- A reply enters the reply queue (R180). Its kind is the command's plus 0x80 (R177). -/
def State.reply (s : State) (kind : Byte) (result : Result) (detail : Nat := 0) (values : List Byte := []) : State :=
  s.withPort (s.port.offerReply ⟨kind + 0x80#8, result, detail, values⟩)

/-- The command at the head of the buffer is answered and leaves it (R179). -/
def State.answer (s : State) (result : Result) (detail : Nat := 0) (values : List Byte := []) : State :=
  match s.port.commands with
  | c :: rest => (s.withPort { s.port with commands := rest }).reply c.kind result detail values
  | [] => s

/-! ## Bank records by place -/

/-- Oven record i. -/
def State.oven? (s : State) (i : Nat) : Option Oven := s.bank.ovens[i]?

/-- Loop i. -/
def State.loop? (s : State) (i : Nat) : Option Loop := s.bank.loops[i]?

/-- Door record d. -/
def State.door? (s : State) (d : Nat) : Option Door := s.bank.doors[d]?

/-- Oven record i changed. -/
def State.setOven (s : State) (i : Nat) (f : Oven → Oven) : State :=
  s.withBank { s.bank with ovens := s.bank.ovens.modify i f }

/-- Loop i changed. -/
def State.setLoop (s : State) (i : Nat) (f : Loop → Loop) : State :=
  s.withBank { s.bank with loops := s.bank.loops.modify i f }

/-- Door record d changed. -/
def State.setDoor (s : State) (d : Nat) (f : Door → Door) : State :=
  s.withBank { s.bank with doors := s.bank.doors.modify d f }

/-- The number of a side: 0 for PS, 1 for CS (R77, R189). -/
def Side.index : Side → Nat
  | .ps => 0
  | .cs => 1

/-- The door record of side j of the oven at place i (R77). -/
def doorIndex (i : Nat) (j : Side) : Nat := 2 * i + j.index

/-- The side of door record d (R77). -/
def doorSide (d : Nat) : Side := if d % 2 = 0 then .ps else .cs

/-- The oven number of door record d. -/
def State.doorOven (s : State) (d : Nat) : Nat := s.ovenAt (d / 2)

/-- Both latches of the oven at place i read LATCHED (R40, R41). -/
def State.bothLatched (s : State) (i : Nat) : Bool :=
  [Side.ps, Side.cs].all fun j => (s.door? (doorIndex i j)).any fun x => decide (x.latch = .latched)

/-! ## Claim records -/

/-- The claim record where its end state is OPEN. -/
def State.openClaim (s : State) : Option Claim := s.claims.record.filter fun c => decide (c.ending = .opened)

/-- The OPEN claim where it is on oven n. -/
def State.claimOn (s : State) (n : Nat) : Option Claim := s.openClaim.filter fun c => decide (c.oven = n)

/-- The OPEN claim where its oven and serial are n and c (R123, R130). -/
def State.claimMatching (s : State) (n c : Nat) : Option Claim := (s.claimOn n).filter fun r => decide (r.serial = c)

/-- A reseal record is open. -/
def Reseal.isOpen (r : Reseal) : Bool := decide (r.ending = .opened)

/-- The open reseal records, by slot. -/
def State.openReseals (s : State) : List Reseal := (s.claims.reseals.filterMap id).filter Reseal.isOpen

/-- The open reseal claim of a side (R149, R152). Of several, at a station that did not judge, the one in the lowest slot (DESIGN CHOICE,
log 70). -/
def State.openReseal (s : State) (j : Side) : Option Reseal := s.openReseals.find? fun r => decide (r.side = j)

/-- An open reseal record names the oven and side. -/
def State.resealOn (s : State) (n : Nat) (j : Side) : Bool :=
  s.openReseals.any fun r => decide (r.oven = n ∧ r.side = j)

/-- The claim record changed. -/
def State.setRecord (s : State) (r : Option Claim) : State := s.withClaims { s.claims with record := r }

/-- The expected next serial after the highest seen (R90, R112, R171). -/
def nextSerial (highest : Nat) : Nat := highest % 255 + 1

/-- In judging: a station that has seen none accepts any serial (R33, R112). -/
def serialExpected (highest serial : Nat) : Bool := decide (highest = 0) || decide (serial = nextSerial highest)

/-! ## Station table -/

/-- The entry of station id. -/
def State.entry (s : State) (id : Nat) : Entry := (s.table[id]?).getD .reset

/-- The station is recorded with the role (R114, R123). -/
def State.hasRole (s : State) (id : Nat) (r : Role) : Bool := decide ((s.entry id).role = some r)

/-- The entry's bank range covers the oven. -/
def Entry.covers (e : Entry) (n : Nat) : Bool :=
  decide (e.role = some .bank) && e.range.any fun (f, k) => decide (f ≤ n ∧ n < f + k)

/-- The station is recorded as a BANK whose range covers the oven (R89, R95, R123). -/
def State.bankCovers (s : State) (id n : Nat) : Bool := (s.entry id).covers n

/-- The id of the owning bank: the lowest id whose entry is PRESENT and covers the oven (R102). -/
def State.owner? (s : State) (n : Nat) : Option Nat :=
  s.table.findIdx? fun e => decide (e.presence = .present) && e.covers n

/-- The station recorded with the role (R33, R159). Where several entries show it the lowest id is taken (DESIGN CHOICE, log 42). -/
def State.stationOf (s : State) (r : Role) : Option Nat := s.table.findIdx? fun e => decide (e.role = some r)

/-! ## Sides of roles -/

/-- The side a machine serves: PS for the PUSHER, CS for the GUIDE (section 8). -/
def State.side? (s : State) : Option Side :=
  match s.role with
  | .pusher => some .ps
  | .guide => some .cs
  | .bank | .quench => none

/-- The role of the machine that serves a side. -/
def Side.role : Side → Role
  | .ps => .pusher
  | .cs => .guide

/-- Membership of a stage in a stage set. -/
def StageSet.has (t : StageSet) : Stage → Bool
  | .isolated => t.isolated
  | .psDoorOff => t.psDoorOff
  | .csDoorOff => t.csDoorOff
  | .ramOut => t.ramOut
  | .carLoaded => t.carLoaded
  | .ramHome => t.ramHome
  | .psDoorOn => t.psDoorOn
  | .csDoorOn => t.csDoorOn
  | .guideSet => t.guideSet
  | .carReady => t.carReady

/-- A stage set or cleared. -/
def StageSet.put (t : StageSet) (x : Stage) (b : Bool) : StageSet :=
  match x with
  | .isolated => { t with isolated := b }
  | .psDoorOff => { t with psDoorOff := b }
  | .csDoorOff => { t with csDoorOff := b }
  | .ramOut => { t with ramOut := b }
  | .carLoaded => { t with carLoaded := b }
  | .ramHome => { t with ramHome := b }
  | .psDoorOn => { t with psDoorOn := b }
  | .csDoorOn => { t with csDoorOn := b }
  | .guideSet => { t with guideSet := b }
  | .carReady => { t with carReady := b }

/-- The eight permanent stages are all set (R125). -/
def StageSet.complete (t : StageSet) : Bool :=
  t.isolated && t.psDoorOff && t.csDoorOff && t.ramOut && t.carLoaded && t.ramHome && t.psDoorOn && t.csDoorOn

end Sys2Proof.Machine
end

