-- ==== Sys2Proof/Machine/Codes.lean ====
section
/-! DEFINITION. The codes of R187, R189 and R191. -/

namespace Sys2Proof.Machine

def Role.code : Role → Nat
  | .bank => 0 | .pusher => 1 | .guide => 2 | .quench => 3

/-- The role of a strap or role code. Two bits have no further value. -/
def Role.ofStrap (b : BitVec 2) : Role :=
  if b = 0#2 then .bank else if b = 1#2 then .pusher else if b = 2#2 then .guide else .quench

/-- Role of a station table listing, 4 for UNKNOWN. -/
def roleListing : Option Role → Nat
  | some r => r.code
  | none => 4

def SummaryState.code : SummaryState → Nat
  | .unknown => 0 | .empty => 1 | .notReady => 2 | .ready => 3 | .overcoked => 4 | .claimed => 5 | .pushing => 6 | .held => 7
  | .faulted => 8 | .outOfService => 9

/-- R186: a state code of 10..15 is treated as UNKNOWN. -/
def SummaryState.ofCode : Nat → SummaryState
  | 1 => .empty | 2 => .notReady | 3 => .ready | 4 => .overcoked | 5 => .claimed | 6 => .pushing | 7 => .held
  | 8 => .faulted | 9 => .outOfService | _ => .unknown

def Stage.code : Stage → Nat
  | .isolated => 0 | .psDoorOff => 1 | .csDoorOff => 2 | .ramOut => 3 | .carLoaded => 4 | .ramHome => 5 | .psDoorOn => 6
  | .csDoorOn => 7 | .guideSet => 8 | .carReady => 9

def Stage.ofCode? : Nat → Option Stage
  | 0 => some .isolated | 1 => some .psDoorOff | 2 => some .csDoorOff | 3 => some .ramOut | 4 => some .carLoaded
  | 5 => some .ramHome | 6 => some .psDoorOn | 7 => some .csDoorOn | 8 => some .guideSet | 9 => some .carReady | _ => none

/-- GUIDE_CLEAR, a code of the STAGE command only. -/
def guideClearCode : Nat := 10

def Side.code : Side → Nat
  | .ps => 0 | .cs => 1

def Side.ofCode? : Nat → Option Side
  | 0 => some .ps | 1 => some .cs | _ => none

/-- The no-side code. -/
def noSide : Nat := 2

def AbandonCause.code : AbandonCause → Nat
  | .timeout => 1 | .command => 2 | .carFault => 3 | .dropped => 4 | .other c => c

/-- The cause of an abandon frame; DROPPED is assigned in reports only. -/
def AbandonCause.ofCode : Nat → AbandonCause
  | 1 => .timeout | 2 => .command | 3 => .carFault | c => .other c

def StopCause.code : StopCause → Nat
  | .command => 0 | .stopInput => 1 | .other c => c

def StopCause.ofCode : Nat → StopCause
  | 0 => .command | 1 => .stopInput | c => .other c

def ResealEnd.code : ResealEnd → Nat
  | .opened => 0 | .done => 1 | .givenUp => 2

/-- Reseal outcome of a RESEAL_DONE frame and of RESEAL_ENDED. -/
def ResealEnd.outcome : ResealEnd → Nat
  | .givenUp => 1 | _ => 0

def ResealEnd.ofOutcome? : Nat → Option ResealEnd
  | 0 => some .done | 1 => some .givenUp | _ => none

def Quality.code : Quality → Nat
  | .good => 0 | .rail => 1 | .missing => 2

/-- R62: a quality other than GOOD is recorded as RAIL. -/
def Quality.ofCode : Nat → Quality
  | 0 => .good | _ => .rail

def CarState.code : CarState → Nat
  | .idle => 0 | .travelling => 1 | .spotted => 2 | .loading => 3 | .loaded => 4 | .quenching => 5 | .draining => 6
  | .dumping => 7 | .fault => 8

def Load.code : Load → Nat
  | .none => 0 | .hot => 1 | .quenched => 2

def Load.ofCode? : Nat → Option Load
  | 0 => some .none | 1 => some .hot | 2 => some .quenched | _ => Option.none

def Cause.code : Cause → Nat
  | .check => 1 | .malformed => 2 | .holdTimeout => 3 | .stopped => 4 | .role => 5 | .staleSerial => 6 | .claimBusy => 7
  | .resealOpen => 8 | .notReady => 9 | .doorState => 10 | .regulator => 11 | .position => 12 | .car => 13 | .ownerAbsent => 14
  | .ownerJoining => 15 | .order => 16 | .consentRefused => 17 | .consentTimeout => 18 | .localStop => 19 | .strap => 20
  | .idClash => 21 | .roleDuplicate => 22 | .rangeOverlap => 23

def OvenState.code : OvenState → Nat
  | .unknown => 0 | .empty => 1 | .coking => 2 | .claimed => 3 | .pushing => 4 | .held => 5 | .faulted => 6 | .outOfService => 7

def Readiness.code : Readiness → Nat
  | .notReady => 0 | .ready => 1 | .overcoked => 2

def Seal.code : Seal → Nat
  | .seating => 0 | .tight => 1 | .weeping => 2 | .leaking => 3 | .off => 4 | .resealing => 5 | .unlatchedUnexpected => 6

def latchCode : Latch → Nat
  | .latched => 0 | .unlatched => 1

def Watch.code : Watch → Nat
  | .offExpected => 1 | .onExpected => 2

def Mode.code : Mode → Nat
  | .collect => 0 | .charge => 1 | .isolating => 2 | .isolated => 3 | .manual => 4 | .released => 5

def StationState.code : StationState → Nat
  | .offLine => 0 | .joining => 1 | .onLine => 2 | .listenOnly => 3 | .conflict => 4

def LineState.code : LineState → Nat
  | .off => 0 | .seeking => 1 | .gap => 2 | .idle => 3 | .sending => 4 | .receiving => 5 | .settle => 6 | .stopRun => 7
  | .blocked => 8

def Presence.code : Presence → Nat
  | .absent => 0 | .present => 1 | .lost => 2

def ClaimEnd.code : ClaimEnd → Nat
  | .opened => 0 | .closed => 1 | .abandoned _ => 2

def Attention.code : Attention → Nat
  | .overcoked => 0 | .faulted => 1 | .sensorLost => 2 | .unlatchedUnexpected => 3 | .doorMismatch => 4 | .carFault => 5

def StopEvent.code : StopEvent → Nat
  | .pulse => 0 | .note => 1 | .adopted => 2 | .stuckLine => 3

def ClaimResult.code : ClaimResult → Nat
  | .taken => 0 | .vetoed => 1 | .cut => 2 | .listenOnly => 3

/-- The cycle marks in READ_PLAN. R189 has no row for them; they take the codes 0 to 3 in the order of R97 (DESIGN CHOICE, log 14). -/
def Mark.code : Mark → Nat
  | .unpushed => 0 | .pushed => 1 | .skippedOos => 2 | .faultSkipped => 3

def Move.code : Move → Nat
  | .spot _ => 0 | .tower => 1 | .wharf => 2 | .park => 3

/-- The target of a move as a marker (R169). -/
def Move.target : Move → Nat
  | .spot n => n | .tower => 200 | .wharf => 201 | .park => 202

/-- Result codes in the order of the table of R180. -/
def Result.code : Result → Nat
  | .accepted => 0 | .refused => 1 | .busy => 2 | .badArg => 3 | .badState => 4 | .notRole => 5 | .notReady => 6
  | .ownerAbsent => 7 | .order => 8 | .tooLate => 9 | .badMessage => 10

/-- Detail bytes of ACCEPTED (R191). -/
def detailWithdrawn : Nat := 1
def detailClamped : Nat := 2
def detailPartHeld : Nat := 3

def FrameKind.code : FrameKind → Nat
  | .census => 0 | .announce => 1 | .mainPressure => 2 | .charged => 3 | .pushClaim => 4 | .pushStage => 5 | .pushAbandon => 6
  | .resealCall => 7 | .resealClaim => 8 | .resealDone => 9 | .stopNote => 10 | .resume => 11

/-- R187: codes 12 to 15 are unassigned. -/
def FrameKind.ofCode? : Nat → Option FrameKind
  | 0 => some .census | 1 => some .announce | 2 => some .mainPressure | 3 => some .charged | 4 => some .pushClaim
  | 5 => some .pushStage | 6 => some .pushAbandon | 7 => some .resealCall | 8 => some .resealClaim | 9 => some .resealDone
  | 10 => some .stopNote | 11 => some .resume | _ => none

/-- Priority of a kind (01, the table at the head of the chapter). -/
def FrameKind.priority : FrameKind → Nat
  | .stopNote | .resume => 0
  | .pushStage | .pushAbandon => 1
  | .pushClaim | .resealDone => 2
  | .resealClaim | .charged => 3
  | .resealCall | .mainPressure => 4
  | .announce => 5
  | .census => 6

/-- A kind that is sent again after a veto (R16). -/
def FrameKind.retriable : FrameKind → Bool
  | .pushStage | .pushAbandon | .resealDone | .charged | .stopNote | .resume => true
  | .pushClaim | .resealClaim | .census | .announce | .mainPressure | .resealCall => false

end Sys2Proof.Machine
end

