-- ==== Sys2Proof/Machine/Frames.lean ====
section
/-! DEFINITION. Frames as characters (R4, R185 to R188, R190): the check character, sending and receiving a frame, the census
field, the reception faults (R7) and the frame rules (R12). -/

namespace Sys2Proof.Machine

/-! ## The check character (R190) -/

/-- One of the eight shifts. -/
def crcShift (c : Byte) : Byte := if c.msb then (c <<< 1) ^^^ 0x07#8 else c <<< 1

/-- One character. -/
def crcStep (c x : Byte) : Byte :=
  crcShift (crcShift (crcShift (crcShift (crcShift (crcShift (crcShift (crcShift (c ^^^ x))))))))

/-- The CRC-8 of characters in sending order. -/
def crc8 (cs : List Byte) : Byte := cs.foldl crcStep 0#8

/-! ## Sending -/

/-- A number as one byte. -/
def byte (n : Nat) : Byte := BitVec.ofNat 8 n

/-- A flag as one byte. -/
def flagByte (b : Bool) : Byte := if b then 1#8 else 0#8

/-- The low n bytes of a number, low byte first, in two's complement (R185, R191). -/
def lowFirst : Nat → Int → List Byte
  | 0, _ => []
  | n + 1, v => BitVec.ofInt 8 v :: lowFirst n (v / 256)

/-- A bit of a byte, by place. -/
def bitAt (b : Bool) (i : Nat) : Byte := if b then 1#8 <<< i else 0#8

/-- The two stage bytes of a trailer: bit b for the stage of code b (R187). -/
def StageSet.bytes (t : StageSet) : List Byte :=
  [bitAt t.isolated 0 ||| bitAt t.psDoorOff 1 ||| bitAt t.csDoorOff 2 ||| bitAt t.ramOut 3 ||| bitAt t.carLoaded 4 |||
     bitAt t.ramHome 5 ||| bitAt t.psDoorOn 6 ||| bitAt t.csDoorOn 7,
   bitAt t.guideSet 0 ||| bitAt t.carReady 1]

/-- The claim trailer (R187). -/
def Trailer.bytes (t : Trailer) : List Byte := [byte t.oven, byte t.serial] ++ t.stages.bytes

/-- The role of a payload (R29). -/
def Payload.role : Payload → Role
  | .bank _ _ => .bank
  | .pusher _ _ _ _ => .pusher
  | .guide _ _ _ _ => .guide
  | .quench _ _ _ _ => .quench

/-- The role payload (R187). -/
def Payload.bytes : Payload → List Byte
  | .bank first sums => [byte first, byte sums.length] ++ sums
  | .pusher next cycle pass pos => [byte next] ++ lowFirst 2 cycle ++ [byte pass, byte pos]
  | .guide pos len oven side => [byte pos, byte len, byte oven, byte side]
  | .quench st marker load head => [byte st, byte marker, byte load, byte head]

/-- The kind of a body. -/
def Body.kind : Body → FrameKind
  | .census => .census
  | .announce _ _ => .announce
  | .mainPressure _ _ => .mainPressure
  | .charged _ => .charged
  | .pushClaim _ _ _ => .pushClaim
  | .pushStage _ _ _ _ => .pushStage
  | .pushAbandon _ _ _ => .pushAbandon
  | .resealCall _ _ => .resealCall
  | .resealClaim _ _ _ => .resealClaim
  | .resealDone _ _ _ _ => .resealDone
  | .stopNote _ _ => .stopNote
  | .resume _ => .resume

/-- The body characters in sending order (R187). -/
def Body.bytes : Body → List Byte
  | .census => []
  | .announce p t => byte p.role.code :: (p.bytes ++ t.bytes)
  | .mainPressure p q => lowFirst 2 p ++ [byte q]
  | .charged n => [byte n]
  | .pushClaim n c f => [byte n, byte c, flagByte f]
  | .pushStage n c x r => [byte n, byte c, byte x, flagByte r]
  | .pushAbandon n c a => [byte n, byte c, byte a]
  | .resealCall n j => [byte n, byte j]
  | .resealClaim n j r => [byte n, byte j, byte r]
  | .resealDone n j r o => [byte n, byte j, byte r, byte o]
  | .stopNote a r => [byte a, byte r]
  | .resume r => [byte r]

/-- The oven a body names, 0 if none (R120). An ANNOUNCE, which may name several, and a malformed frame without a body count as naming none
(DESIGN CHOICE, log 67). -/
def Body.oven : Body → Nat
  | .charged n | .pushClaim n _ _ | .pushStage n _ _ _ | .pushAbandon n _ _ | .resealCall n _ | .resealClaim n _ _
  | .resealDone n _ _ _ => n
  | .census | .announce _ _ | .mainPressure _ _ | .stopNote _ _ | .resume _ => 0

/-- The kind/flags character (R185). -/
def Frame.kindFlags (f : Frame) : Byte :=
  byte f.body.kind.code ||| bitAt f.stopped 4 ||| bitAt f.attention 5 ||| bitAt f.leaving 6 ||| bitAt f.joining 7

/-- Characters 1 to 3+L. -/
def Frame.head (f : Frame) : List Byte :=
  [byte (f.priority * 32 + f.sender), f.kindFlags, byte f.body.bytes.length] ++ f.body.bytes

/-- Characters 1 to 4+L (R4). -/
def Frame.chars (f : Frame) : List Byte := f.head ++ [crc8 f.head]

/-! ## Characters on DAT (R2, R4) -/

/-- The eight data bits, least significant first; true is recessive, so a data bit 0 is dominant (R2). -/
def dataBits (c : Byte) : List Bool := (List.range 8).map c.getLsbD

/-- A character of ten bits: a dominant start bit, the data bits, a recessive stop bit (R2). -/
def charBits (c : Byte) : List Bool := false :: (dataBits c ++ [true])

/-- The data bits of a contention character, most significant first (R4). -/
def contentionBits (c : Byte) : List Bool := (dataBits c).reverse

/-- The bits a sender drives for its characters, back to back; the first is the contention character (R2, R4). -/
def lineBits : List Byte → List Bool
  | [] => []
  | c :: cs => (false :: (contentionBits c ++ [true])) ++ cs.flatMap charBits

/-- A byte whose bit i is place i of the bits. -/
def ofBits (bits : List Bool) : Byte := BitVec.ofNat 8 (bits.foldr (fun b n => 2 * n + b.toNat) 0)

/-- A character as a receiver reads its ten bits: eight data bits in the order given, and a framing error where the stop bit reads
dominant (R2). -/
def readChar (contention : Bool) (bits : List Bool) : RxChar :=
  let data := (bits.drop 1).take 8
  ⟨ofBits (if contention then data.reverse else data), bits[9]? != some true⟩

/-- n characters as a receiver reads them back to back; the first is the contention character (R4). -/
def readChars : Nat → Bool → List Bool → List RxChar
  | 0, _, _ => []
  | n + 1, contention, bits => readChar contention (bits.take 10) :: readChars n false (bits.drop 10)

/-- Readback of the remaining bits of a contention character against rivals that began with it: the station has lost at the first
bit that it sends recessive and reads dominant. A rival that sent recessive there stops too (R5). -/
def losesBits : List Bool → List (List Bool) → Bool
  | [], _ => false
  | b :: bs, rivals =>
    let level := b && rivals.all fun r => r.headD true
    if b && !level then true
    else losesBits bs ((rivals.filter fun r => r.headD true == level).map List.tail)

/-- A contention character loses to those of its rivals (R5). -/
def losesTo (own : Byte) (rivals : List Byte) : Bool := losesBits (contentionBits own) (rivals.map contentionBits)

/-! ## Receiving -/

/-- A flag byte reads as set when it is not 0 (R186). -/
def byteFlag (b : Byte) : Bool := decide (b ≠ 0#8)

/-- Bytes low byte first as a number. -/
def natLow : List Byte → Nat
  | [] => 0
  | b :: bs => b.toNat + 256 * natLow bs

/-- Bytes low byte first as a signed number. -/
def intLow (bs : List Byte) : Int :=
  let n := natLow bs
  let m := 256 ^ bs.length
  if 2 * n < m then (n : Int) else (n : Int) - (m : Int)

/-- A stage set from its two bytes; bits 10..15 are ignored (R186). -/
def StageSet.ofBytes (a b : Byte) : StageSet :=
  ⟨a.getLsbD 0, a.getLsbD 1, a.getLsbD 2, a.getLsbD 3, a.getLsbD 4, a.getLsbD 5, a.getLsbD 6, a.getLsbD 7, b.getLsbD 0, b.getLsbD 1⟩

/-- A trailer of four bytes. -/
def Trailer.ofBytes : List Byte → Option Trailer
  | [n, c, a, b] => some ⟨n.toNat, c.toNat, .ofBytes a b⟩
  | _ => none

/-- The body of an ANNOUNCE. A length that differs from the one its role code and count give has no body (R29, R186). -/
def announceOfBytes : List Byte → Option Body
  | role :: rest =>
    if role = 0#8 then
      match rest with
      | first :: k :: more =>
        if 1 ≤ k.toNat ∧ k.toNat ≤ 8 ∧ more.length = k.toNat + 4 then
          (Trailer.ofBytes (more.drop k.toNat)).map (.announce (.bank first.toNat (more.take k.toNat)))
        else none
      | _ => none
    else if role = 1#8 then
      match rest with
      | next :: c0 :: c1 :: pass :: pos :: more =>
        (Trailer.ofBytes more).map (.announce (.pusher next.toNat (natLow [c0, c1]) pass.toNat pos.toNat))
      | _ => none
    else if role = 2#8 then
      match rest with
      | pos :: len :: oven :: side :: more =>
        (Trailer.ofBytes more).map (.announce (.guide pos.toNat len.toNat oven.toNat side.toNat))
      | _ => none
    else if role = 3#8 then
      match rest with
      | st :: marker :: load :: head :: more =>
        (Trailer.ofBytes more).map (.announce (.quench st.toNat marker.toNat load.toNat head.toNat))
      | _ => none
    else none
  | [] => none

/-- The body of a kind, where its length is the kind's (R12, R187). -/
def Body.ofBytes : FrameKind → List Byte → Option Body
  | .census, [] => some .census
  | .announce, bs => announceOfBytes bs
  | .mainPressure, [a, b, q] => some (.mainPressure (intLow [a, b]) q.toNat)
  | .charged, [n] => some (.charged n.toNat)
  | .pushClaim, [n, c, f] => some (.pushClaim n.toNat c.toNat (byteFlag f))
  | .pushStage, [n, c, x, r] => some (.pushStage n.toNat c.toNat x.toNat (byteFlag r))
  | .pushAbandon, [n, c, a] => some (.pushAbandon n.toNat c.toNat a.toNat)
  | .resealCall, [n, j] => some (.resealCall n.toNat j.toNat)
  | .resealClaim, [n, j, r] => some (.resealClaim n.toNat j.toNat r.toNat)
  | .resealDone, [n, j, r, o] => some (.resealDone n.toNat j.toNat r.toNat o.toNat)
  | .stopNote, [a, r] => some (.stopNote a.toNat r.toNat)
  | .resume, [r] => some (.resume r.toNat)
  | _, _ => none

/-- The frame that characters 1 to 4+L spell, where the kind is assigned and the length is the kind's. The check character is
not compared here. -/
def Frame.ofChars : List Byte → Option Frame
  | c1 :: c2 :: _len :: rest =>
    (FrameKind.ofCode? (c2.toNat % 16)).bind fun k =>
      (Body.ofBytes k rest.dropLast).map fun b =>
        { priority := c1.toNat / 32, sender := c1.toNat % 32, stopped := c2.getLsbD 4, attention := c2.getLsbD 5,
          leaving := c2.getLsbD 6, joining := c2.getLsbD 7, body := b }
  | _ => none

/-! ## Reception faults (R7) -/

/-- The two copies of a census field agree, and it is whole (R188). -/
def censusCopies (cs : List RxChar) : Bool :=
  decide (cs.length = 16) && (cs.all fun c => !c.framing) &&
    decide ((cs.take 8).map RxChar.value = (cs.drop 8).map RxChar.value)

/-- The kind/flags character names the CENSUS kind, so a census field follows (R4). -/
def isCensus (cs : List Byte) : Bool := (cs[1]?).any fun c => decide (c.toNat % 16 = 0)

/-- A fault in the census field that follows a CENSUS frame (R7, R188). -/
def censusFault (cs : List Byte) (field : List RxChar) : Bool := isCensus cs && !censusCopies field

/-- A reception fault of a frame that a receiver has assembled (R7): HLD before its own frame end, a framing error, a length
above 16, characters that do not make up the frame's length, a wrong check character, or a census field that does not agree. -/
def receptionFault (rx : Reception) : Bool :=
  let cs := rx.chars.map RxChar.value
  rx.hldEarly || rx.chars.any RxChar.framing ||
    !((cs[2]?).any fun l => decide (l.toNat ≤ 16 ∧ cs.length = 4 + l.toNat)) ||
    !decide (cs.getLast? = some (crc8 cs.dropLast)) || censusFault cs rx.census

/-! ## The frame rules (R12) -/

/-- A field that must name an oven. -/
def ovenOk (n oven : Nat) : Bool := decide (1 ≤ oven ∧ oven ≤ n)

/-- A field in which 0 means no oven. -/
def ovenOrNoneOk (n oven : Nat) : Bool := decide (oven ≤ n)

/-- The oven fields of a payload (R186). -/
def Payload.ovensOk (n : Nat) : Payload → Bool
  | .bank first _ => ovenOk n first
  | .pusher next _ _ pos => ovenOrNoneOk n next && ovenOrNoneOk n pos
  | .guide pos _ oven _ => ovenOrNoneOk n pos && ovenOrNoneOk n oven
  | .quench _ _ _ _ => true

/-- The oven fields of a body (R12, R186). -/
def Body.ovensOk (n : Nat) : Body → Bool
  | .announce p t => p.ovensOk n && ovenOrNoneOk n t.oven
  | .charged o | .pushClaim o _ _ | .pushStage o _ _ _ | .pushAbandon o _ _ | .resealCall o _ | .resealClaim o _ _
  | .resealDone o _ _ _ => ovenOk n o
  | .census | .mainPressure _ _ | .stopNote _ _ | .resume _ => true

/-- A frame received cleanly breaks the frame rules. A frame whose kind or length is wrong is `none`. -/
def breaksRules (n : Nat) : Option Frame → Bool
  | none => true
  | some f => !(decide (f.priority = f.body.kind.priority) && f.body.ovensOk n)

/-! ## The census field (R188) -/

/-- The PRESENT bit of slot s in the first copy: set when received dominant. -/
def slotPresent (field : List Byte) (s : Nat) : Bool := (field[s / 4]?).any fun c => !c.getLsbD (2 * (s % 4))

/-- The ATTENTION bit of slot s. -/
def slotAttention (field : List Byte) (s : Nat) : Bool := (field[s / 4]?).any fun c => !c.getLsbD (2 * (s % 4) + 1)

/-- The census character q of the first copy as the station id drives it: dominant (0) in its own PRESENT bit and, while its
attention condition is raised, in its own ATTENTION bit; recessive elsewhere (R4). -/
def censusDrive (id : Nat) (attention : Bool) (q : Nat) : Byte :=
  if id / 4 = q then
    ~~~((1#8 <<< (2 * (id % 4))) ||| (if attention then 1#8 <<< (2 * (id % 4) + 1) else 0#8))
  else ~~~0#8

/-- The census field on DAT where a station drives its own characters in step: a bit is recessive only where all leave it so
(R1, R4). A station that drives none leaves it as the others drive it. -/
def wireCensus (own : List Byte) (field : List RxChar) : List RxChar :=
  field.mapIdx fun i c => { c with value := c.value &&& (own[i]?).getD (~~~0#8) }

end Sys2Proof.Machine
end

