-- ==== Sys2Proof/Machine/Operands.lean ====
section
/-! DEFINITION. Operands: converter samples and levels (R54, R60, R79), and the arithmetic of section 4.3 of the scope. -/

namespace Sys2Proof.Machine

/-- clamp(v, lo, hi) (scope, section 4.3). -/
def clampInt (v lo hi : Int) : Int := if v < lo then lo else if hi < v then hi else v

/-- ceil(a / b). -/
def ceilDiv (a b : Nat) : Nat := (a + b - 1) / b

/-- A raw sample at the rail: −2048 or 2047 (R54, R60). -/
def sampleQuality (x : Int) : Quality := if x = -2048 ∨ x = 2047 then .rail else .good

/-- An oven pressure: x × 2500 / 2048, truncated toward zero (R54). -/
def ovenPressure (x : Int) : Int := (x * 2500).tdiv 2048

/-- The main pressure: x × 5000 / 2048, truncated toward zero (R60). -/
def mainPressure (x : Int) : Int := (x * 5000).tdiv 2048

/-- A leak level clamped to 0..255 (R79). -/
def leakValue (level : Nat) : Nat := min level 255

end Sys2Proof.Machine
end

