-- ==== Sys2Proof/Machine/Flags.lean ====
section
/-! DEFINITION. The station's attention condition (R37) and the flags a frame carries (R14). -/

namespace Sys2Proof.Machine

/-- A block of the station holds the attention cause (R37, R57, R84, R85, R160). -/
def State.holds (s : State) : Attention → Bool
  | .overcoked => s.bank.ovens.any Oven.overcoked
  | .faulted => s.bank.ovens.any Oven.faulted
  | .sensorLost => s.bank.loops.any Loop.attention
  | .unlatchedUnexpected => s.bank.doors.any Door.unlatched
  | .doorMismatch => s.bank.doors.any Door.mismatched
  | .carFault => s.car.fault

/-- The attention condition: raised while any block holds a cause (R37). -/
def State.attention (s : State) : Bool :=
  s.holds .overcoked || s.holds .faulted || s.holds .sensorLost || s.holds .unlatchedUnexpected || s.holds .doorMismatch ||
    s.holds .carFault

/-- A frame of this station, its flags filled in from the conditions at the moment its contention begins (R14). -/
def State.frameOf (s : State) (e : QueueEntry) : Frame :=
  { priority := e.body.kind.priority, sender := s.straps.id, stopped := s.stop.stopped, attention := s.attention,
    leaving := e.leaving, joining := s.joining, body := e.body }

/-- The census field this station drives: two copies of eight characters (R4). A station that drives nothing leaves all
recessive. -/
def State.censusField (s : State) : List Byte :=
  let one := (List.range 8).map fun q => if s.drives then censusDrive s.straps.id s.attention q else ~~~0#8
  one ++ one

end Sys2Proof.Machine
end

