-- ==== Sys2Proof/Machine/SendQueue.lean ====
section
/-! DEFINITION. The send queue (R14 to R17): offering, withdrawing, and the head of the queue. -/

namespace Sys2Proof.Machine

/-- The station state lets the kind be queued: every kind ON_LINE; CENSUS, ANNOUNCE and STOP_NOTE in JOINING (R32); none in
LISTEN_ONLY (R13), OFF_LINE and CONFLICT (R15). -/
def State.maySend (s : State) (k : FrameKind) : Bool :=
  match s.life.state with
  | .onLine => true
  | .joining => decide (k = .census) || decide (k = .announce) || decide (k = .stopNote)
  | .offLine | .listenOnly | .conflict => false

/-- A PENDING entry that a new frame of kind k makes obsolete (R15). -/
def QueueEntry.obsolete (k : FrameKind) (e : QueueEntry) : Bool :=
  !e.inFlight && decide (e.body.kind = k) && (decide (k = .announce) || decide (k = .mainPressure))

/-- The queue without what a new frame of kind k makes obsolete. -/
def freshQueue (k : FrameKind) (q : List QueueEntry) : List QueueEntry := q.filter fun e => !e.obsolete k

/-- The frame would be queued if it were offered now (R15). -/
def State.accepts (s : State) (b : Body) : Bool :=
  s.maySend b.kind && decide ((freshQueue b.kind s.queue).length < Config.sendQueueMax)

/-- A new entry: PENDING, retry count 0, its age the moment of offering (R15). -/
def State.newEntry (s : State) (b : Body) (leaving : Bool) : QueueEntry :=
  { body := b, leaving := leaving, age := s.time, retries := 0, inFlight := false }

/-- A block offers a frame (R15). A frame of a retriable kind that is not queued is dropped with FRAME_REFUSED. -/
def State.offer (s : State) (b : Body) (leaving : Bool := false) : State :=
  if s.accepts b then s.withQueue (freshQueue b.kind s.queue ++ [s.newEntry b leaving])
  else s.reportIf b.kind.retriable (.frameRefused b)

/-- The PENDING entries that satisfy p are withdrawn (R17). -/
def State.withdraw (s : State) (p : Body → Bool) : State :=
  s.withQueue (s.queue.filter fun e => e.inFlight || !p e.body)

/-- A frame that satisfies p is in the queue. -/
def State.queued (s : State) (p : Body → Bool) : Bool := s.queue.any fun e => p e.body

/-- A PENDING frame that satisfies p is in the queue. -/
def State.queuedPending (s : State) (p : Body → Bool) : Bool := s.queue.any fun e => !e.inFlight && p e.body

/-- The frame in flight satisfies p. -/
def State.queuedInFlight (s : State) (p : Body → Bool) : Bool := s.queue.any fun e => e.inFlight && p e.body

/-- The place of the head of the queue: the first PENDING entry by priority and then by age (R14). -/
def headIndex (q : List QueueEntry) : Option Nat :=
  (List.range 7).findSome? fun p => q.findIdx? fun e => !e.inFlight && decide (e.body.kind.priority = p)

/-- The entry in flight. -/
def State.inFlight? (s : State) : Option QueueEntry := s.queue.find? QueueEntry.inFlight

/-- The entry in flight leaves the queue. -/
def State.dropInFlight (s : State) : State := s.withQueue (s.queue.filter fun e => !e.inFlight)

/-- The entry in flight returns to PENDING at its original age, its retry count raised by n (R5, R16, R18). -/
def State.returnInFlight (s : State) (n : Nat) : State :=
  s.withQueue (s.queue.map fun e => if e.inFlight then { e with inFlight := false, retries := e.retries + n } else e)

/-- A PUSH_STAGE frame for serial c. -/
def Body.isStageOf (c : Nat) : Body → Bool
  | .pushStage _ k _ _ => decide (k = c)
  | _ => false

/-- A PUSH_STAGE frame for serial c of the given stage. -/
def Body.isStage (c : Nat) (x : Stage) : Body → Bool
  | .pushStage _ k y _ => decide (k = c ∧ y = x.code)
  | _ => false

/-- A PUSH_STAGE frame for serial c of the given stage and revoke flag. -/
def Body.isStageTo (c : Nat) (x : Stage) (revoke : Bool) : Body → Bool
  | .pushStage _ k y r => decide (k = c ∧ y = x.code ∧ r = revoke)
  | _ => false

/-- A PUSH_ABANDON frame for serial c. -/
def Body.isAbandonOf (c : Nat) : Body → Bool
  | .pushAbandon _ k _ => decide (k = c)
  | _ => false

/-- A frame of the kind. -/
def Body.isKind (k : FrameKind) (b : Body) : Bool := decide (b.kind = k)

/-- A RESEAL_DONE frame for serial r. -/
def Body.isDoneOf (r : Nat) : Body → Bool
  | .resealDone _ _ k _ => decide (k = r)
  | _ => false

/-- A CHARGED frame for oven n. -/
def Body.isChargedOf (n : Nat) : Body → Bool
  | .charged k => decide (k = n)
  | _ => false

end Sys2Proof.Machine
end

