-- ==== Sys2Proof/Machine/OvenUnit.lean ====
section
/-! DEFINITION. The oven unit of a BANK (03): credit arithmetic, changes of state, attention and the minute tick. -/

namespace Sys2Proof.Machine

/-- The credit target K = 64 × Mt (section 3.5). -/
def BankPart0.creditTarget (p : BankPart0) : Nat := 64 * p.target

/-- The overcoke line K + 64 × Ao (R46). -/
def BankPart0.overcokeLine (p : BankPart0) : Nat := p.creditTarget + 64 * p.allowance

/-- The temperature used (R43). -/
def Oven.tempUsed (p : BankPart0) (o : Oven) : Nat := if o.stale then p.nominal else o.temp.getD p.nominal

/-- The increment I of a credit step (R45). -/
def Oven.increment (p : BankPart0) (o : Oven) : Nat := max 32 (min 96 (64 * o.tempUsed p / p.nominal))

/-- Readiness by credit (R46). -/
def readinessOf (p : BankPart0) (credit : Nat) : Readiness :=
  if credit < p.creditTarget then .notReady else if credit < p.overcokeLine then .ready else .overcoked

/-- Minutes to ready (R47). -/
def Oven.minutesToReady (p : BankPart0) (o : Oven) : Nat :=
  if p.creditTarget ≤ o.credit then 0 else min (ceilDiv (p.creditTarget - o.credit) (o.increment p)) Config.minutesMax

/-- The oven is coking for the credit arithmetic: COKING or CLAIMED. -/
def Oven.cokes (o : Oven) : Bool := decide (o.state = .coking) || decide (o.state = .claimed)

/-- Readiness and minutes recomputed from the credit (R46, R47). -/
def Oven.recompute (p : BankPart0) (o : Oven) : Oven :=
  { o with readiness := readinessOf p o.credit, minutes := o.minutesToReady p }

/-- The record on entry to a state (R36). -/
def Oven.enter (p : BankPart0) (new : OvenState) (o : Oven) : Oven :=
  match new with
  | .coking | .claimed => Oven.recompute p { o with state := new, held := none }
  | .empty | .outOfService =>
    { o with state := new, held := none, readiness := .notReady, minutes := Config.minutesMax, credit := 0, stamp := 0 }
  | .unknown | .pushing | .held | .faulted =>
    { o with state := new, held := none, readiness := .notReady, minutes := Config.minutesMax }

/-- The attention causes an oven holds (R37). -/
def Oven.withCauses (o : Oven) : Oven :=
  { o with overcoked := decide (o.readiness = .overcoked), faulted := decide (o.state = .faulted) }

/-- A record at place i becomes o; each cause added or removed is reported as ATTENTION (R37). -/
def State.putOven (s : State) (i : Nat) (o : Oven) : State :=
  match s.oven? i with
  | none => s
  | some old =>
    let new := o.withCauses
    ((s.setOven i fun _ => new).reportIf (decide (new.overcoked ≠ old.overcoked))
        (.attention (some (s.ovenAt i)) none .overcoked new.overcoked)).reportIf (decide (new.faulted ≠ old.faulted))
      (.attention (some (s.ovenAt i)) none .faulted new.faulted)

/-- OVEN_STATE for the oven at place i (R36, R48). -/
def State.reportOven (s : State) (i : Nat) (before : OvenState) : State :=
  match s.oven? i with
  | none => s
  | some o => s.report (.ovenState (s.ovenAt i) before o.state o.credit o.readiness o.stamp)

/-- OVEN_STATE with old and new state equal. -/
def State.reportOvenUnchanged (s : State) (i : Nat) : State :=
  match s.oven? i with
  | none => s
  | some o => s.reportOven i o.state

/-- The oven at place i enters a state: the record by R36, the held timer by R41, and OVEN_STATE. -/
def State.enterOven (s : State) (i : Nat) (new : OvenState) : State :=
  match s.bankConfig, s.oven? i with
  | some (p, _), some o =>
    let o1 := o.enter p new
    let o2 := if new = .held ∧ s.bothLatched i = true then { o1 with held := some 0 } else o1
    (s.putOven i o2).reportOven i o.state
  | _, _ => s

/-- A tick's temperature step (R43). -/
def Oven.tickTemp (o : Oven) : Oven :=
  let age := min (o.tempAge + 1) 65535
  { o with tempAge := age, stale := decide (o.temp = none) || decide (180 < age) }

/-- A tick's credit step (R45). -/
def Oven.tickCredit (p : BankPart0) (o : Oven) : Oven :=
  if o.cokes then { o with credit := min (o.credit + o.increment p) Config.creditMax } else o

/-- A tick's charge time stamp step (R48). -/
def Oven.tickStamp (o : Oven) : Oven :=
  match o.state with
  | .coking | .claimed | .pushing | .held | .faulted => { o with stamp := min (o.stamp + 1) 65535 }
  | .unknown | .empty | .outOfService => o

/-- Steps 1 to 3 of a tick, in the order of R44: temperature, credit, and readiness with the minutes. -/
def Oven.tickReadiness (p : BankPart0) (o : Oven) : Oven :=
  let o1 := o.tickTemp.tickCredit p
  if o1.cokes then o1.recompute p else o1

/-- The tick of the oven at place i (R44): steps 1 to 3, with OVEN_STATE where the readiness changes (R46), and then step 4, so that the
report carries the stamp before this tick (R48). -/
def State.tickOven (p : BankPart0) (s : State) (i : Nat) : State :=
  match s.oven? i with
  | none => s
  | some o =>
    let o1 := o.tickReadiness p
    let s1 := s.putOven i o1
    (if o1.readiness = o.readiness then s1 else s1.reportOvenUnchanged i).setOven i Oven.tickStamp

/-- A fresh oven record (R35). -/
def Oven.fresh : Oven :=
  { state := .unknown, credit := 0, readiness := .notReady, minutes := Config.minutesMax, temp := none, tempAge := 0, stale := true,
    stamp := 0, held := none, overcoked := false, faulted := false }

end Sys2Proof.Machine
end

