-- ==== Sys2Proof/Machine/DoorMonitor.lean ====
section
/-! DEFINITION. The door monitor of a BANK (05): seal assessment, seating, unlatching, the mismatch watch, the event latch and
reseal calls. -/

namespace Sys2Proof.Machine

/-- Eight entries of 0 (R77, R81). -/
def leakRingEmpty : List Nat := List.replicate 8 0

/-- The mean of the leak ring: floor(sum / 8) (R80, R86). -/
def Door.mean (x : Door) : Nat := x.ring.sum / 8

/-- A fresh door record with the latch input as read at START (R77). -/
def Door.fresh (latch : Latch) : Door :=
  { latch := latch, sealing := .seating, ring := leakRingEmpty, seat := if latch = .latched then some 0 else none, leaking := none,
    called := false, call := none, reseal := none, mismatch := none, unlatched := false, mismatched := false, held := false,
    snapLatch := latch, snapSeal := .seating }

/-- A leaking episode ends: leaking timer and call timer stop, the reseal-called flag clears (R82, R84, R88, R93). -/
def Door.endEpisode (x : Door) : Door := { x with leaking := none, call := none, called := false }

/-- Entry to SEATING (R81). -/
def Door.enterSeating (x : Door) : Door :=
  { x.endEpisode with
    sealing := .seating, ring := leakRingEmpty, seat := if x.latch = .latched then some 0 else none, reseal := none, unlatched := false }

/-- Entry to UNLATCHED_UNEXPECTED (R84, R95). -/
def Door.enterUnlatched (x : Door) : Door :=
  { x.endEpisode with sealing := .unlatchedUnexpected, seat := none, reseal := none, unlatched := true }

/-- A mismatch watch starts from 0; it replaces any watch, whose cause is removed (R85). -/
def Door.startWatch (k : Watch) (x : Door) : Door := { x with mismatch := some ⟨k, 0⟩, mismatched := false }

/-- A mismatch watch ends (R85). -/
def Door.endWatch (x : Door) : Door := { x with mismatch := none, mismatched := false }

/-- Entry to OFF at a door-off stage (R82). -/
def Door.enterOff (x : Door) : Door :=
  let y := { x.endEpisode with sealing := .off, seat := none, reseal := none, unlatched := false }
  if x.latch = .latched then y.startWatch .offExpected else y

/-- Entry to RESEALING at a taken RESEAL_CLAIM (R93). -/
def Door.enterResealing (x : Door) : Door :=
  { x.endEpisode with sealing := .resealing, seat := none, reseal := some 0, unlatched := false }

/-- A door leaves RESEALING: to SEATING where latched, else to UNLATCHED_UNEXPECTED (R95). -/
def Door.leaveResealing (x : Door) : Door := if x.latch = .latched then x.enterSeating else x.enterUnlatched

/-- One assessment of the seal state (R80). -/
def assess (p1 : BankPart1) (avg : Nat) : Seal → Seal
  | .tight => if p1.weeping ≤ avg then .weeping else .tight
  | .weeping =>
    if p1.leaking ≤ avg then .leaking
    else if (avg : Int) < max ((p1.weeping : Int) - 8) 0 then .tight else .weeping
  | .leaking => if (avg : Int) < (p1.leaking : Int) - 8 then .weeping else .leaking
  | .seating => .seating
  | .off => .off
  | .resealing => .resealing
  | .unlatchedUnexpected => .unlatchedUnexpected

/-- A leak level written and, in TIGHT, WEEPING and LEAKING with the latch LATCHED, assessed (R79, R80, R88). -/
def Door.level (p1 : BankPart1) (v : Nat) (x : Door) : Door :=
  let y := { x with ring := v :: x.ring.take 7 }
  let new := assess p1 y.mean x.sealing
  if x.latch = .latched ∧ new ≠ x.sealing then
    if new = .leaking then { y with sealing := .leaking, leaking := some 0 } else { y.endEpisode with sealing := new }
  else y

/-- The latch field takes a level: the mismatch watch, seating, unexpected unlatching and the leaking timer act (R78, R81, R84,
R85, R88). `covered` is R84's; `seats` says that R83 lets a door in OFF seat. -/
def Door.latchTo (level : Latch) (covered seats : Bool) (x : Door) : Door :=
  let y : Door := { x with latch := level }
  let ends : Bool := match x.mismatch with
    | some m => (decide (m.kind = .offExpected) && decide (level = .unlatched)) ||
        (decide (m.kind = .onExpected) && decide (level = .latched))
    | none => false
  let z := if ends then y.endWatch else y
  match level with
  | .latched =>
    match x.sealing with
    | .seating => { z with seat := some 0 }
    | .unlatchedUnexpected => z.enterSeating
    | .leaking => { z with leaking := some 0 }
    | .off => if seats then z.enterSeating else z
    | .tight | .weeping | .resealing => z
  | .unlatched =>
    match x.sealing with
    | .tight | .weeping => if covered then z else z.enterUnlatched
    | .seating => if covered then { z with seat := none } else z.enterUnlatched
    | .leaking => if covered then { z with leaking := none } else z.enterUnlatched
    | .off | .resealing | .unlatchedUnexpected => z

/-- The event latch captures a change while it is FREE (R86). -/
def Door.capture (x : Door) : Door := { x with held := true, snapLatch := x.latch, snapSeal := x.sealing }

/-- DOOR_EVENT for door record d (R86). -/
def State.doorEvent (s : State) (d : Nat) (x : Door) : Report :=
  .doorEvent (s.doorOven d) (doorSide d) x.snapLatch x.snapSeal x.mean

/-- A door record as one event leaves it: a FREE event latch captures a change of latch or seal state (R86), and each attention
cause added or removed is reported (R84, R85). -/
def State.changeDoor (s : State) (d : Nat) (f : Door → Door) : State :=
  match s.door? d with
  | none => s
  | some old =>
    let new := f old
    let grab := !old.held && (decide (new.latch ≠ old.latch) || decide (new.sealing ≠ old.sealing))
    let put := if grab then new.capture else new
    (((s.setDoor d fun _ => put).reportIf grab (s.doorEvent d put)).reportIf (decide (new.unlatched ≠ old.unlatched))
        (.attention (some (s.doorOven d)) (some (doorSide d)) .unlatchedUnexpected new.unlatched)).reportIf
      (decide (new.mismatched ≠ old.mismatched))
      (.attention (some (s.doorOven d)) (some (doorSide d)) .doorMismatch new.mismatched)

/-- A door is covered by an OPEN push claim on its oven or an open reseal claim on its oven and side (R84). -/
def State.covered (s : State) (d : Nat) : Bool :=
  (s.claimOn (s.doorOven d)).isSome || s.resealOn (s.doorOven d) (doorSide d)

/-- The door-on stage of a side. -/
def Side.doorOn : Side → Stage
  | .ps => .psDoorOn
  | .cs => .csDoorOn

/-- The door-off stage of a side. -/
def Side.doorOff : Side → Stage
  | .ps => .psDoorOff
  | .cs => .csDoorOff

/-- R83 lets a door in OFF seat once its latch reads LATCHED: the claim on its oven has the door-on stage set, or no claim is
OPEN on its oven and the oven is not FAULTED. -/
def State.seats (s : State) (d : Nat) : Bool :=
  match s.claimOn (s.doorOven d) with
  | some c => c.stages.has (doorSide d).doorOn
  | none => !((s.oven? (d / 2)).any fun o => decide (o.state = .faulted))

/-- A door in OFF whose latch reads LATCHED enters SEATING where R83 lets it. -/
def State.seatDoor (s : State) (d : Nat) : State :=
  match s.door? d with
  | some x => if x.sealing = .off ∧ x.latch = .latched ∧ s.seats d = true then s.changeDoor d Door.enterSeating else s
  | none => s

/-- R83 at the two doors of the oven at place i. -/
def State.seatDoors (s : State) (i : Nat) : State := (s.seatDoor (doorIndex i .ps)).seatDoor (doorIndex i .cs)

/-- A running OFF_EXPECTED watch ends with the push claim, abandoned (R85, R132) or closed: of a closure R85 says so only where the watch has
reached 10 s (DESIGN CHOICE, log 66). -/
def Door.claimEnded (x : Door) : Door :=
  match x.mismatch with
  | some m => if m.kind = .offExpected then x.endWatch else x
  | none => x

/-- R85 at the two doors of the oven at place i. -/
def State.endWatches (s : State) (i : Nat) : State :=
  (s.changeDoor (doorIndex i .ps) Door.claimEnded).changeDoor (doorIndex i .cs) Door.claimEnded

/-- The held timer of an oven in HELD after a latch event (R41). -/
def State.heldLatch (s : State) (i : Nat) (level : Latch) : State :=
  match s.oven? i with
  | some o =>
    if o.state = .held then
      if level = .latched then
        if s.bothLatched i then s.setOven i fun o => { o with held := some 0 } else s
      else s.setOven i fun o => { o with held := none }
    else s
  | none => s

/-- FREE_DOOR_LATCH for door record d: the latch is freed and captures a live state that differs from its snapshot (R87). -/
def State.freeLatch (s : State) (d : Nat) : State :=
  match s.door? d with
  | none => s
  | some x =>
    if x.latch ≠ x.snapLatch ∨ x.sealing ≠ x.snapSeal then
      (s.setDoor d fun _ => x.capture).report (s.doorEvent d x.capture)
    else s.setDoor d fun y => { y with held := false }

/-- RESEAL_CALL for door record d, offered, with the call timer from 0 (R88). -/
def State.callReseal (s : State) (d : Nat) : State :=
  (s.setDoor d fun x => { x with call := some 0 }).offer (.resealCall (s.doorOven d) (doorSide d).code)

end Sys2Proof.Machine
end

