-- ==== Sys2Proof/Machine/Stages.lean ====
section
/-! DEFINITION. The stage table (R122). -/

namespace Sys2Proof.Machine

/-- The stage is permanent. -/
def Stage.permanent : Stage → Bool
  | .guideSet | .carReady => false
  | .isolated | .psDoorOff | .csDoorOff | .ramOut | .carLoaded | .ramHome | .psDoorOn | .csDoorOn => true

/-- The role that owns the stage. -/
def Stage.owner : Stage → Role
  | .isolated => .bank
  | .psDoorOff | .ramOut | .ramHome | .psDoorOn => .pusher
  | .csDoorOff | .guideSet | .csDoorOn => .guide
  | .carReady | .carLoaded => .quench

/-- The stage may be set: it is not set, and its own condition holds. -/
def StageSet.maySet (t : StageSet) (x : Stage) : Bool :=
  !t.has x &&
    match x with
    | .isolated => true
    | .psDoorOff | .csDoorOff => t.isolated
    | .guideSet => !t.ramHome
    | .carReady => !t.carLoaded
    | .ramOut => t.isolated && t.psDoorOff && t.csDoorOff && t.guideSet && t.carReady
    | .carLoaded => t.ramOut && t.carReady
    | .ramHome => t.ramOut
    | .psDoorOn | .csDoorOn => t.ramHome

/-- The stage may be revoked: only GUIDE_SET until RAM_HOME and CAR_READY until CAR_LOADED, while set. -/
def StageSet.mayRevoke (t : StageSet) : Stage → Bool
  | .guideSet => t.guideSet && !t.ramHome
  | .carReady => t.carReady && !t.carLoaded
  | .isolated | .psDoorOff | .csDoorOff | .ramOut | .carLoaded | .ramHome | .psDoorOn | .csDoorOn => false

end Sys2Proof.Machine
end

