-- ==== Sys2Proof/Machine/CarUnit.lean ====
section
/-! DEFINITION. The car unit of the QUENCH station (09): the move queue, moves, the ready wish, displacement and FAULT. -/

namespace Sys2Proof.Machine

/-- A move is of the kind SPOT. -/
def Move.isSpot : Move → Bool
  | .spot _ => true
  | .tower | .wharf | .park => false

/-- TOWER or WHARF joins at the head (R155). -/
def joinHead (m : Move) (q : List Move) : List Move := if q.any fun x => decide (x = m) then q else m :: q

/-- PARK joins at the tail (R155). -/
def joinPark (q : List Move) : List Move := if q.any fun x => decide (x = .park) then q else q ++ [.park]

/-- SPOT n from the pusher's announce: in place of a queued SPOT, else at the tail (R155). -/
def joinSpot (n : Nat) (q : List Move) : List Move :=
  if q.any Move.isSpot then q.map fun x => if x.isSpot then .spot n else x else q ++ [.spot n]

/-- SPOT n after a displacement: at the head, a queued SPOT removed (R155). -/
def joinSpotHead (n : Nat) (q : List Move) : List Move := .spot n :: q.filter fun x => !x.isSpot

/-- The car record changed. -/
def State.changeCar (s : State) (f : Car → Car) : State := s.withCar (f s.car)

/-- The ready wish (R162). -/
def State.readyWish (s : State) : Bool :=
  match s.openClaim with
  | some c =>
    !c.stages.carLoaded && decide (s.car.marker = c.oven) &&
      ((decide (s.car.state = .spotted) && decide (s.car.load = .none)) || decide (s.car.state = .loading))
  | none => false

/-- The ready retry timer starts (R162); one that runs starts again from 0 (DESIGN CHOICE, log 60). -/
def State.startReadyTimer (s : State) : State := s.changeCar fun c => { c with readyTimer := some 0 }

/-- The car unit compares its wish with CAR_READY (R162), by the latest-wish rule of R126: a frame that matches is left alone, a
PENDING frame opposite to it is withdrawn, one IN_FLIGHT is waited out. -/
def State.compareReady (s : State) : State :=
  match s.role, s.openClaim with
  | .quench, some c =>
    let wish := s.readyWish
    if s.queued (Body.isStage c.serial .carReady) then s.withdraw (Body.isStageTo c.serial .carReady wish)
    else if wish ≠ c.stages.carReady ∧ c.stages.carLoaded = false then
      if s.onLine then
        let b := Body.pushStage c.oven c.serial Stage.carReady.code (!wish)
        let s1 := s.offer b
        if s.accepts b then s1 else s1.startReadyTimer
      else s.startReadyTimer
    else s
  | _, _ => s

/-- The car enters FAULT: its timers stop, the current move is kept, CAR_FAULT is raised (R160, R161, R167). A phase timer that runs as RAM_OUT
finds no car under the guide stops too (R163; DESIGN CHOICE, log 61). -/
def State.carFaults (s : State) : State :=
  (s.changeCar fun c => { c with state := .fault, moveTimer := none, phase := none, fault := true }).reportIf (!s.car.fault)
    (.attention none none .carFault true)

/-- PUSH_ABANDON (CAR_FAULT) for the OPEN claim, unless one for it is already in the queue (R167). -/
def State.offerCarAbandon (s : State) : State :=
  match s.openClaim with
  | some c => if s.queued (Body.isAbandonOf c.serial) then s else s.offer (.pushAbandon c.oven c.serial AbandonCause.carFault.code)
  | none => s

/-- A displacement after RAM_OUT, or a ram gone out with no car under the guide (R163, R167). -/
def State.carDisplacedOut (s : State) : State := s.carFaults.compareReady.offerCarAbandon

/-- The car takes its load: HOT, LOADED, TOWER at the head (R163, R164). -/
def Car.takeLoad (c : Car) : Car := { c with load := .hot, state := .loaded, queue := joinHead .tower c.queue }

/-- RAM_OUT taken for oven n (R163). The wish is compared once (R162): on the displacement as part of it. -/
def State.carRamOut (s : State) (n : Nat) : State :=
  if s.car.state = .spotted ∧ s.car.marker = n then (s.changeCar fun c => { c with state := .loading }).compareReady
  else s.carDisplacedOut

/-- CAR_LOADED taken (R163). -/
def State.carLoadedTaken (s : State) : State :=
  if s.car.state = .loading then s.changeCar Car.takeLoad else s

/-- A taken abandon or a drop reaches the car (R164). -/
def State.carClaimAbandoned (s : State) : State :=
  match s.role with
  | .quench => if s.car.state = .loading then s.changeCar Car.takeLoad else s
  | .bank | .pusher | .guide => s

/-- The load suits the move (R158, condition 3). -/
def loadSuits (l : Load) : Move → Bool
  | .spot _ | .park => decide (l = .none)
  | .tower => decide (l = .hot)
  | .wharf => decide (l = .quenched)

/-- The start conditions of R158 for the head move m. -/
def State.moveMayStart (s : State) (m : Move) : Bool :=
  s.started && decide (s.car.move = none) &&
    (decide (s.car.state = .idle) || decide (s.car.state = .spotted) || decide (s.car.state = .loaded)) &&
    loadSuits s.car.load m &&
    !((s.openClaim).any fun c => decide (s.car.marker = c.oven) && !c.stages.carLoaded && decide (m.target ≠ c.oven)) &&
    (!m.isSpot || s.onLine) && !s.stop.stopped && s.car.chain

/-- The guide's position in the last payload of the station recorded as GUIDE equals the spot (R159). Where no entry shows the role GUIDE, or
its entry holds no payload, the answer is no (DESIGN CHOICE, log 59). -/
def State.guideAt (s : State) (n : Nat) : Bool :=
  match s.stationOf .guide with
  | some id =>
    match (s.entry id).payload with
    | some (.guide pos _ _ _, _) => decide (pos = n)
    | _ => false
  | none => false

/-- The car on completion of a move (R159, R165, R166). -/
def Car.complete (m : Move) (c : Car) : Car :=
  let c1 : Car := { c with marker := m.target, move := none, moveTimer := none }
  match m with
  | .spot _ => { c1 with state := .spotted }
  | .tower => { c1 with state := .quenching, phase := some 0 }
  | .wharf => { c1 with state := .dumping }
  | .park => { c1 with state := .idle }

/-- A move completes: the record, MOVE_DONE, and the ready wish (R159, R162). -/
def State.completeMove (s : State) (m : Move) : State :=
  ((s.changeCar (Car.complete m)).report
    (.moveDone m.target (match m with | .spot n => some (s.guideAt n) | _ => none))).compareReady

/-- The car unit follows the pusher's next oven (R156). -/
def Car.follow (n : Nat) (c : Car) : Car :=
  if n = c.lastNext then c
  else if n = 0 ∨ c.move = some (.spot n) then { c with lastNext := n }
  else { c with lastNext := n, queue := joinSpot n c.queue }

end Sys2Proof.Machine
end

