-- ==== Sys2Proof/Machine/MachineStation.lean ====
section
/-! DEFINITION. The machine unit of the PUSHER and the GUIDE (08): the reseal queue and the revoke a guide owes. -/

namespace Sys2Proof.Machine

/-- The machine unit changed. -/
def State.changeMachine (s : State) (f : MachineUnit → MachineUnit) : State := s.withMachine (f s.machine)

/-- The revoke owed flag is cleared and its timer stops (R141). -/
def State.clearRevoke (s : State) : State := s.changeMachine fun m => { m with revokeOwed := none, revokeTimer := none }

/-- The guide wants GUIDE_SET no longer set behind its revoke in flight: it has departed or reported GUIDE_CLEAR since (its latest wish, R126),
the revoke has left the queue, or the claim has ended. -/
def State.clearWanted (s : State) : State := s.changeMachine fun m => { m with setWanted := none }

/-- GUIDE_SET is reported over the revoke of serial k in the queue (R143): PENDING it leaves; IN_FLIGHT its outcome is waited for (R126). -/
def State.wantSet (s : State) (k : Nat) : State :=
  (s.withdraw (Body.isStageTo k .guideSet true)).changeMachine fun m =>
    { m with setWanted := if s.queuedInFlight (Body.isStageTo k .guideSet true) then some k else none }

/-- The guide's revoke of serial k is TAKEN, and the set that it has been asked for meanwhile is offered (R126, R143). -/
def State.offerWanted (s : State) (n k : Nat) : State :=
  if s.machine.setWanted = some k then s.clearWanted.offer (.pushStage n k Stage.guideSet.code false) else s

/-- The revoke owed for the OPEN claim is offered; where it is not queued the retry timer starts (R141). A GUIDE_SET frame in the
queue: a revoke stands; a set in flight is waited out; a PENDING set is withdrawn and nothing is offered (R126), and the revoke is tried again
when the retry timer, which starts here, is over (DESIGN CHOICE, log 79). A retry timer that runs already stops as the revoke is queued, and
starts again from 0 where it is not (DESIGN CHOICE, log 69). -/
def State.offerRevoke (s : State) : State :=
  match s.machine.revokeOwed, s.openClaim with
  | some k, some c =>
    if c.serial ≠ k then s
    else if s.queued (Body.isStageTo k .guideSet true) then s
    else if s.queuedInFlight (Body.isStageTo k .guideSet false) then s
    else if s.queuedPending (Body.isStageTo k .guideSet false) then
      (s.withdraw (Body.isStageTo k .guideSet false)).changeMachine fun m => { m with revokeTimer := some 0 }
    else
      let b := Body.pushStage c.oven k Stage.guideSet.code true
      let s1 := s.changeMachine fun m => { m with revokeTimer := none }
      if s1.accepts b then s1.offer b else (s1.offer b).changeMachine fun m => { m with revokeTimer := some 0 }
  | _, _ => s

/-- The guide has moved away from the oven of the OPEN claim (R141). While RAM_HOME is clear, a set stage is revoked and a set in flight
waited out; a PENDING set of a clear stage is withdrawn in any case. An owed flag that an earlier departure has set for that set, since
cut by a stop run, then stands: R141 says that it is not set, not that it clears (DESIGN CHOICE, log 53). A GUIDE_SET reported over a revoke in
flight is wanted no longer (DESIGN CHOICE, log 80). -/
def State.guideLeaves (s : State) (c : Claim) : State :=
  let s1 := s.clearWanted
  if c.stages.guideSet then
    if c.stages.ramHome then s1 else (s1.changeMachine fun m => { m with revokeOwed := some c.serial }).offerRevoke
  else if s1.queuedInFlight (Body.isStageTo c.serial .guideSet false) then
    if c.stages.ramHome then s1 else s1.changeMachine fun m => { m with revokeOwed := some c.serial }
  else s1.withdraw (Body.isStageTo c.serial .guideSet false)

/-- An oven joins the reseal queue (R89). -/
def State.queueReseal (s : State) (n : Nat) (j : Side) : State :=
  if n ∈ s.machine.queue then s
  else if s.machine.queue.length < Config.resealQueueMax then
    (s.changeMachine fun m => { m with queue := m.queue ++ [n] }).report (.resealCalled n j true)
  else s.report (.resealQueueFull n j)

/-- The entry for oven n leaves the reseal queue (R93). -/
def State.unqueueReseal (s : State) (n : Nat) : State :=
  s.changeMachine fun m => { m with queue := m.queue.filter fun x => decide (x ≠ n) }

end Sys2Proof.Machine
end

