-- ==== Sys2Proof/Machine/Outputs.lean ====
section
/-! DEFINITION. The permits and the car's outputs, derived from the state (R144 to R146, R154). Every row that changes the state
derives them at its end (log 27). -/

namespace Sys2Proof.Machine

/-- The conditions of the ram permit (R145). -/
def State.ramPermit (s : State) : Bool :=
  decide (s.role = .pusher) && s.onLine && !s.stop.stopped && s.machine.chain &&
    s.openClaim.any fun c =>
      decide (c.oven = s.machine.position) && c.stages.isolated && c.stages.psDoorOff && c.stages.csDoorOff && c.stages.guideSet &&
        c.stages.carReady && !c.stages.ramHome

/-- The push ground of an extractor permit: ISOLATED set and the side's door-on not set (R146). -/
def State.pushGround (s : State) (doorOn : Stage) : Bool :=
  s.openClaim.any fun c => decide (c.oven = s.machine.position) && c.stages.isolated && !c.stages.has doorOn

/-- The conditions of a machine's extractor permit (R146). -/
def State.extractorPermit (s : State) : Bool :=
  match s.side? with
  | some j =>
    s.onLine && !s.stop.stopped && s.machine.chain &&
      (s.pushGround (match j with | .ps => .psDoorOn | .cs => .csDoorOn) || s.resealOn s.machine.position j)
  | none => false

/-- The car unit's outputs stand only at a QUENCH station after START (R153). -/
def State.carActive (s : State) : Bool := decide (s.role = .quench) && s.started

/-- All outputs as the state gives them (R145, R146, R154). -/
def State.outputs (s : State) : Outputs :=
  { ram := s.ramPermit
    extractor := s.extractorPermit
    travel := s.carActive && decide (s.car.state = .travelling) && !s.stop.stopped && s.car.chain
    spray := s.carActive && decide (s.car.state = .quenching)
    gate := s.carActive && decide (s.car.state = .dumping) && !s.stop.stopped && s.car.chain }

/-- The outputs derived afresh. -/
def State.derive (s : State) : State := s.withOut s.outputs

/-- The answer of a row: the state it leads to with the outputs derived, or, where what it names cannot have happened, the same state
(log 3). -/
def State.event (s : State) (after : Option State) : Host.Outcome State Fault Refusal :=
  .next (match after with | some t => t.derive | none => s)

end Sys2Proof.Machine
end

