-- ==== Sys2Proof/Machine/PlanUnit.lean ====
section
/-! DEFINITION. The plan unit of the PUSHER (06): cycle order, marks, deferred list, summaries and the next-oven choice. -/

namespace Sys2Proof.Machine

/-- A stride and pass step that START and PLAN_CHANGE accept (R97): first the stride, then the pass step. -/
def strideOk (n stride : Nat) : Bool := decide (2 ≤ stride ∧ stride ≤ 12 ∧ stride ≤ n)

/-- A pass step of 1..S − 1 that shares no factor with S (R97). -/
def stepOk (stride step : Nat) : Bool := decide (1 ≤ step ∧ step + 1 ≤ stride ∧ Nat.gcd step stride = 1)

/-- A fresh plan record (R97). -/
def Plan.fresh (n : Nat) (c : PlanConfig) : Plan :=
  { ovens := n, stride := c.stride, step := c.step, skip := c.skip, cycle := 0, pass := 0, pos := 0,
    marks := List.replicate n .unpushed, deferred := [], staged := none, note := none, shown := 0, timer := none }

/-- The starting oven b_p of pass p (R98). -/
def Plan.start (p : Plan) (pass : Nat) : Nat := 1 + pass * p.step % p.stride

/-- The oven at position j of pass p (R98). -/
def Plan.ovenAt (p : Plan) (pass pos : Nat) : Nat := p.start pass + pos * p.stride

/-- The oven at the cursor. -/
def Plan.cursor (p : Plan) : Nat := p.ovenAt p.pass p.pos

/-- The ovens of a pass, in order (R98). -/
def Plan.passOvens (p : Plan) (pass : Nat) : List Nat :=
  (List.range ((p.ovens - p.start pass) / p.stride + 1)).map (p.ovenAt pass)

/-- The cycle order (R98). -/
def Plan.order (p : Plan) : List Nat := (List.range p.stride).flatMap p.passOvens

/-- The cycle boundary (R99). -/
def Plan.boundary (p : Plan) : Plan :=
  { p with
    cycle := (p.cycle + 1) % 65536
    marks := List.replicate p.ovens .unpushed
    stride := (p.staged.map Prod.fst).getD p.stride
    step := (p.staged.map Prod.snd).getD p.step
    staged := none
    pass := 0
    pos := 0 }

/-- The cursor advances by one place (R99). -/
def Plan.advance (p : Plan) : Plan :=
  if p.ovenAt p.pass (p.pos + 1) ≤ p.ovens then { p with pos := p.pos + 1 }
  else if p.pass + 1 < p.stride then { p with pass := p.pass + 1, pos := 0 }
  else p.boundary

/-- The cycle mark of an oven. Ovens are numbered from 1, so the marks' first place is oven 1's. -/
def Plan.mark (p : Plan) : Nat → Mark
  | 0 => .unpushed
  | k + 1 => (p.marks[k]?).getD .unpushed

/-- An oven marked. -/
def Plan.setMark (p : Plan) (o : Nat) (m : Mark) : Plan :=
  match o with
  | 0 => p
  | k + 1 => { p with marks := p.marks.set k m }

/-- An oven taken off the deferred list. -/
def Plan.undefer (p : Plan) (o : Nat) : Plan := { p with deferred := p.deferred.filter fun x => decide (x ≠ o) }

/-- The summary of an oven in a bank's last payload: state code and minutes code (R102, R186). -/
def Entry.summary (e : Entry) (n : Nat) : SummaryState × Nat :=
  match e.payload with
  | some (.bank first sums, _) =>
    match sums[n - first]? with
    | some b => if first ≤ n then (.ofCode (b.toNat / 16), b.toNat % 16) else (.unknown, 15)
    | none => (.unknown, 15)
  | _ => (.unknown, 15)

/-- The summary the plan unit uses, none where the oven has no owner (R102). An UNKNOWN for age or joining shows minutes code 15. -/
def State.summary (s : State) (n : Nat) : Option (SummaryState × Nat) :=
  (s.owner? n).map fun id =>
    let e := s.entry id
    if Config.freshAge < e.age ∨ e.joining = true then (.unknown, 15) else e.summary n

/-- The result of a choice (R103). -/
inductive Choice where
  | claim (oven : Nat)
  | wait (oven : Nat)
  | nothing
  deriving DecidableEq, Repr

/-- A summary is READY or OVERCOKED. -/
def claimable (x : Option (SummaryState × Nat)) : Bool :=
  (x.map Prod.fst == some .ready) || (x.map Prod.fst == some .overcoked)

/-- The look at the deferred list, oldest first (R104): the record after it, and the oven to claim if it finds one. -/
def lookDeferred (sum : Nat → Option (SummaryState × Nat)) (claimed : Nat → Bool) : List Nat → Plan → Plan × Option Nat
  | [], p => (p, none)
  | o :: rest, p =>
    if claimed o then lookDeferred sum claimed rest p
    else if (sum o).map Prod.fst = some .outOfService then
      let p1 := p.undefer o
      lookDeferred sum claimed rest (if p1.mark o = .unpushed then p1.setMark o .skippedOos else p1)
    else if claimable (sum o) then (p, some o)
    else lookDeferred sum claimed rest p

/-- What the judgement of a cursor oven does (R105): a result with the cursor staying, or an advance. -/
inductive CursorStep where
  | result (p : Plan) (c : Choice)
  | advance (p : Plan)
  deriving DecidableEq, Repr

/-- The judgement of the cursor oven (R105). -/
def judgeCursor (sum : Nat → Option (SummaryState × Nat)) (claimed : Nat → Bool) (p : Plan) : CursorStep :=
  let o := p.cursor
  if p.mark o ≠ .unpushed then .advance p
  else
    let p1 := p.undefer o
    let defer : CursorStep :=
      if p1.deferred.length < Config.deferredMax then .advance { p1 with deferred := p1.deferred ++ [o] } else .result p1 (.wait o)
    if claimed o then .result p1 (.wait o)
    else if claimable (sum o) then .result p1 (.claim o)
    else
      match sum o with
      | some (.outOfService, _) => .advance (p1.setMark o .skippedOos)
      | some (.notReady, c) => if c * 10 ≤ p1.skip then .result p1 (.wait o) else defer
      | _ => defer

/-- The cursor's part of the choice, with at most n advances (R105, R106). -/
def chooseAtCursor (sum : Nat → Option (SummaryState × Nat)) (claimed : Nat → Bool) : Nat → Plan → Plan × Choice
  | 0, p => (p, .nothing)
  | n + 1, p =>
    match judgeCursor sum claimed p with
    | .result p1 c => (p1, c)
    | .advance p1 => chooseAtCursor sum claimed n p1.advance

/-- The shown next oven of a result (R103). -/
def Choice.shown : Choice → Nat
  | .claim o => o
  | .wait o => o
  | .nothing => 0

/-- The next-oven choice over given summaries (R104 to R106); it sets the shown next oven. -/
def Plan.choose (sum : Nat → Option (SummaryState × Nat)) (claimed : Nat → Bool) (p : Plan) : Plan × Choice :=
  match lookDeferred sum claimed p.deferred p with
  | (p1, some o) => ({ p1 with shown := o }, .claim o)
  | (p1, none) =>
    let r := chooseAtCursor sum claimed p1.ovens p1
    ({ r.1 with shown := r.2.shown }, r.2)

/-- The choice as it stands at this station: the record after it, and its result. -/
def State.choice (s : State) (p : Plan) : Plan × Choice := p.choose s.summary fun o => (s.claimOn o).isSome

/-- The choice is made where the station is ON_LINE and holds a plan record (R103). -/
def State.makeChoice (s : State) : State :=
  match s.plan with
  | some p => if s.onLine then s.withPlan (some (s.choice p).1) else s
  | none => s

/-- A claim on n is taken or adopted: the claim note (R108). -/
def Plan.noteClaim (n : Nat) (p : Plan) : Plan := { p with note := some (n, p.cycle) }

/-- The oven is UNPUSHED or SKIPPED_OOS, so a closure or faulted abandon may mark it (R100). -/
def Plan.markable (p : Plan) (n : Nat) : Bool := decide (p.mark n = .unpushed) || decide (p.mark n = .skippedOos)

/-- The cursor advances where it stands on n. -/
def Plan.advanceFrom (n : Nat) (p : Plan) : Plan := if p.cursor = n then p.advance else p

/-- The claim on n closes (R108). -/
def Plan.claimCloses (n : Nat) (p : Plan) : Plan :=
  let p1 := p.undefer n
  let inCycle := p.note.any fun x => decide (x.2 = p.cycle)
  let p2 := if inCycle && p1.markable n then p1.setMark n .pushed else p1
  { p2.advanceFrom n with note := none }

/-- The claim on n is abandoned (R108). -/
def Plan.claimAbandoned (n : Nat) (ramOut : Bool) (p : Plan) : Plan :=
  if ramOut then
    let p1 := p.undefer n
    let p2 := if p1.markable n then p1.setMark n .faultSkipped else p1
    { p2.advanceFrom n with note := none }
  else { p with note := none }

/-- The plan record changed, where one is held. -/
def State.changePlan (s : State) (f : Plan → Plan) : State := s.withPlan (s.plan.map f)

end Sys2Proof.Machine
end

