-- ==== Sys2Proof/Machine/Regulator.lean ====
section
/-! DEFINITION. The offtake regulator of a BANK (04): ring and filter, setpoint, feedforward, the PI step, the modes, and the
ISOLATED stage it owes. -/

namespace Sys2Proof.Machine

/-- A fresh loop (R53). -/
def Loop.fresh : Loop :=
  { mode := .released, ring := List.replicate 4 ⟨0, .missing⟩, watch := 0, pf := 0, lost := true, lostTimer := some 0,
    attention := false, sp := 0, e := 0, a := 0, u := none, driven := none, target := none, charge := none, zero := 0, owed := false }

/-- An entry written as the newest; the oldest leaves (R56). The sample watch restarts (R54, R55). -/
def Loop.write (l : Loop) (x : Sample) : Loop := { l with ring := x :: l.ring.take 3, watch := 0 }

/-- The values of the GOOD entries. -/
def Loop.good (l : Loop) : List Int := (l.ring.filter fun x => decide (x.quality = .good)).map Sample.value

/-- pf and SENSOR_LOST after a ring write (R56, R57). -/
def Loop.filter (l : Loop) : Loop :=
  match l.good with
  | [] => { l with lost := true, lostTimer := if l.lost then l.lostTimer else some 0 }
  | g :: gs => { l with pf := (g :: gs).sum / ((g :: gs).length : Int), lost := false, lostTimer := none }

/-- The relief of one door (R59). -/
def doorRelief (p1 : BankPart1) : Seal → Int
  | .weeping => p1.rw
  | .leaking | .unlatchedUnexpected => p1.rl
  | .resealing => p1.rr
  | .seating | .tight | .off => 0

/-- The relief of the oven at place i: the larger of its two doors' (R59). -/
def State.relief (s : State) (p1 : BankPart1) (i : Nat) : Int :=
  let r (j : Side) : Int := ((s.door? (doorIndex i j)).map fun x => doorRelief p1 x.sealing).getD 0
  max (r .ps) (r .cs)

/-- The COLLECT setpoint (R59). -/
def State.setpoint (s : State) (p0 : BankPart0) (p1 : BankPart1) (i : Nat) : Int := max (p0.base - s.relief p1 i) p0.floor

/-- The main deviation dm (R63). -/
def State.mainDeviation (s : State) (p1 : BankPart1) : Int :=
  match s.bank.main with
  | some m => if m.quality = .good ∧ s.bank.mainAge ≤ Config.freshAge then m.value - p1.pnom else 0
  | none => 0

/-- The rate limit (R65). -/
def rateLimit (uPrev target : Int) : Int := uPrev + clampInt (target - uPrev) (-40) 40

/-- The integral after conditional integration (R64, step 2). -/
def nextIntegral (ki : Nat) (uPrev e a : Int) : Int :=
  if (uPrev = 1000 ∧ 0 < e) ∨ (uPrev = 0 ∧ e < 0) then a else clampInt (a + ki * e) 0 16000

/-- The clamped output u_c (R64, steps 3 and 4). -/
def clampedOutput (p1 : BankPart1) (e a dm : Int) : Int :=
  clampInt (p1.kp * e / 16 + a / 16 + p1.kf * dm / 16) 0 1000

/-- The PI step toward a setpoint (R64), or the hold of R66 while SENSOR_LOST is set. The output before the step is 0 where none
is defined (log 20). -/
def Loop.regulate (p1 : BankPart1) (sp dm : Int) (l : Loop) : Loop :=
  let uPrev := l.u.getD 0
  if l.lost then { l with u := some uPrev }
  else
    let e := l.pf - sp
    let a := nextIntegral p1.ki uPrev e l.a
    { l with sp := sp, e := e, a := a, u := some (rateLimit uPrev (clampedOutput p1 e a dm)) }

/-- A step in ISOLATING: the ramp, the zero count and, at ten, ISOLATED (R69, R70). -/
def Loop.ramp (l : Loop) : Loop :=
  let u := max (l.u.getD 0 - 40) 0
  let z := if u = 0 then l.zero + 1 else l.zero
  { l with u := some u, a := 0, zero := z, mode := if 10 ≤ z then .isolated else .isolating }

/-- The step of the loop's present mode (R58, step 2). -/
def Loop.modeStep (p0 : BankPart0) (p1 : BankPart1) (sp dm : Int) (l : Loop) : Loop :=
  match l.mode with
  | .collect => l.regulate p1 sp dm
  | .charge => l.regulate p1 p0.chargeSp dm
  | .isolating => l.ramp
  | .isolated => { l with u := some 0, a := 0 }
  | .manual =>
    let u := rateLimit (l.u.getD 0) (l.target.getD (l.u.getD 0))
    { l with u := some u, a := 16 * u }
  | .released => l

/-- The regulator step of a loop after a ring write (R58). RELEASED drives nothing. -/
def Loop.step (p0 : BankPart0) (p1 : BankPart1) (sp dm : Int) (l : Loop) : Loop :=
  let l1 := l.filter
  let l2 := l1.modeStep p0 p1 sp dm
  { l2 with driven := if l1.mode = .released then l2.driven else l2.u, attention := l1.attention && l1.lost }

/-- Entry to ISOLATING (R69). -/
def Loop.enterIsolating (l : Loop) : Loop := { l with mode := .isolating, a := 0, zero := 0, charge := none, target := none }

/-- Entry to COLLECT from ISOLATING or ISOLATED (R72). -/
def Loop.enterCollect (l : Loop) : Loop :=
  { l with mode := .collect, a := 0, zero := 0, owed := false, charge := none, target := none }

/-- A rule names ISOLATED: a loop there stays, and one with output above 0 ramps first, going on where it ramps already (R71). One in ISOLATING
whose output is 0 by then is ISOLATED at once, without the rest of its ten zero steps: R71 does not say (DESIGN CHOICE, log 55). -/
def Loop.toIsolated (l : Loop) : Loop :=
  match l.mode with
  | .isolated => l
  | .isolating => if 0 < l.u.getD 0 then l else { l with mode := .isolated, charge := none, target := none }
  | .collect | .charge | .manual | .released =>
    if 0 < l.u.getD 0 then l.enterIsolating else { l with mode := .isolated, charge := none, target := none }

/-- RESTORE_OVEN's entry (R75). -/
def Loop.restore (u0 : Int) (mode : Mode) (l : Loop) : Loop :=
  { l with u := some u0, a := 16 * u0, mode := mode, charge := none, target := none }

/-- The ISOLATED stage owed for the oven at place i is offered where the station is ON_LINE and the claim is OPEN on it without
ISOLATED; an offer that is not queued clears the flag (R70). -/
def State.offerIsolated (s : State) (i : Nat) : State :=
  match s.claimOn (s.ovenAt i) with
  | some c =>
    if s.onLine && !c.stages.isolated then
      let b := Body.pushStage c.oven c.serial Stage.isolated.code false
      let s1 := s.offer b
      if s.accepts b then s1 else s1.setLoop i fun l => { l with owed := false }
    else s
  | none => s

/-- On entry to ON_LINE the stage owed is offered; a flag whose conditions do not hold is cleared (R70). -/
def State.offerOwed (s : State) (i : Nat) : State :=
  match s.loop? i with
  | some l =>
    if l.owed then
      if (s.claimOn (s.ovenAt i)).any fun c => !c.stages.isolated then s.offerIsolated i
      else s.setLoop i fun l => { l with owed := false }
    else s
  | none => s

/-- The regulator step of loop i after the entry x (R54, R55, R58, R70): SENSOR_LOST attention is removed where the flag clears,
and a loop that comes to ISOLATED with its oven CLAIMED owes the stage. -/
def State.regulatorStep (s : State) (i : Nat) (x : Sample) : State :=
  match s.bankConfig, s.loop? i with
  | some (p0, p1), some l =>
    let l1 := (l.write x).step p0 p1 (s.setpoint p0 p1 i) (s.mainDeviation p1)
    let claimed := (s.oven? i).any fun o => decide (o.state = .claimed)
    let owes := decide (l.mode = .isolating) && decide (l1.mode = .isolated) && claimed
    let s1 := s.setLoop i fun _ => { l1 with owed := l1.owed || owes }
    let s2 := s1.reportIf (l.attention && !l1.attention) (.attention (some (s.ovenAt i)) none .sensorLost false)
    if owes then s2.offerIsolated i else s2
  | _, _ => s

end Sys2Proof.Machine
end

