-- ==== Sys2Proof/Machine/Claims.lean ====
section
/-! DEFINITION. The claim tracker's changes of the claim record, with what every block does on each (05 R93 to R95, 07): a claim
taken or adopted, a stage set or revoked, the end of a claim, and the reseal records. -/

namespace Sys2Proof.Machine

/-! ## Reseal records (R90, R93 to R95) -/

/-- How long ago a record was taken. -/
def Reseal.age (now : Nat) (r : Reseal) : Nat := (now + Config.timeWrap - r.taken) % Config.timeWrap

/-- The slot of the oldest record that satisfies p; of two alike the lower slot (log 23). -/
def oldestSlot (now : Nat) (p : Reseal → Bool) : List (Option Reseal) → Nat → Option (Nat × Nat) → Option (Nat × Nat)
  | [], _, best => best
  | none :: rest, k, best => oldestSlot now p rest (k + 1) best
  | some r :: rest, k, best =>
    if p r && best.all fun b => decide (b.2 < r.age now) then oldestSlot now p rest (k + 1) (some (k, r.age now))
    else oldestSlot now p rest (k + 1) best

/-- The slot of a new record: an empty one, else that of the oldest ended record, else that of the oldest record (R90). -/
def newSlot (now : Nat) (l : List (Option Reseal)) : Nat :=
  match l.findIdx? Option.isNone with
  | some k => k
  | none =>
    match oldestSlot now (fun r => !r.isOpen) l 0 none with
    | some (k, _) => k
    | none => ((oldestSlot now (fun _ => true) l 0 none).map Prod.fst).getD 0

/-- The record taken last of those that satisfy p; of two taken together the one in the higher slot (log 23). -/
def youngest (now : Nat) (p : Reseal → Bool) (l : List (Option Reseal)) : Option Reseal :=
  (l.filterMap id).foldl (fun best r => if p r && best.all fun b => decide (r.age now ≤ b.age now) then some r else best) none

/-- The open record of oven and side that was taken last: the claim from which a RESEALING door's timer runs (R93, R96). -/
def State.resealOf (s : State) (n : Nat) (j : Side) : Option Reseal :=
  youngest s.time (fun r => r.isOpen && decide (r.oven = n ∧ r.side = j)) s.claims.reseals

/-- The reseal records changed. -/
def State.setReseals (s : State) (l : List (Option Reseal)) : State := s.withClaims { s.claims with reseals := l }

/-- Record r ended where it is an open record of the serial. -/
def Reseal.endIf (serial : Nat) (how : ResealEnd) (r : Reseal) : Reseal :=
  if r.isOpen ∧ r.serial = serial then { r with ending := how } else r

/-- The door record of an oven and side at this bank, where its door is RESEALING. Where two open records name the door, the end of
either takes it out of RESEALING (R95; log 46). -/
def State.resealingDoor (s : State) (n : Nat) (j : Side) : Option Nat :=
  (s.ovenIndex n).bind fun i =>
    if (s.door? (doorIndex i j)).any fun x => decide (x.sealing = .resealing) then some (doorIndex i j) else none

/-- At the bank that holds it, the door leaves RESEALING (R94, R95). -/
def State.endDoorReseal (s : State) (n : Nat) (j : Side) : State :=
  match s.resealingDoor n j with
  | some d => s.changeDoor d Door.leaveResealing
  | none => s

/-- A reseal record is emptied or lost: a door RESEALING under it leaves, with RESEAL_ENDED (GIVEN_UP) (R94). -/
def State.loseReseal (s : State) (r : Reseal) : State :=
  match s.resealingDoor r.oven r.side with
  | some d => (s.changeDoor d Door.leaveResealing).report (.resealEnded r.oven r.side r.serial .givenUp)
  | none => s

/-- Two records are of the same reseal claim: serial, oven and side. -/
def Reseal.sameClaim (x r : Reseal) : Bool := decide (r.serial = x.serial ∧ r.oven = x.oven ∧ r.side = x.side)

/-- The open record of the claim x is given up by its bank, and its RESEAL_DONE is owed from now on (R94; log 32). -/
def Reseal.giveUpIf (x r : Reseal) : Reseal :=
  if r.isOpen ∧ x.sameClaim r = true then { r with ending := .givenUp, owed := some 0 } else r

/-- A PUSH_CLAIM names the oven of a RESEALING door: the record is marked GIVEN_UP, the door leaves RESEALING, RESEAL_ENDED is
reported and RESEAL_DONE (GIVEN_UP) is offered, and offered again by R96 until it is taken (R94). -/
def State.giveUpReseal (s : State) (n : Nat) (j : Side) : State :=
  match s.resealingDoor n j, s.resealOf n j with
  | some d, some r =>
    (((s.setReseals (s.claims.reseals.map (Option.map (Reseal.giveUpIf r)))).changeDoor d Door.leaveResealing).report
        (.resealEnded n j r.serial .givenUp)).offer (.resealDone n j.code r.serial ResealEnd.givenUp.outcome)
  | some d, none => s.changeDoor d Door.leaveResealing
  | none, _ => s

/-! ## The end of a push claim (R113, R125, R126, R131 to R133) -/

/-- Reports of the frames that a claim's end withdraws: STAGE_LATE for each PENDING stage frame, and ABANDON_LATE for each PENDING
abandon where the claim did not end by a taken abandon (R126, R131). -/
def lateReports (c : Nat) (abandonTaken : Bool) (q : List QueueEntry) : List Report :=
  q.filterMap fun e =>
    match e.inFlight, e.body with
    | false, .pushStage n k x _ => if k = c then some (.stageLate n k x) else none
    | false, .pushAbandon n k a => if k = c ∧ abandonTaken = false then some (.abandonLate n k (.ofCode a)) else none
    | _, _ => none

/-- The claim's PENDING stage and abandon frames leave the queue (R126, R131). -/
def State.withdrawLate (s : State) (c : Nat) (abandonTaken : Bool) : State :=
  (s.withdraw fun b => b.isStageOf c || b.isAbandonOf c).reportAll (lateReports c abandonTaken s.queue)

/-- How an oven leaves a claim (R125, R132): `none` where it makes no transition. A dropped claim with ISOLATED set leaves a
CLAIMED oven HELD (R113), but with RAM_OUT set too FAULTED, by the row of RAM_OUT (DESIGN CHOICE, log 68). -/
def ovenAfterClaim (how : ClaimEnd) (t : StageSet) (o : OvenState) : Option OvenState :=
  match how with
  | .opened => none
  | .closed =>
    match o with
    | .claimed | .pushing => some .empty
    | .unknown | .empty | .coking | .held | .faulted | .outOfService => none
  | .abandoned cause =>
    match o with
    | .claimed =>
      if t.ramOut then some .faulted
      else if t.psDoorOff || t.csDoorOff || (decide (cause = .dropped) && t.isolated) then some .held
      else some .coking
    | .pushing => if t.ramOut then some .faulted else none
    | .unknown | .empty | .coking | .held | .faulted | .outOfService => none

/-- The loop of an oven that leaves a claim for a state (R71, R72). -/
def Loop.afterClaim (new : OvenState) (l : Loop) : Loop :=
  match new with
  | .coking => l.enterCollect
  | .unknown | .empty | .claimed | .pushing | .held | .faulted | .outOfService => { l.toIsolated with owed := false }

/-- The bank's part in the end of a claim on oven n: oven, loop and doors. A door in SEATING whose latch reads UNLATCHED then stays SEATING
(R81, R84; DESIGN CHOICE, log 71). -/
def State.bankClaimEnds (s : State) (n : Nat) (t : StageSet) (how : ClaimEnd) : State :=
  match s.ovenIndex n with
  | none => s
  | some i =>
    let s1 := match (s.oven? i).bind fun o => ovenAfterClaim how t o.state with
      | some new => (s.enterOven i new).setLoop i (Loop.afterClaim new)
      | none => (s.reportOvenUnchanged i).setLoop i fun l => { l with owed := false }
    (s1.endWatches i).seatDoors i

/-- The plan unit's part in the end of a claim (R108, R133). A drop makes no choice of its own (R103, R113; DESIGN CHOICE, log 72). -/
def State.planClaimEnds (s : State) (n : Nat) (t : StageSet) (how : ClaimEnd) : State :=
  match how with
  | .opened => s
  | .closed => (s.changePlan (Plan.claimCloses n)).makeChoice
  | .abandoned .dropped => s.changePlan (Plan.claimAbandoned n t.ramOut)
  | .abandoned _ => (s.changePlan (Plan.claimAbandoned n t.ramOut)).makeChoice

/-- The car unit's part in the end of a claim (R164). -/
def State.carClaimEnds (s : State) (how : ClaimEnd) : State :=
  match how with
  | .abandoned _ => s.carClaimAbandoned
  | .opened | .closed => s

/-- Report of the end of a claim. -/
def Claim.endReport (c : Claim) (how : ClaimEnd) : Report :=
  match how with
  | .abandoned cause => .claimAbandoned c.oven c.serial cause c.stages
  | .opened | .closed => .claimClosed c.oven c.serial c.timer

/-- The claim ended by a taken PUSH_ABANDON. -/
def ClaimEnd.byAbandon : ClaimEnd → Bool
  | .abandoned .dropped => false
  | .abandoned _ => true
  | .opened | .closed => false

/-- The OPEN claim ends: the record, its report, the frames withdrawn, and then the role units (R113, R125, R131 to R133). -/
def State.endClaim (s : State) (how : ClaimEnd) : State :=
  match s.openClaim with
  | none => s
  | some c =>
    (((((((s.withClaims { s.claims with record := some { c with ending := how }, retry := none }).report (c.endReport how)).withdrawLate
      c.serial how.byAbandon).bankClaimEnds c.oven c.stages how).planClaimEnds c.oven c.stages how).clearRevoke.clearWanted).carClaimEnds
      how)

/-- An OPEN claim is dropped (R113). -/
def State.dropClaim (s : State) : State := s.endClaim (.abandoned .dropped)

/-! ## A claim taken or adopted (R33, R121, R137) -/

/-- The oven and loop of a bank as a claim on oven n is taken (R121): from COKING to CLAIMED, ISOLATING. A door that is RESEALING
leaves it (R94). -/
def State.bankClaimTaken (s : State) (n : Nat) : State :=
  match s.ovenIndex n with
  | none => s
  | some i =>
    let s1 :=
      if (s.oven? i).any fun o => decide (o.state = .coking) then (s.enterOven i .claimed).setLoop i Loop.enterIsolating
      else s.reportOvenUnchanged i
    (((s1.giveUpReseal n .ps).giveUpReseal n .cs).seatDoors i)

/-- The loop of an oven that an adopted claim finds isolated: one in ISOLATED stays (R137). -/
def Loop.adoptIsolated (l : Loop) : Loop := if l.mode = .isolated then l else l.enterIsolating

/-- The oven and loop of a bank as a claim on oven n is adopted from a trailer (R137). -/
def State.bankClaimAdopted (s : State) (n : Nat) (t : StageSet) : State :=
  match s.ovenIndex n with
  | none => s
  | some i =>
    let state := (s.oven? i).map Oven.state
    let s1 :=
      if t.isolated = false then
        if state = some .coking then (s.enterOven i .claimed).setLoop i Loop.enterIsolating else s.reportOvenUnchanged i
      else if state = some .coking ∨ state = some .held then
        (s.enterOven i (if t.ramOut then .pushing else .claimed)).setLoop i Loop.adoptIsolated
      else s.reportOvenUnchanged i
    let s2 := if t.isolated then s1.setLoop i fun l => { l with owed := false } else s1
    (((s2.giveUpReseal n .ps).giveUpReseal n .cs).seatDoors i)

/-- A PUSH_CLAIM is taken (R121): any OPEN claim is dropped, the record is filled, and the role units act. -/
def State.takeClaim (s : State) (n c sender : Nat) (forced : Bool) : State :=
  let s1 := s.dropClaim
  ((((s1.withClaims
      { s1.claims with
        record := some { oven := n, serial := c, claimant := some sender, forced := forced, stages := .clear, taken := s1.time, timer := 0,
                         ending := .opened }
        highest := c
        retry := none }).bankClaimTaken n).changePlan (Plan.noteClaim n)).makeChoice).compareReady

/-- A claim is adopted from the trailer of an announce (R33, steps 1 and 2). A claim of another oven or serial is dropped first
(R113). The retry timer of R128 stops, as the claim timer starts anew (DESIGN CHOICE, log 52). -/
def State.adoptTrailer (s : State) (t : Trailer) : State :=
  let same := s.openClaim.any fun c => decide (c.oven = t.oven ∧ c.serial = t.serial)
  let s1 := if same then s else s.dropClaim
  if t.oven = 0 then s1.withClaims { s1.claims with record := none, highest := t.serial, retry := none }
  else
    let s2 := s1.withClaims
      { s1.claims with
        record := some { oven := t.oven, serial := t.serial, claimant := s1.stationOf .pusher, forced := false, stages := t.stages,
                         taken := s1.time, timer := 0, ending := .opened }
        highest := t.serial
        retry := none }
    let s3 := (s2.bankClaimAdopted t.oven t.stages).changePlan (Plan.noteClaim t.oven)
    let s4 := if t.stages.guideSet && !t.stages.ramHome then s3 else s3.clearRevoke
    s4.compareReady

/-! ## Stages (R124, R125) -/

/-- The door monitor follows a door-off or door-on stage (R82, R83, R85). -/
def State.doorStage (s : State) (i : Nat) (j : Side) (on : Bool) : State :=
  let d := doorIndex i j
  if on then
    let s1 := s.seatDoor d
    if (s1.door? d).any fun x => decide (x.latch = .unlatched) then s1.changeDoor d (Door.startWatch .onExpected) else s1
  else s.changeDoor d Door.enterOff

/-- The bank's blocks follow a stage set on oven n (R124). -/
def State.bankStage (s : State) (n : Nat) (x : Stage) : State :=
  match s.ovenIndex n with
  | none => s
  | some i =>
    match x with
    | .isolated => s.setLoop i fun l => { l with owed := false }
    | .psDoorOff => s.doorStage i .ps false
    | .csDoorOff => s.doorStage i .cs false
    | .psDoorOn => s.doorStage i .ps true
    | .csDoorOn => s.doorStage i .cs true
    | .ramOut => if (s.oven? i).any fun o => decide (o.state = .claimed) then s.enterOven i .pushing else s
    | .carLoaded | .ramHome | .guideSet | .carReady => s

/-- The car unit follows a stage (R124, R163), and compares its wish (R162). -/
def State.carStage (s : State) (n : Nat) (x : Stage) (revoke : Bool) : State :=
  match s.role, x, revoke with
  | .quench, .ramOut, false => s.carRamOut n
  | .quench, .carLoaded, false => s.carLoadedTaken.compareReady
  | .quench, _, _ => s.compareReady
  | _, _, _ => s

/-- The guide's owed revoke ends where GUIDE_SET becomes clear or RAM_HOME becomes set (R141). -/
def State.guideStage (s : State) (x : Stage) (revoke : Bool) : State :=
  match x, revoke with
  | .guideSet, true => s.clearRevoke
  | .ramHome, false => s.clearRevoke
  | _, _ => s

/-- A PUSH_STAGE for the OPEN claim c is taken (R124); the eighth permanent stage closes the claim (R125). Where that one is a door-off stage, a
latched door enters OFF and, as the claim closes, SEATING: two changes of its seal state in one event, and a FREE event latch captures the first
(R86; DESIGN CHOICE, log 65). -/
def State.applyStage (s : State) (c : Claim) (x : Stage) (revoke : Bool) : State :=
  let t := c.stages.put x (!revoke)
  let s1 := (s.setRecord (some { c with stages := t })).report (.stageSeen c.oven c.serial x revoke)
  let s2 := if revoke then s1 else s1.bankStage c.oven x
  let s3 := (s2.guideStage x revoke).carStage c.oven x revoke
  if !c.stages.complete && t.complete then s3.endClaim .closed else s3

end Sys2Proof.Machine
end

