-- ==== Sys2Proof/Machine/Messages.lean ====
section
/-! DEFINITION. Local port messages (R177, R178, R180, R183, R191): the receive assembler and the command buffer, the bytes of replies
and reports, and the fields of a command's body. -/

namespace Sys2Proof.Machine

/-! ## Fields (R191) -/

/-- A field of one byte. -/
def field1 (n : Nat) : List Byte := [byte n]

/-- A field of two bytes. -/
def field2 (v : Int) : List Byte := lowFirst 2 v

/-- A field of three bytes. -/
def field3 (n : Nat) : List Byte := lowFirst 3 n

/-- A field of four bytes. -/
def field4 (n : Nat) : List Byte := lowFirst 4 n

/-- A field that may hold none: a presence byte, and value bytes of 0 where it holds none. -/
def fieldOpt {α : Type} (width : Nat) (f : α → List Byte) : Option α → List Byte
  | some v => 1#8 :: f v
  | none => 0#8 :: List.replicate width 0#8

/-- A flag of one byte. -/
def fieldFlag (b : Bool) : List Byte := [flagByte b]

/-! ## Reports -/

/-- A report's kind: 0x40 to 0x56 in the order of the table of R183. -/
def Report.kind : Report → Nat
  | .pushOutcome .. => 0x40
  | .resealOutcome .. => 0x40
  | .stageSeen .. => 0x41
  | .claimClosed .. => 0x42
  | .claimAbandoned .. => 0x43
  | .abandonLate .. => 0x44
  | .stageLate .. => 0x45
  | .vetoGiven .. => 0x46
  | .consentAsk .. => 0x47
  | .doorEvent .. => 0x48
  | .resealCalled .. => 0x49
  | .resealQueueFull .. => 0x4A
  | .resealEnded .. => 0x4B
  | .ovenState .. => 0x4C
  | .attention .. => 0x4D
  | .stationChange .. => 0x4E
  | .duplicateSeen .. => 0x4F
  | .lineState .. => 0x50
  | .stopped .. => 0x51
  | .resumed .. => 0x52
  | .moveGranted .. => 0x53
  | .moveDone .. => 0x54
  | .quenchDone .. => 0x55
  | .frameRefused .. => 0x56

/-- The fields of a veto (R120). -/
def Veto.bytes (v : Veto) : List Byte :=
  fieldOpt 1 field1 v.kind ++ fieldOpt 1 field1 v.sender ++ field1 v.cause.code ++ field1 v.oven ++ field4 v.time

/-- What a CONSENT_ASK says of its frame (R118): the fields that the frame's kind has, and no others (log 14). -/
def Body.askBytes : Body → List Byte
  | .pushClaim n c f => field1 n ++ field1 c ++ fieldFlag f
  | .resealClaim n j r => field1 n ++ field1 j ++ field1 r
  | .resume r => field1 r
  | .census | .announce _ _ | .mainPressure _ _ | .charged _ | .pushStage _ _ _ _ | .pushAbandon _ _ _ | .resealCall _ _
  | .resealDone _ _ _ _ | .stopNote _ _ => []

/-- The state that a LINE_STATE report says (R189). -/
def LineReport.bytes : LineReport → List Byte
  | .station x => field1 x.code
  | .conflict c => field1 StationState.conflict.code ++ field1 c.code
  | .blocked => field1 5

/-- The fields of a report, in the order its rule names them (log 14); an OVEN_STATE has the fields of R36 and then the charge time stamp of R48
(DESIGN CHOICE, log 14). The role of a STATION_CHANGE may be unknown and has a presence byte
(R189, R191); the guide's part of a MOVE_DONE is there for a SPOT alone (R159). -/
def Report.fields : Report → List Byte
  | .pushOutcome n c f r sender cause =>
    field1 n ++ field1 c ++ fieldFlag f ++ field1 r.code ++
      (match sender with
        | some id => field1 id ++ fieldOpt 1 (fun x => field1 (Cause.code x)) cause
        | none => [])
  | .resealOutcome n j r x => field1 FrameKind.resealClaim.code ++ field1 n ++ field1 j ++ field1 r ++ field1 x.code
  | .stageSeen n c x r => field1 n ++ field1 c ++ field1 x.code ++ fieldFlag r
  | .claimClosed n c t => field1 n ++ field1 c ++ field3 t
  | .claimAbandoned n c a t => field1 n ++ field1 c ++ field1 a.code ++ t.bytes
  | .abandonLate n c a => field1 n ++ field1 c ++ field1 a.code
  | .stageLate n c x => field1 n ++ field1 c ++ field1 x
  | .vetoGiven v => v.bytes
  | .consentAsk a f => field1 a ++ field1 f.body.kind.code ++ field1 f.sender ++ f.body.askBytes
  | .doorEvent n j l x m => field1 n ++ field1 j.code ++ field1 (latchCode l) ++ field1 x.code ++ field1 m
  | .resealCalled n j q => field1 n ++ field1 j.code ++ fieldFlag q
  | .resealQueueFull n j => field1 n ++ field1 j.code
  | .resealEnded n j r o => field1 n ++ field1 j.code ++ field1 r ++ field1 o.outcome
  | .ovenState n a b c r t => field1 n ++ field1 a.code ++ field1 b.code ++ field3 c ++ field1 r.code ++ field2 t
  | .attention n j c raised =>
    (match n with | some k => field1 k | none => []) ++ (match j with | some k => field1 k.code | none => []) ++ field1 c.code ++
      fieldFlag (!raised)
  | .stationChange id p r => field1 id ++ field1 p.code ++ fieldOpt 1 (fun x => field1 (Role.code x)) r
  | .duplicateSeen id c => field1 id ++ field1 c.code
  | .lineState w => w.bytes
  | .stopped e r c g =>
    field1 e.code ++ fieldOpt 1 field1 r ++ fieldOpt 1 (fun x => field1 (StopCause.code x)) c ++ fieldOpt 1 field1 g
  | .resumed r g => field1 r ++ field1 g
  | .moveGranted m => field1 m
  | .moveDone m g => field1 m ++ (match g with | some b => fieldFlag b | none => [])
  | .quenchDone q d => field1 q ++ field1 d
  | .frameRefused b => field1 b.kind.code ++ b.bytes

/-! ## Messages (R177, R191) -/

/-- The sync byte. -/
def syncByte : Byte := 0xC5#8

/-- The check byte: the sum of kind, length, body and check is 0. -/
def checkByte (cs : List Byte) : Byte := 0#8 - cs.sum

/-- A whole message. -/
def messageBytes (kind : Byte) (body : List Byte) : List Byte :=
  let cs := kind :: byte body.length :: body
  syncByte :: (cs ++ [checkByte cs])

/-- The bytes the transmitter sends. -/
def Outgoing.bytes : Outgoing → List Byte
  | .reply r => messageBytes r.kind ([byte r.result.code, byte r.detail] ++ r.values)
  | .report r spilled => messageBytes (byte r.kind) (flagByte spilled :: r.fields)

/-! ## The receive assembler (R178, R179) -/

/-- The kind byte received so far. -/
def Assembler.kind? : Assembler → Option Byte
  | .hunt | .kind => none
  | .length k => some k
  | .body k _ _ => some k

/-- A BAD_MESSAGE reply, kind 0xBF, with the received kind byte (R178, R191). -/
def State.badMessage (s : State) (kind : Option Byte) : State := s.reply 0x3F#8 .badMessage 0 (fieldOpt 1 (fun b => [b]) kind)

/-- The assembler changed. -/
def State.setRx (s : State) (a : Assembler) : State := s.withPort { s.port with rx := a }

/-- A kind in the command range 0x01 to 0x3F (R191). -/
def isCommandKind (k : Byte) : Bool := decide (1 ≤ k.toNat ∧ k.toNat ≤ 0x3F)

/-- A complete message is handed to the command buffer (R179). -/
def State.handCommand (s : State) (c : Command) : State :=
  if isCommandKind c.kind = false then s.badMessage (some c.kind)
  else if Config.commandMax ≤ s.port.commands.length then s.reply c.kind .busy
  else s.withPort { s.port with commands := s.port.commands ++ [c] }

/-- One received byte (R178). In HUNT a byte with a framing error is discarded like any other, a sync byte too, and a kind byte that itself comes
with one counts as not received, so that the BAD_MESSAGE reply names no kind (DESIGN CHOICE, log 50). -/
def State.receiveByte (s : State) (b : RxChar) : State :=
  match s.port.rx with
  | .hunt => if b.framing = false ∧ b.value = syncByte then s.setRx .kind else s
  | .kind => if b.framing then (s.setRx .hunt).badMessage none else s.setRx (.length b.value)
  | .length k =>
    if b.framing = true ∨ 32 < b.value.toNat then (s.setRx .hunt).badMessage (some k) else s.setRx (.body k b.value.toNat [])
  | .body k n got =>
    if b.framing then (s.setRx .hunt).badMessage (some k)
    else if got.length < n then s.setRx (.body k n (got ++ [b.value]))
    else if b.value = checkByte (k :: byte n :: got) then (s.setRx .hunt).handCommand ⟨k, got⟩
    else (s.setRx .hunt).badMessage (some k)

/-! ## A command's body (R179) -/

/-- The place, from 1, of the first field that a body of a given length does not hold whole. -/
def missingField : List Nat → Nat → Nat → Nat
  | [], _, place => place
  | w :: ws, len, place => if len < w then place else missingField ws (len - w) (place + 1)

/-- The port's check of a body's length against the command's fields: the place that BAD_ARG names, 0 for the length. -/
def bodyFault (widths : List Nat) (len : Nat) : Option Nat :=
  if len < widths.sum then some (missingField widths len 1) else if widths.sum < len then some 0 else none

/-- An unsigned field: the bytes at an offset. -/
def natAt (body : List Byte) (offset width : Nat) : Nat := natLow ((body.drop offset).take width)

/-- A signed field: the bytes at an offset. -/
def intAt (body : List Byte) (offset width : Nat) : Int := intLow ((body.drop offset).take width)

/-- No command holds execution, and the reply queue has room (R180): a command may begin. -/
def State.mayBegin (s : State) : Bool := s.port.hold.isNone && decide (s.port.replies.length < Config.replyMax)

/-- The command that begins now, where its kind satisfies p. -/
def State.beginning (s : State) (p : Byte → Bool) : Option Command :=
  if s.mayBegin then s.port.commands.head?.filter fun c => p c.kind else none

end Sys2Proof.Machine
end

