-- ==== Sys2Proof/Machine/PortEvents.lean ====
section
/-! DEFINITION. The rows of the local port (11): bytes received, the gap between bytes, a message sent; and the execution of the command
at the head of the buffer (R179, R180; log 24). -/

namespace Sys2Proof.Machine

/-- MESSAGE_RECEIVED (R178, R179): the bytes, one after another. -/
def execMessageReceived (bytes : List RxChar) (s : State) : Host.Outcome State Fault Refusal :=
  s.event (some (bytes.foldl State.receiveByte s))

/-- INTER_BYTE_GAP (R178): more than 5 ms within a message. -/
def execInterByteGap (s : State) : Host.Outcome State Fault Refusal :=
  s.event (if s.port.rx = .hunt then none else some ((s.setRx .hunt).badMessage s.port.rx.kind?))

/-- MESSAGE_SENT (R183): the transmitter takes the next message. -/
def execMessageSent (s : State) : Host.Outcome State Fault Refusal :=
  s.event
    (match s.port.tx with
      | some _ => some (s.withPort ({ s.port with tx := none }).kick)
      | none => none)

/-- The command at the head is executed, where it is of the kind and may begin: first the port's check of its length against its
fields, then the station's role, then the command's own rule (R179). -/
def State.command (s : State) (code : Nat) (widths : List Nat) (roles : List Role) (run : List Byte → State) :
    Host.Outcome State Fault Refusal :=
  s.event
    ((s.beginning fun k => decide (k.toNat = code)).map fun c =>
      match bodyFault widths c.body.length with
      | some place => s.answer .badArg place
      | none => if s.role ∈ roles then run c.body else s.answer .notRole)

/-- Every role. -/
abbrev allRoles : List Role := [.bank, .pusher, .guide, .quench]

/-- The roles with a machine unit. -/
abbrev machineRoles : List Role := [.pusher, .guide]

/-- UNASSIGNED_COMMAND (R179, R191): a kind in the command range that names no command. -/
def execUnassignedCommand (s : State) : Host.Outcome State Fault Refusal :=
  s.event ((s.beginning fun k => decide (0x20 ≤ k.toNat ∧ k.toNat ≤ 0x3F)).map fun _ => s.answer .badArg 0)

/-- REFUSED with its reason (R180). -/
def State.refuse (s : State) (reason : Cause) : State := s.answer .refused reason.code

/-- A frame is offered for a command: ACCEPTED with values if it is queued, else BUSY (R15). -/
def State.offerFor (s : State) (b : Body) (values : List Byte := []) : State :=
  if s.accepts b then (s.offer b).answer .accepted 0 values else (s.offer b).answer .busy

end Sys2Proof.Machine
end

