-- ==== Sys2Proof/Machine/BankCommands.lean ====
section
/-! DEFINITION. The commands of a BANK (R38 to R42, R73 to R75, R87). -/

namespace Sys2Proof.Machine

/-- A command that names an oven of the bank in its first field: BAD_STATE before START, BAD_ARG (oven) outside the range (R35). The
command's rule then runs at the oven's place. -/
def State.onOven (s : State) (b : List Byte) (run : BankPart0 → Nat → State) : State :=
  match s.bankConfig with
  | none => s.answer .badState
  | some (p, _) =>
    match s.ovenIndex (natAt b 0 1) with
    | none => s.answer .badArg 1
    | some i => run p i

/-- The state of the oven at place i. -/
def State.ovenState? (s : State) (i : Nat) : Option OvenState := (s.oven? i).map Oven.state

/-- SET_WALL_TEMP at place i (R42). -/
def State.setWallTemp (s : State) (p : BankPart0) (i : Nat) (v : Int) : State :=
  let t := clampInt v 700 1500
  (s.setOven i fun o =>
    let o1 : Oven := { o with temp := some t.toNat, tempAge := 0, stale := false }
    if o1.cokes then { o1 with minutes := o1.minutesToReady p } else o1).answer .accepted (if t = v then 0 else detailClamped) (field2 t)

/-- SET_WALL_TEMP (R42). -/
def execSetWallTemp (s : State) : Host.Outcome State Fault Refusal :=
  s.command 0x13 [1, 2] [.bank] fun b => s.onOven b fun p i => s.setWallTemp p i (intAt b 1 2)

/-- The state that RESTORE_OVEN restores (R191). -/
def restoredState : Nat → Option OvenState
  | 0 => some .empty
  | 1 => some .coking
  | 2 => some .outOfService
  | _ => none

/-- RESTORE_OVEN accepted at place i (R38, R75). -/
def State.restoreOven (s : State) (i : Nat) (new : OvenState) (credit : Nat) (u0 : Int) (stamp : Nat) : State :=
  let mode : Mode := if new = .coking then .collect else .isolated
  (((s.setOven i fun o => { o with credit := credit, stamp := stamp }).enterOven i new).setLoop i (Loop.restore u0 mode)).answer .accepted

/-- RESTORE_OVEN (R38). In CONFLICT, a state the rule does not name, it is carried out as in the others (DESIGN CHOICE, log 43). -/
def execRestoreOven (s : State) : Host.Outcome State Fault Refusal :=
  s.command 0x14 [1, 1, 3, 2, 2] [.bank] fun b => s.onOven b fun _ i =>
    match restoredState (natAt b 1 1) with
    | none => s.answer .badArg 2
    | some new =>
      if 1000 < natAt b 5 2 then s.answer .badArg 4
      else if s.ovenState? i ≠ some .unknown ∨ (s.claimOn (s.ovenAt i)).isSome = true then s.answer .badState
      else s.restoreOven i new (natAt b 2 3) (natAt b 5 2) (natAt b 7 2)

/-- The oven at place i becomes OUT_OF_SERVICE, its loop goes to ISOLATED, and its OFF doors may seat (R39, R71, R83). -/
def State.serviceOut (s : State) (i : Nat) : State :=
  (((s.enterOven i .outOfService).setLoop i Loop.toIsolated).seatDoors i).answer .accepted

/-- SET_SERVICE (R39). A direction that is neither is BAD_ARG whatever the oven's state (DESIGN CHOICE, log 44). -/
def execSetService (s : State) : Host.Outcome State Fault Refusal :=
  s.command 0x15 [1, 1] [.bank] fun b => s.onOven b fun _ i =>
    match natAt b 1 1, s.ovenState? i with
    | 0, some .unknown => if (s.claimOn (s.ovenAt i)).isSome then s.answer .badState else s.serviceOut i
    | 0, some .empty => s.serviceOut i
    | 0, some .faulted => s.serviceOut i
    | 1, some .outOfService => ((s.enterOven i .empty).setLoop i Loop.toIsolated).answer .accepted
    | 0, _ => s.answer .badState
    | 1, _ => s.answer .badState
    | _, _ => s.answer .badArg 2

/-- The loop takes a manual target (R73). -/
def Loop.setManual (target : Int) (l : Loop) : Loop := { l with mode := .manual, target := some target, charge := none }

/-- MANUAL is released (R74). -/
def Loop.releaseManual (l : Loop) : Loop := { l with mode := .collect, target := none }

/-- SET_VALVE with a target (R73). -/
def State.setValve (s : State) (i : Nat) (v : Int) : State :=
  let t := clampInt v 0 1000
  if s.ovenState? i = some .coking then
    (s.setLoop i (Loop.setManual t)).answer .accepted (if t = v then 0 else detailClamped) (field2 t)
  else s.answer .badState

/-- SET_VALVE with release (R74). -/
def State.releaseValve (s : State) (i : Nat) : State :=
  if (s.loop? i).any fun l => decide (l.mode = .manual) then (s.setLoop i Loop.releaseManual).answer .accepted else s.answer .badState

/-- SET_VALVE (R73, R74). -/
def execSetValve (s : State) : Host.Outcome State Fault Refusal :=
  s.command 0x16 [1, 1, 2] [.bank] fun b => s.onOven b fun _ i =>
    match natAt b 1 1 with
    | 0 => s.setValve i (intAt b 2 2)
    | 1 => s.releaseValve i
    | _ => s.answer .badArg 2

/-- CLEAR_FAULT (R40, R83). -/
def execClearFault (s : State) : Host.Outcome State Fault Refusal :=
  s.command 0x17 [1] [.bank] fun b => s.onOven b fun _ i =>
    if s.ovenState? i ≠ some .faulted then s.answer .badState
    else if s.bothLatched i then (((s.enterOven i .empty).setLoop i Loop.toIsolated).seatDoors i).answer .accepted
    else s.refuse .doorState

/-- FREE_DOOR_LATCH for the two doors of the oven at place i (R87). -/
def State.freeOven (s : State) (i : Nat) : State := (s.freeLatch (doorIndex i .ps)).freeLatch (doorIndex i .cs)

/-- FREE_DOOR_LATCH (R87): oven 0 stands for all ovens of the bank. -/
def execFreeDoorLatch (s : State) : Host.Outcome State Fault Refusal :=
  s.command 0x18 [1] [.bank] fun b =>
    if s.started = true ∧ natAt b 0 1 = 0 then
      ((List.range s.bank.ovens.length).foldl State.freeOven s).answer .accepted
    else s.onOven b fun _ i => (s.freeOven i).answer .accepted

end Sys2Proof.Machine
end

