-- ==== Sys2Proof/Machine/Judge.lean ====
section
/-! DEFINITION. The judgement of a frame that was received cleanly and is not malformed (R32, R51, R62, R91, R92, R95, R114 to R116,
R118, R123, R130, R172, R173, R175). -/

namespace Sys2Proof.Machine

/-- The cause of the first check that fails. -/
def firstCause : List (Bool × Cause) → Option Cause
  | [] => none
  | (fails, c) :: rest => if fails then some c else firstCause rest

/-- What this station's blocks answer: a veto cause, a question to the station processor, or take (R8, R118). -/
inductive Judgement where
  | veto (cause : Cause)
  | ask
  | take
  deriving DecidableEq, Repr

/-- A judgement from the checks and the consent mask: consent is asked only where no check found a veto (R118). -/
def judgement (found : Option Cause) (asks : Bool) : Judgement :=
  match found with
  | some c => .veto c
  | none => if asks then .ask else .take

/-! ## PUSH_CLAIM -/

/-- The common checks of a PUSH_CLAIM for oven n and serial c (R114). -/
def State.claimChecks (s : State) (sender n c : Nat) : Option Cause :=
  firstCause
    [(s.stop.stopped, .stopped), (!s.hasRole sender .pusher, .role), (!serialExpected s.claims.highest c, .staleSerial),
      (s.openClaim.isSome, .claimBusy), (s.resealOn n .ps || s.resealOn n .cs, .resealOpen)]

/-- The credit falls short of what a claim needs: K, or K − 3840 for a forced claim (R115). -/
def creditShort (p : BankPart0) (forced : Bool) (credit : Nat) : Bool :=
  decide (credit < if forced then p.creditTarget - 3840 else p.creditTarget)

/-- The door is not fit for a push claim (R115). -/
def Door.unfit (x : Door) : Bool :=
  decide (x.latch = .unlatched) || !(decide (x.sealing = .tight) || decide (x.sealing = .weeping) || decide (x.sealing = .leaking))

/-- The loop is not fit for a push claim (R76, R115). -/
def Loop.unfit (l : Loop) : Bool := decide (l.mode = .manual) || decide (l.mode = .released) || l.lost

/-- A property of one of the two doors of the oven at place i. -/
def State.anyDoor (s : State) (i : Nat) (p : Door → Bool) : Bool :=
  (s.door? (doorIndex i .ps)).any p || (s.door? (doorIndex i .cs)).any p

/-- The checks of the BANK that owns the oven at place i (R115). -/
def State.bankClaimChecks (s : State) (p : BankPart0) (i : Nat) (forced : Bool) : Option Cause :=
  firstCause
    [(!(s.oven? i).any fun o => decide (o.state = .coking), .notReady),
      ((s.oven? i).any fun o => creditShort p forced o.credit, .notReady),
      (s.anyDoor i Door.unfit, .doorState), ((s.loop? i).any Loop.unfit, .regulator)]

/-- The checks of the GUIDE (R116). -/
def State.guideClaimChecks (s : State) (n : Nat) : Option Cause :=
  firstCause
    [(decide (s.machine.position ≠ n), .position), (s.openReseals.any fun r => decide (r.side = .cs), .resealOpen),
      ((s.owner? n).isNone, .ownerAbsent)]

/-- The checks of the QUENCH station (R116). -/
def State.carClaimChecks (s : State) (n : Nat) : Option Cause :=
  firstCause
    [(!(decide (s.car.state = .spotted) && decide (s.car.marker = n) && decide (s.car.load = .none)), .car),
      ((s.owner? n).isNone, .ownerAbsent)]

/-- An ON_LINE station that did not send it judges a PUSH_CLAIM (R114 to R116, R118). -/
def State.judgePushClaim (s : State) (sender n c : Nat) (forced : Bool) : Judgement :=
  match s.claimChecks sender n c with
  | some x => .veto x
  | none =>
    match s.role with
    | .bank =>
      match s.bankConfig, s.ovenIndex n with
      | some (p, _), some i => judgement (s.bankClaimChecks p i forced) s.consent.pushClaim
      | _, _ => .take
    | .guide => judgement (s.guideClaimChecks n) s.consent.pushClaim
    | .quench => judgement (s.carClaimChecks n) s.consent.pushClaim
    | .pusher => .take

/-! ## Stages and abandons -/

/-- The sender may send the stage for oven n (R123, check 2). -/
def State.ownsStage (s : State) (sender n : Nat) (x : Stage) : Bool :=
  match x.owner with
  | .bank => s.bankCovers sender n
  | r => s.hasRole sender r

/-- A PUSH_STAGE is judged (R123). An unknown stage code has no owner (R186). -/
def State.judgeStage (s : State) (sender n c x : Nat) (revoke : Bool) : Option Cause :=
  match s.claimMatching n c, Stage.ofCode? x with
  | none, _ => some .staleSerial
  | some _, none => some .order
  | some r, some y =>
    firstCause
      [(!s.ownsStage sender n y, .order), (revoke && y.permanent, .order), (!revoke && !r.stages.maySet y, .order),
        (revoke && !r.stages.mayRevoke y, .order)]

/-- The sender may give the abandon cause for oven n (R130, check 2). -/
def State.mayAbandon (s : State) (sender n : Nat) (cause : Nat) : Bool :=
  match AbandonCause.ofCode cause with
  | .timeout => true
  | .command => s.hasRole sender .pusher || s.hasRole sender .guide || s.hasRole sender .quench || s.bankCovers sender n
  | .carFault => s.hasRole sender .quench
  | .dropped | .other _ => false

/-- A PUSH_ABANDON is judged (R130). -/
def State.judgeAbandon (s : State) (sender n c cause : Nat) : Option Cause :=
  firstCause [((s.claimMatching n c).isNone, .staleSerial), (!s.mayAbandon sender n cause, .role)]

/-! ## Reseal frames -/

/-- The sender has the role that serves a side (R91, R95). -/
def State.servesSide (s : State) (sender side : Nat) : Bool :=
  match Side.ofCode? side with
  | some j => s.hasRole sender j.role
  | none => false

/-- The claim tracker's checks of a RESEAL_CLAIM (R91). -/
def State.resealChecks (s : State) (sender n side r : Nat) : Option Cause :=
  firstCause
    [(s.stop.stopped, .stopped), (!s.servesSide sender side, .role), (!serialExpected s.claims.highestReseal r, .staleSerial),
      ((Side.ofCode? side).any (s.resealOn n) || decide (4 ≤ s.openReseals.length), .resealOpen),
      ((s.claimOn n).isSome, .claimBusy), ((s.owner? n).isNone, .ownerAbsent)]

/-- A door in this seal state may not be resealed (R92). -/
def Seal.barsReseal : Seal → Bool
  | .off | .resealing | .seating => true
  | .tight | .weeping | .leaking | .unlatchedUnexpected => false

/-- An oven in this state bars a reseal of its doors (R92). -/
def OvenState.barsReseal : OvenState → Bool
  | .unknown | .claimed | .pushing | .held => true
  | .empty | .coking | .faulted | .outOfService => false

/-- The door monitor of the owning bank judges a RESEAL_CLAIM (R92). -/
def State.resealDoorChecks (s : State) (i : Nat) (side : Nat) : Option Cause :=
  firstCause
    [((s.oven? i).any fun o => o.state.barsReseal, .doorState),
      ((Side.ofCode? side).any fun j => (s.door? (doorIndex i j)).any fun x => x.sealing.barsReseal, .doorState)]

/-- An ON_LINE station that did not send it judges a RESEAL_CLAIM (R91, R92). -/
def State.judgeResealClaim (s : State) (sender n side r : Nat) : Judgement :=
  match s.resealChecks sender n side r with
  | some x => .veto x
  | none =>
    match s.ovenIndex n with
    | some i => judgement (s.resealDoorChecks i side) s.consent.resealClaim
    | none => .take

/-- A reseal record bars a RESEAL_DONE for serial r (R95, check 2). -/
def Reseal.barsDone (n side r : Nat) (x : Reseal) : Bool :=
  decide (x.serial = r) && (!x.isOpen || !(decide (x.oven = n) && decide (x.side.code = side)))

/-- The sender may send the outcome (R95, check 1). -/
def State.mayEndReseal (s : State) (sender n side outcome : Nat) : Bool :=
  match Side.ofCode? side, ResealEnd.ofOutcome? outcome with
  | some j, some .done => s.hasRole sender j.role
  | some _, some .givenUp => s.bankCovers sender n
  | _, _ => false

/-- A RESEAL_DONE is judged (R95). -/
def State.judgeResealDone (s : State) (sender n side r outcome : Nat) : Option Cause :=
  firstCause
    [(!s.mayEndReseal sender n side outcome, .role),
      ((s.claims.reseals.filterMap id).any (Reseal.barsDone n side r), .staleSerial)]

/-! ## CHARGED, RESUME -/

/-- A door bars a CHARGED (R51). -/
def Door.barsCharge (x : Door) : Bool :=
  decide (x.latch = .unlatched) ||
    match x.sealing with
    | .off | .resealing | .unlatchedUnexpected => true
    | .seating | .tight | .weeping | .leaking => false

/-- A CHARGED is judged: at every station for the stop (R172), at the owning bank by R51. Of several entries that show the role PUSHER each
counts (DESIGN CHOICE, log 42). -/
def State.judgeCharged (s : State) (sender n : Nat) : Option Cause :=
  if s.stop.stopped then some .stopped
  else
    match s.ovenIndex n with
    | some i =>
      firstCause
        [(!s.hasRole sender .pusher, .role), (!(s.oven? i).any fun o => decide (o.state = .empty), .notReady),
          (s.anyDoor i Door.barsCharge, .doorState)]
    | none => none

/-- A RESUME is judged by a station that did not send it (R175). A joining station makes check 2 alone. -/
def State.judgeResume (s : State) (r : Nat) : Judgement :=
  judgement
    (firstCause
      [(s.onLine && (s.stop.mark.isSome || (decide (s.stop.highest ≠ 0) && decide (r ≠ s.stop.highest))), .staleSerial),
        (s.stop.input, .localStop)])
    s.consent.resume

/-! ## The station's judgement -/

/-- A joining BANK vetoes claims on its own ovens and takes others; other joining stations offer claims to no block (R32). -/
def State.judgeClaimJoining (s : State) (n : Nat) : Judgement :=
  match s.ovenIndex n with
  | some _ => .veto .ownerJoining
  | none => .take

/-- The judgement in JOINING (R32). -/
def State.judgeJoining (s : State) (own : Bool) : Body → Judgement
  | .pushClaim n _ _ | .resealClaim n _ _ => s.judgeClaimJoining n
  | .resume r => if own then .take else s.judgeResume r
  | .census | .announce _ _ | .stopNote _ _ | .pushStage _ _ _ _ | .pushAbandon _ _ _ | .resealDone _ _ _ _ | .charged _
  | .resealCall _ _ | .mainPressure _ _ => .take

/-- The judgement in ON_LINE. A station does not judge its own RESEAL_DONE: R95 speaks of a received one, and the bank of R94 has ended its
own record before it sends (DEDUCED, log 51). -/
def State.judgeOnLine (s : State) (own : Bool) (sender : Nat) : Body → Judgement
  | .pushClaim n c f => if own then .take else s.judgePushClaim sender n c f
  | .pushStage n c x r => judgement (s.judgeStage sender n c x r) false
  | .pushAbandon n c a => judgement (s.judgeAbandon sender n c a) false
  | .resealClaim n j r => if own then .take else s.judgeResealClaim sender n j r
  | .resealDone n j r o => if own then .take else judgement (s.judgeResealDone sender n j r o) false
  | .charged n => judgement (s.judgeCharged sender n) false
  | .resume r => if own then .take else s.judgeResume r
  | .census | .announce _ _ | .stopNote _ _ | .resealCall _ _ | .mainPressure _ _ => .take

/-- The judgement of a clean frame that keeps the frame rules, by station state. `own` marks this station's own frame. A station
that does not drive judges nothing. -/
def State.judge (s : State) (own : Bool) (f : Frame) : Judgement :=
  match s.life.state with
  | .joining => s.judgeJoining own f.body
  | .onLine => s.judgeOnLine own f.sender f.body
  | .offLine | .listenOnly | .conflict => .take

end Sys2Proof.Machine
end

