-- ==== Sys2Proof/Machine/Announce.lean ====
section
/-! DEFINITION. What a station announces (R28, R29): the summaries of a bank (R49, R50), the payload of each role (R110, R152,
R169), the claim trailer, and the offering of an ANNOUNCE. -/

namespace Sys2Proof.Machine

/-- State code and minutes code of an oven (R49). -/
def Oven.summary (o : Oven) : SummaryState × Nat :=
  match o.state with
  | .unknown => (.unknown, 15)
  | .empty => (.empty, 15)
  | .coking =>
    match o.readiness with
    | .notReady => (.notReady, min (ceilDiv o.minutes 10) 15)
    | .ready => (.ready, 0)
    | .overcoked => (.overcoked, 0)
  | .claimed => (.claimed, if o.minutes = 0 then 0 else min (ceilDiv o.minutes 10) 15)
  | .pushing => (.pushing, 15)
  | .held => (.held, 15)
  | .faulted => (.faulted, 15)
  | .outOfService => (.outOfService, 15)

/-- The summary byte: state code in bits 4–7, minutes code in bits 0–3 (R187). -/
def Oven.summaryByte (o : Oven) : Byte := byte (o.summary.1.code * 16 + o.summary.2)

/-- The open reseal claim of side CS that a guide announces (R152; of several log 70). -/
def State.openCsReseal (s : State) : Option Reseal := s.openReseal .cs

/-- The role payload at the moment of offering. -/
def State.payload (s : State) : Payload :=
  match s.role with
  | .bank => .bank (s.ovenAt 0) (s.bank.ovens.map Oven.summaryByte)
  | .pusher =>
    match s.plan with
    | some p => .pusher p.shown p.cycle p.pass s.machine.position
    | none => .pusher 0 0 0 s.machine.position
  | .guide =>
    match s.openCsReseal with
    | some r => .guide s.machine.position s.machine.queue.length r.oven Side.cs.code
    | none => .guide s.machine.position s.machine.queue.length 0 noSide
  | .quench => .quench s.car.state.code s.car.marker s.car.load.code ((s.car.queue.head?.map Move.target).getD 0)

/-- The claim trailer at the moment of offering (R29). -/
def State.trailer (s : State) : Trailer :=
  match s.openClaim with
  | some c => ⟨c.oven, c.serial, c.stages⟩
  | none => ⟨0, s.claims.highest, .clear⟩

/-- The announce content (R28). -/
def State.content (s : State) : Content := ⟨s.payload, s.trailer, s.joining, s.stop.stopped⟩

/-- A leaving ANNOUNCE is in the send queue (R22). -/
def State.leavingQueued (s : State) : Bool := s.queue.any QueueEntry.leaving

/-- An ANNOUNCE is offered under R28: its timer restarts, and its content is kept if it is queued. None is offered while the
leaving ANNOUNCE of R22 is in the queue. -/
def State.offerAnnounce (s : State) : State :=
  let b := Body.announce s.payload s.trailer
  if s.leavingQueued then s
  else if s.accepts b then
    (s.offer b).withLife { s.life with announce := some 0, lastContent := some s.content }
  else s.withLife { s.life with announce := some 0 }

end Sys2Proof.Machine
end

