-- ==== Sys2Proof/Machine/Life.lean ====
section
/-! DEFINITION. The life of a station: the stop pulse (R18, R170), and the transitions of the table in section 2.2 (R13, R17, R20 to
R23, R27), with what each block does on them. -/

namespace Sys2Proof.Machine

/-! ## Changes of the line and of the life record -/

/-- The line interface changed. -/
def State.changeLine (s : State) (f : Line → Line) : State := s.withLine (f s.line)

/-- The life record changed. -/
def State.changeLife (s : State) (f : Life → Life) : State := s.withLife (f s.life)

/-- The stop state changed. -/
def State.changeStop (s : State) (f : StopState → StopState) : State := s.withStop (f s.stop)

/-- The local port changed. -/
def State.changePort (s : State) (f : Port → Port) : State := s.withPort (f s.port)

/-- LINE_STATE with the station state. -/
def State.reportLife (s : State) : State := s.report (.lineState (.station s.life.state))

/-- The line interface drives nothing. -/
def Line.release (l : Line) : Line := { l with dat := .released, hld := false, vto := false }

/-- The line interface in OFF: nothing driven, no frame, no window (R1, R17). The fault counters stand until the next entry to
JOINING (R13). -/
def Line.off (l : Line) : Line := { Line.reset with checkStreak := l.checkStreak, cleanRun := l.cleanRun }

/-! ## The command that holds execution (R180) -/

/-- ABANDON holds execution (R134). -/
def State.abandonWaits (s : State) : Bool :=
  match s.port.hold with
  | some (.abandon _) => true
  | some (.leave _) | none => false

/-- LEAVE holds execution (R22). -/
def State.leaveWaits (s : State) : Bool :=
  match s.port.hold with
  | some (.leave _) => true
  | some (.abandon _) | none => false

/-- The command that holds execution is answered, and execution goes on. -/
def State.answerHeld (s : State) (result : Result) (detail : Nat := 0) : State :=
  (s.changePort fun p => { p with hold := none }).answer result detail

/-- ABANDON is answered ACCEPTED (WITHDRAWN) where it waits (R134). -/
def State.abandonWithdrawn (s : State) : State := if s.abandonWaits then s.answerHeld .accepted detailWithdrawn else s

/-! ## Stop pulses -/

/-- The station begins a stop pulse and offers its STOP_NOTE (R18, R170). A pulse of its own that is still driven stands. The note's
serial is not fixed before its contention, so a free value stands in it (log 13). -/
def State.givePulse (s : State) (cause : StopCause) : State :=
  if s.line.dat = .stopPulse then s
  else
    let s1 := s.changeLine fun l => { l with dat := .stopPulse, hld := false, vto := false }
    (s1.withFree (s1.free + 1)).offer (.stopNote cause.code (Config.unfixedStopSerial s1.free))

/-- A station that enters JOINING with its STOP input ASSERTED gives a pulse (R170). -/
def State.pulseIfAsserted (s : State) : State := if s.stop.input then s.givePulse .stopInput else s

/-! ## Leaving the line (R17, R22, R23) -/

/-- The stop state after LEAVE and entry to CONFLICT; the input reading goes on (R170, R171). -/
def StopState.cleared (t : StopState) : StopState := .reset t.input

/-- The reseal claim records are emptied; a door RESEALING under an open one leaves RESEALING (R90, R94). -/
def State.emptyReseals (s : State) : State :=
  let s1 := s.openReseals.foldl State.loseReseal s
  s1.withClaims { s1.claims with reseals := Tracker.reset.reseals, highestReseal := 0 }

/-- The claim record is ended and emptied (R111, R113). -/
def State.emptyClaims (s : State) : State :=
  let s1 := s.dropClaim.emptyReseals
  s1.withClaims { s1.claims with record := none, highest := 0, retry := none }

/-- The plan unit off ON_LINE: it shows 0 and its timer stops (R103). -/
def Plan.idle (p : Plan) : Plan := { p with shown := 0, timer := none }

/-- What LEAVE does to the blocks: the queue empties without a report, the line goes OFF, the claim tracker, the stop state, the
plan unit, the machine unit and the car unit are left as their chapters give it. -/
def State.leaveBlocks (s : State) : State :=
  let s1 := (s.withQueue []).changeLine Line.off
  let s2 := s1.emptyClaims
  ((((s2.changeStop StopState.cleared).changePlan Plan.idle).clearRevoke.clearWanted).changeCar fun c => { c with readyTimer := none })

/-- A station table entry is not in presence ABSENT with role UNKNOWN. -/
def Entry.shown (e : Entry) : Bool := decide (e.presence ≠ .absent) || decide (e.role ≠ none)

/-- STATION_CHANGE for each entry whose presence or role the table's clearing changes (R24, R184). -/
def clearReports (table : List Entry) : List Report :=
  (List.range table.length).filterMap fun id =>
    if (table[id]?).any Entry.shown then some (.stationChange id .absent none) else none

/-- Entry to OFF_LINE (R22). A LEAVE that waits is answered ACCEPTED. -/
def State.enterOffLine (s : State) : State :=
  let s1 := s.changeLife fun l => { l with state := .offLine, joinCount := 0, adopted := false, census := none, announce := none }
  let s2 := s1.leaveBlocks
  let s3 := (s2.withTable (List.replicate 32 .reset)).reportAll (clearReports s2.table)
  if s3.leaveWaits then s3.answerHeld .accepted else s3

/-- Entry to CONFLICT (R23). -/
def State.enterConflict (s : State) (cause : Cause) : State :=
  let s1 := s.changeLife fun l =>
    { l with state := .conflict, conflict := some cause, joinCount := 0, adopted := false, census := none, announce := none }
  (s1.report (.lineState (.conflict cause))).leaveBlocks.abandonWithdrawn

/-! ## LISTEN_ONLY (R13, R17) -/

/-- The report of a frame dropped at entry to LISTEN_ONLY. -/
def Body.droppedReport (b : Body) : Option Report :=
  match b with
  | .pushClaim n c f => some (.pushOutcome n c f .listenOnly none none)
  | .resealClaim n j r => some (.resealOutcome n j r .listenOnly)
  | .pushStage _ _ _ _ | .pushAbandon _ _ _ | .resealDone _ _ _ _ | .charged _ | .stopNote _ _ | .resume _ => some (.frameRefused b)
  | .census | .announce _ _ | .mainPressure _ _ | .resealCall _ _ => none

/-- The OPEN claim's timer stands at the push limit (R128). -/
def State.timedOut (s : State) : Bool := s.openClaim.any fun c => decide (s.pushLimit ≤ c.timer)

/-- An abandon of cause a for the OPEN claim was dropped: where the claim has timed out, a new offer follows 1000 ms later, whatever the
cause of the dropped one (R128; log 19), also where the timer runs already (DESIGN CHOICE, log 69). -/
def State.retryAbandon (s : State) (a : Nat) : State :=
  if a = AbandonCause.timeout.code ∨ s.timedOut = true then s.withClaims { s.claims with retry := some 0 } else s

/-- The producer of a dropped frame tries again later: the claim tracker an abandon of a claim that has timed out, the guide an owed revoke,
the car unit its CAR_READY (R128, R141, R162; log 19). -/
def State.retryLater (s : State) (b : Body) : State :=
  match b with
  | .pushAbandon n c a =>
    if (s.claimMatching n c).isSome then s.retryAbandon a else s
  | .pushStage _ c x true =>
    if x = Stage.guideSet.code ∧ s.machine.revokeOwed = some c then s.changeMachine fun m => { m with revokeTimer := some 0 }
    else if x = Stage.carReady.code then s.startReadyTimer else s
  | .pushStage _ _ x false => if x = Stage.carReady.code then s.startReadyTimer else s
  | _ => s

/-- Entry to LISTEN_ONLY (R13). -/
def State.enterListenOnly (s : State) : State :=
  let bodies := s.queue.map QueueEntry.body
  let s1 := (s.changeLife fun l => { l with state := .listenOnly }).reportLife
  let s2 := ((s1.withQueue []).changeLine Line.release).reportAll (bodies.filterMap Body.droppedReport)
  (bodies.foldl State.retryLater s2).clearWanted.changePlan Plan.idle

/-! ## JOINING (R13, R20, R21) -/

/-- The life record on entry to JOINING. -/
def Life.joining (l : Life) : Life := { l with state := .joining, joinCount := 0, adopted := false, census := some 0 }

/-- The line interface on entry to JOINING from OFF_LINE. -/
def Line.seeking (_ : Line) : Line := { Line.reset with state := .seeking }

/-- The station's own entry is filled: role, and a BANK's range (R20). -/
def State.ownEntry (s : State) (e : Entry) : Entry :=
  { e with role := some s.role, range := s.bankConfig.map fun (p, _) => (p.first, p.count) }

/-- Entry to JOINING from OFF_LINE, with the command's reply (R20, R21). -/
def State.enterJoining (s : State) : State :=
  let id := s.straps.id
  let e := s.ownEntry (s.entry id)
  let s1 := (s.withTable (s.table.set id e)).reportIf (decide (e.role ≠ (s.entry id).role)) (.stationChange id e.presence e.role)
  let s2 := ((s1.changeLife Life.joining).changeLine Line.seeking).reportLife
  (s2.answer .accepted).offerAnnounce.pulseIfAsserted

/-- Return from LISTEN_ONLY to JOINING: the line state stays (R3, R13). -/
def State.returnToJoining (s : State) : State :=
  let s1 := (s.changeLife Life.joining).changeLine fun l => { l with checkStreak := 0, cleanRun := 0 }
  s1.reportLife.offerAnnounce.pulseIfAsserted

/-! ## ON_LINE (R27) -/

/-- Entry to ON_LINE: the plan timer starts (R103), and the stages and revokes owed are offered (R70, R141, R162). -/
def State.enterOnLine (s : State) : State :=
  let s1 := (s.changeLife fun l => { l with state := .onLine }).reportLife
  let s2 := s1.changePlan fun p => { p with timer := some 0 }
  ((List.range s2.bank.loops.length).foldl State.offerOwed s2).offerRevoke.compareReady

end Sys2Proof.Machine
end

