-- ==== Sys2Proof/Machine/Taken.lean ====
section
/-! DEFINITION. What a taken frame does at a station that received it cleanly: the station table (R24 to R31), adoption (R33, R34), and
the blocks of each kind (R52, R62, R89, R93, R95, R117, R121, R124, R131, R156, R173, R175). -/

namespace Sys2Proof.Machine

/-! ## Station table -/

/-- The entry of station id changed. -/
def State.setEntry (s : State) (id : Nat) (f : Entry → Entry) : State := s.withTable (s.table.modify id f)

/-- The flags of a taken frame other than an ANNOUNCE are copied into its sender's entry (R30). -/
def Entry.copyFlags (f : Frame) (e : Entry) : Entry := { e with joining := f.joining, attention := f.attention }

/-- The bank range an announce gives. -/
def Payload.range : Payload → Option (Nat × Nat)
  | .bank first sums => some (first, sums.length)
  | .pusher _ _ _ _ | .guide _ _ _ _ | .quench _ _ _ _ => none

/-- The entry after an ANNOUNCE without LEAVING (R30). -/
def Entry.announced (p : Payload) (t : Trailer) (joining : Bool) (e : Entry) : Entry :=
  { e with role := some p.role, range := p.range, payload := some (p, t), age := 0, joining := joining }

/-- A taken ANNOUNCE reaches the sender's entry (R24, R30). -/
def State.entryAnnounced (s : State) (f : Frame) (p : Payload) (t : Trailer) : State :=
  if f.leaving then (s.setEntry f.sender fun _ => .reset).report (.stationChange f.sender .absent none)
  else
    let old := s.entry f.sender
    (s.setEntry f.sender (Entry.announced p t f.joining)).reportIf (decide (old.role ≠ some p.role))
      (.stationChange f.sender old.presence (some p.role))

/-- One entry under a taken census (R26). -/
def Entry.counted (present attention : Bool) (e : Entry) : Entry :=
  let e1 : Entry :=
    match e.presence, present with
    | .absent, true | .lost, true => { e with presence := .present, missed := 0 }
    | .present, true => { e with missed := 0 }
    | .present, false => { e with missed := e.missed + 1, presence := if 3 ≤ e.missed + 1 then .lost else .present }
    | .absent, false | .lost, false => e
  { e1 with attention := attention }

/-- The whole table under a taken census (R26). -/
def countTable (field : List Byte) (table : List Entry) : List Entry :=
  table.mapIdx fun id e => e.counted (slotPresent field id) (slotAttention field id)

/-- STATION_CHANGE for each changed presence (R26). -/
def presenceReports (old new : List Entry) : List Report :=
  (List.range old.length).filterMap fun id =>
    match old[id]?, new[id]? with
    | some a, some b => if a.presence ≠ b.presence then some (.stationChange id b.presence b.role) else none
    | _, _ => none

/-- A taken CENSUS (R25 to R27): the entries, the census timer, a PENDING census of its own, and the joining count. -/
def State.censusTaken (s : State) (field : List Byte) : State :=
  let table := countTable field s.table
  let s1 := (s.withTable table).reportAll (presenceReports s.table table)
  let s2 := (s1.changeLife fun l => { l with census := some 0 }).withdraw fun b => decide (b = .census)
  if s2.joining then
    let count := if slotPresent field s2.straps.id then s2.life.joinCount + 1 else 0
    let s3 := s2.changeLife fun l => { l with joinCount := count }
    if 3 ≤ count then s3.enterOnLine else s3
  else s2

/-! ## Announces -/

/-- The conflict a taken announce of another station shows (R31). -/
def State.duplicate (s : State) (p : Payload) : Option Cause :=
  match s.role, p with
  | .bank, .bank first sums =>
    match s.bankConfig with
    | some (b, _) =>
      if first < b.first + b.count ∧ b.first < first + sums.length then some .rangeOverlap else none
    | none => none
  | .bank, _ => none
  | r, q => if q.role = r then some .roleDuplicate else none

/-- The duplicate check (R31). -/
def State.duplicateCheck (s : State) (f : Frame) (p : Payload) : State :=
  if f.leaving || decide (f.sender = s.straps.id) || !s.drives then s
  else
    match s.duplicate p with
    | some c => if f.sender < s.straps.id then s.enterConflict c else s.report (.duplicateSeen f.sender c)
    | none => s

/-- A trailer agrees with the claim record: its oven, serial and stage set, whatever the record's end state; with an empty record, no
oven and the highest serial seen (R33). -/
def State.agrees (s : State) (t : Trailer) : Bool :=
  match s.claims.record with
  | some c => decide (t.oven = c.oven ∧ t.serial = c.serial ∧ t.stages = c.stages)
  | none => decide (t.oven = 0 ∧ t.serial = s.claims.highest)

/-- A joining station adopts the claim of an announce whose sender is not joining: the first always, a later one where its trailer
differs from the record (R33). -/
def State.adoptClaim (s : State) (f : Frame) (t : Trailer) : State :=
  if s.joining && !f.joining then
    if s.life.adopted = false then (s.adoptTrailer t).changeLife fun l => { l with adopted := true }
    else if s.agrees t then s else s.adoptTrailer t
  else s

/-- The car unit follows the next oven of the station recorded as PUSHER (R156); of several such, of each (DESIGN CHOICE, log 42). -/
def State.followPusher (s : State) (f : Frame) (p : Payload) : State :=
  match s.role, p with
  | .quench, .pusher next _ _ _ => if s.hasRole f.sender .pusher then s.changeCar (Car.follow next) else s
  | _, _ => s

/-- A taken ANNOUNCE beyond the station table (R31, R33, R156). -/
def State.announceTaken (s : State) (f : Frame) (p : Payload) (t : Trailer) : State :=
  let s1 := s.duplicateCheck f p
  if s1.receives then (s1.adoptClaim f t).followPusher f p else s1

/-! ## Bank frames -/

/-- The main pressure record as a frame fills it (R62). -/
def Bank.mainTaken (p : Int) (q : Nat) (b : Bank) : Bank := { b with main := some ⟨p, .ofCode q⟩, mainAge := 0 }

/-- A taken MAIN_PRESSURE at a bank without its own sensor (R62). -/
def State.mainPressureTaken (s : State) (p : Int) (q : Nat) : State :=
  match s.bankConfig with
  | some (_, p1) => if p1.mainSensor then s else s.withBank (s.bank.mainTaken p q)
  | none => s

/-- The loop enters CHARGE (R68), with A and the output as they stand, also before the first step after RESTORE_OVEN (log 45). -/
def Loop.enterCharge (l : Loop) : Loop := { l with mode := .charge, charge := some 0, target := none }

/-- A taken CHARGED at the owning bank (R48, R52, R68). -/
def State.chargedTaken (s : State) (n : Nat) : State :=
  match s.ovenIndex n with
  | some i =>
    if (s.oven? i).any fun o => decide (o.state = .empty) then
      ((s.setOven i fun o => { o with credit := 0, stamp := 0 }).enterOven i .coking).setLoop i Loop.enterCharge
    else s.reportOvenUnchanged i
  | none => s

/-! ## Reseal frames -/

/-- A taken RESEAL_CALL at a machine of the call's side (R89). -/
def State.resealCallTaken (s : State) (sender n side : Nat) : State :=
  match s.side? with
  | some j => if side = j.code ∧ s.bankCovers sender n = true then s.queueReseal n j else s
  | none => s

/-- The new reseal record goes into its slot; an open one there is lost (R90, R94). Where the lost one names the door of the new one, the door
leaves RESEALING here and enters it again in `State.doorResealing`: two changes of its seal state in one event, and a FREE event latch captures
the first (R86; DESIGN CHOICE, log 58). -/
def State.recordReseal (s : State) (sender n : Nat) (j : Side) (r : Nat) : State :=
  let k := newSlot s.time s.claims.reseals
  let x : Reseal := { oven := n, side := j, serial := r, claimant := sender, taken := s.time, timer := 0, ending := .opened,
                      owed := none }
  let s1 := s.setReseals (s.claims.reseals.set k (some x))
  match (s.claims.reseals[k]?).join with
  | some old => if old.isOpen then s1.loseReseal old else s1
  | none => s1

/-- At the owning bank the door enters RESEALING (R93), also where a bank that did not judge the frame holds an OPEN push claim on the oven,
against the first sentence of R94, whose three events do not name this one (DESIGN CHOICE, log 57). -/
def State.doorResealing (s : State) (n : Nat) (j : Side) : State :=
  match s.ovenIndex n with
  | some i => s.changeDoor (doorIndex i j) Door.enterResealing
  | none => s

/-- A taken RESEAL_CLAIM (R90, R93). -/
def State.resealClaimTaken (s : State) (sender n side r : Nat) : State :=
  let s1 := s.withClaims { s.claims with highestReseal := r }
  match Side.ofCode? side with
  | some j =>
    let s2 := (s1.recordReseal sender n j r).doorResealing n j
    if s2.side? = some j then s2.unqueueReseal n else s2
  | none => s1

/-- An open record has ended: its door leaves RESEALING, and RESEAL_ENDED is reported (R95). -/
def State.endReseal (s : State) (x : Reseal) (how : ResealEnd) : State :=
  (s.endDoorReseal x.oven x.side).report (.resealEnded x.oven x.side x.serial how)

/-- The open record of serial r ends (R95). Where a station holds several of one serial, each of them does, by slot (DESIGN CHOICE, log 56). -/
def State.endReseals (s : State) (r : Nat) (how : ResealEnd) : State :=
  (s.openReseals.filter fun x => decide (x.serial = r)).foldl (fun t x => t.endReseal x how)
    (s.setReseals (s.claims.reseals.map (Option.map (Reseal.endIf r how))))

/-- A RESEAL_DONE of the serial is owed no longer (R94). -/
def Reseal.settle (serial : Nat) (r : Reseal) : Reseal := if r.serial = serial then { r with owed := none } else r

/-- A taken RESEAL_DONE (R17, R95). What this bank owed for the serial is done (R94). The serial alone names the record: where a station that did
not judge the frame holds one whose oven or side is not the frame's, or the frame's side code names no side, that record ends all the same, its own
door leaves RESEALING, and its own oven and side are reported (DESIGN CHOICE, log 77). -/
def State.resealDoneTaken (s : State) (r outcome : Nat) : State :=
  let s0 := s.withdraw (Body.isDoneOf r)
  let s1 := s0.setReseals (s0.claims.reseals.map (Option.map (Reseal.settle r)))
  let s2 := if s1.claims.highestReseal = 0 then s1.withClaims { s1.claims with highestReseal := r } else s1
  match ResealEnd.ofOutcome? outcome with
  | some how => s2.endReseals r how
  | none => s2

/-! ## Claim frames -/

/-- A taken PUSH_STAGE (R124). -/
def State.stageTaken (s : State) (n c x : Nat) (revoke : Bool) : State :=
  match s.claimMatching n c, Stage.ofCode? x with
  | some r, some y => s.applyStage r y revoke
  | _, _ => s

/-- A taken PUSH_ABANDON (R17, R131): the matching claim ends, and PENDING abandons for the serial leave. -/
def State.abandonTaken (s : State) (n c cause : Nat) : State :=
  let s1 := s.withdraw (Body.isAbandonOf c)
  if (s1.claimMatching n c).isSome then s1.endClaim (.abandoned (.ofCode cause)) else s1

/-- CLAIM_OUTCOME at a station that did not send the claim (R117). -/
def State.othersOutcome (s : State) (own : Bool) (f : Frame) (verdict : Verdict) (vetoed : Bool) : State :=
  match f.body with
  | .pushClaim n c forced =>
    s.reportIf (!own) (.pushOutcome n c forced (if vetoed then .vetoed else .taken) (some f.sender)
      (match verdict with | .veto x => some x | .asking | .take => none))
  | _ => s

/-! ## Stop frames -/

/-- A taken STOP_NOTE (R173). -/
def State.stopNoteTaken (s : State) (sender cause serial : Nat) : State :=
  (s.changeStop fun t => { t with highest := serial, note := some ⟨serial, .ofCode cause, sender⟩, mark := none }).report
    (.stopped .note (some serial) (some (.ofCode cause)) (some sender))

/-- A taken RESUME (R175). -/
def State.resumeTaken (s : State) (sender serial : Nat) : State :=
  (s.changeStop fun t => { t with stopped := false }).report (.resumed serial sender)

/-- A joining station adopts the stopped condition (R34, R171). Where the condition is set already nothing changes and nothing is reported
(DESIGN CHOICE, log 75). -/
def State.adoptStopped (s : State) (f : Frame) : State :=
  if s.joining && !f.joining && f.stopped && !s.stop.stopped then
    (s.changeStop fun t => { t with stopped := true }).report (.stopped .adopted none none (some f.sender))
  else s

/-! ## All kinds -/

/-- The sender's entry, before any other block acts (R30). -/
def State.entryTaken (s : State) (f : Frame) : State :=
  match f.body with
  | .announce p t => s.entryAnnounced f p t
  | _ => s.setEntry f.sender (Entry.copyFlags f)

/-- The blocks of the frame's kind act on its TAKEN outcome. -/
def State.kindTaken (s : State) (f : Frame) (census : List Byte) : State :=
  match f.body with
  | .census => s.censusTaken census
  | .announce p t => s.announceTaken f p t
  | .mainPressure p q => s.mainPressureTaken p q
  | .charged n => s.chargedTaken n
  | .pushClaim n c forced => s.takeClaim n c f.sender forced
  | .pushStage n c x r => s.stageTaken n c x r
  | .pushAbandon n c a => s.abandonTaken n c a
  | .resealCall n j => s.resealCallTaken f.sender n j
  | .resealClaim n j r => s.resealClaimTaken f.sender n j r
  | .resealDone _ _ r o => s.resealDoneTaken r o
  | .stopNote a r => s.stopNoteTaken f.sender a r
  | .resume r => s.resumeTaken f.sender r

/-- A frame received cleanly is TAKEN: the station table first, then the adoption of the stopped condition, then the blocks. -/
def State.frameTaken (s : State) (f : Frame) (census : List Byte) : State :=
  ((s.entryTaken f).adoptStopped f).kindTaken f census

end Sys2Proof.Machine
end

