-- ==== Sys2Proof/Machine/Outcome.lean ====
section
/-! DEFINITION. The end of a settle window (R9): the outcome handed to the blocks, the frame in flight (R16, R126, R131, R134), the fault
counters (R13) and the id clash of R6; and the cut of a frame by a stop run (R18). -/

namespace Sys2Proof.Machine

/-! ## The frame in flight, TAKEN (R16) -/

/-- The claim tracker as producer of its own PUSH_CLAIM, taken: CLAIM_OUTCOME, and the ABANDON that waits for it (R117, R134). -/
def State.ownClaimTaken (s : State) (n c : Nat) (forced : Bool) : State :=
  let s1 := s.report (.pushOutcome n c forced .taken none none)
  if s1.abandonWaits then
    let b := Body.pushAbandon n c AbandonCause.command.code
    if s1.accepts b then (s1.offer b).answerHeld .accepted else (s1.offer b).answerHeld .busy
  else s1

/-- The producer of a stage is told TAKEN: an owed revoke follows its set, a set wanted since its revoke, and CAR_READY is compared (R126, R141,
R143, R162). -/
def State.ownStageTaken (s : State) (n c x : Nat) (revoke : Bool) : State :=
  let s1 :=
    if x = Stage.guideSet.code then
      if revoke then s.offerWanted n c else if s.machine.revokeOwed = some c then s.offerRevoke else s
    else s
  if x = Stage.carReady.code then s1.compareReady else s1

/-- The frame in flight is TAKEN: it leaves the queue, and its producer is told (R16). -/
def State.ownTaken (s : State) (e : QueueEntry) : State :=
  let s1 := s.dropInFlight
  match e.body with
  | .pushClaim n c forced => s1.ownClaimTaken n c forced
  | .resealClaim n j r => s1.report (.resealOutcome n j r .taken)
  | .pushStage n c x r => s1.ownStageTaken n c x r
  | .charged n => s1.changeMachine fun m => { m with charged := some (n, s1.time) }
  | .resealCall n j => match Side.ofCode? j with
    | some k => s1.report (.resealCalled n k false)
    | none => s1
  | .announce _ _ => if e.leaving then s1.enterOffLine else s1
  | .census | .mainPressure _ _ | .pushAbandon _ _ _ | .resealDone _ _ _ _ | .stopNote _ _ | .resume _ => s1

/-! ## The frame in flight, VETOED (R16, R126, R131) -/

/-- The producer of a frame that leaves without having been taken is told: STAGE_LATE or ABANDON_LATE. -/
def State.reportLate (s : State) (b : Body) : State :=
  match b with
  | .pushStage n c x _ => s.report (.stageLate n c x)
  | .pushAbandon n c a => s.report (.abandonLate n c (.ofCode a))
  | _ => s

/-- The frame acts on a claim that is no longer OPEN here (R126, R131). -/
def State.claimGone (s : State) : Body → Bool
  | .pushStage n c _ _ | .pushAbandon n c _ => (s.claimMatching n c).isNone
  | _ => false

/-- The set of GUIDE_SET that a guide has moved away from in flight (R141). -/
def State.unwantedSet (s : State) : Body → Bool
  | .pushStage _ c x r => decide (x = Stage.guideSet.code ∧ r = false ∧ s.machine.revokeOwed = some c)
  | _ => false

/-- The revoke of GUIDE_SET over which a guide has reported GUIDE_SET in flight (R143). -/
def State.unwantedRevoke (s : State) : Body → Bool
  | .pushStage _ c x r => decide (x = Stage.guideSet.code ∧ r = true ∧ s.machine.setWanted = some c)
  | _ => false

/-- CAR_READY differs from the wish while the claim lets it be changed (R162). -/
def State.readyDiffers (s : State) : Bool :=
  match s.openClaim with
  | some c => !c.stages.carLoaded && (s.readyWish != c.stages.carReady)
  | none => false

/-- What a producer does after the third veto of its frame: the owed stage clears (R70), the retry timers start (R128, R141,
R162), the owed flag clears with the set that it was waiting for (R141), and a set is wanted no longer with the revoke that it was waiting for
(log 80). -/
def State.afterThird (s : State) (b : Body) : State :=
  match b with
  | .pushStage n c x r =>
    if x = Stage.isolated.code then
      match s.ovenIndex n with
      | some i => s.setLoop i fun l => { l with owed := false }
      | none => s
    else if x = Stage.guideSet.code then
      let s1 := if s.unwantedRevoke b then s.clearWanted else s
      if s.machine.revokeOwed = some c then
        if r then s1.changeMachine fun m => { m with revokeTimer := some 0 } else s1.clearRevoke
      else s1
    else if x = Stage.carReady.code ∧ s.readyDiffers = true then s.startReadyTimer
    else s
  | .pushAbandon _ _ a => s.retryAbandon a
  | _ => s

/-- A vetoed frame of a retriable kind (R16): withdrawn where its claim is gone; else PENDING again, and withdrawn from PENDING where its
producer no longer wants it (R126); or, after its third veto, dropped with FRAME_REFUSED. -/
def State.ownRetried (s : State) (e : QueueEntry) : State :=
  if s.claimGone e.body then s.dropInFlight.reportLate e.body
  else if e.retries < 2 then
    let s1 := s.returnInFlight 1
    match e.body with
    | .pushStage _ _ x _ =>
      if s.unwantedSet e.body then s.dropInFlight.clearRevoke
      else if s.unwantedRevoke e.body then s.dropInFlight.clearWanted
      else if x = Stage.carReady.code then s1.compareReady else s1
    | _ => s1
  else ((s.dropInFlight.report (.frameRefused e.body)).reportLate e.body).afterThird e.body

/-- The frame in flight is VETOED (R16). -/
def State.ownVetoed (s : State) (e : QueueEntry) : State :=
  match e.body with
  | .pushClaim n c forced =>
    if s.abandonWaits then s.dropInFlight.abandonWithdrawn
    else s.dropInFlight.report (.pushOutcome n c forced .vetoed none none)
  | .resealClaim n j r => s.dropInFlight.report (.resealOutcome n j r .vetoed)
  | .announce _ _ => if e.leaving then s.dropInFlight.enterOffLine else s.dropInFlight
  | .census | .mainPressure _ _ | .resealCall _ _ => s.dropInFlight
  | .pushStage _ _ _ _ | .pushAbandon _ _ _ | .resealDone _ _ _ _ | .charged _ | .stopNote _ _ | .resume _ => s.ownRetried e

/-- The outcome of the frame in flight. -/
def State.ownOutcome (s : State) (vetoed : Bool) : State :=
  match s.inFlight? with
  | some e => if vetoed then s.ownVetoed e else s.ownTaken e
  | none => s

/-! ## The fault counters (R13) -/

/-- The counters after a window, by station state. -/
def Line.count (life : StationState) (fault : Bool) (l : Line) : Line :=
  match life with
  | .joining | .onLine => { l with checkStreak := if fault then min (l.checkStreak + 1) Config.streakLimit else 0 }
  | .listenOnly => { l with cleanRun := if fault then 0 else min (l.cleanRun + 1) Config.cleanLimit }
  | .offLine | .conflict => l

/-- The counters change, and at their limits the station state does (R13). -/
def State.counters (s : State) (fault : Bool) : State :=
  let s1 := s.changeLine (Line.count s.life.state fault)
  if s1.drives && decide (s1.line.checkStreak = Config.streakLimit) then s1.enterListenOnly
  else if decide (s1.life.state = .listenOnly) && decide (s1.line.cleanRun = Config.cleanLimit) then s1.returnToJoining
  else s1

/-! ## The end of the window (R9) -/

/-- The window is clean: no reception fault, and not malformed. -/
def Window.clean (w : Window) : Bool := !w.fault && !w.malformed

/-- Step 1 of R9: the outcome is handed to the blocks. That of a frame which breaks the frame rules is handed to none, at a station in
LISTEN_ONLY either, which has not judged it (DESIGN CHOICE, log 64). -/
def State.handOn (s : State) (w : Window) (vetoed : Bool) : State :=
  match w.frame with
  | some f =>
    if w.clean then
      let s1 := if vetoed then s else s.frameTaken f w.census
      s1.othersOutcome w.own f w.verdict vetoed
    else s
  | none => s

/-- A receiver that has cleanly received a frame with its own id enters CONFLICT (R6). -/
def State.clashCheck (s : State) (w : Window) : State :=
  if !w.own && !w.fault && decide (w.sender = some s.straps.id) && s.drives then s.enterConflict .idClash else s

/-- The line after the window: GAP, HLD and VTO released. A stop pulse of its own that has begun goes on (R18). -/
def Line.closed (l : Line) : Line := { l with hld := false, vto := false, state := .gap, window := none, sent := [] }

/-- The window w ends (R9): the blocks, the frame in flight, the counters (R13), and then the clash of R6. R6 and R13 give no order
between the last two: a listening station whose thirty-second clean frame carries its own id first returns to JOINING and, driving
again, enters CONFLICT (DESIGN CHOICE, log 41). -/
def State.conclude (s : State) (w : Window) (vetoed : Bool) : State :=
  let s1 := (s.changeLine Line.closed).handOn w vetoed
  let s2 := if w.own then s1.ownOutcome vetoed else s1
  (s2.counters w.fault).clashCheck w

/-! ## A stop run cuts a frame (R18) -/

/-- The frame in flight is cut. A GUIDE_SET or CAR_READY frame that its producer no longer wants returns to PENDING like any other, and is
sent again unless the producer acts once more (DESIGN CHOICE, log 53; of a revoke over which GUIDE_SET was reported log 80). -/
def State.ownCut (s : State) (e : QueueEntry) : State :=
  match e.body with
  | .pushClaim n c forced =>
    if s.abandonWaits then s.dropInFlight.abandonWithdrawn
    else s.dropInFlight.report (.pushOutcome n c forced .cut none none)
  | .resealClaim n j r => s.dropInFlight.report (.resealOutcome n j r .cut)
  | .announce _ _ => if e.leaving then s.dropInFlight.enterOffLine else s.dropInFlight
  | .census | .mainPressure _ _ | .resealCall _ _ => s.dropInFlight
  | .pushStage _ _ _ _ | .pushAbandon _ _ _ | .resealDone _ _ _ _ | .charged _ | .stopNote _ _ | .resume _ => s.returnInFlight 0

/-- The frame in flight, if any, is cut. -/
def State.cutInFlight (s : State) : State :=
  match s.inFlight? with
  | some e => s.ownCut e
  | none => s

end Sys2Proof.Machine
end

