-- ==== Sys2Proof/Machine/Time.lean ====
section
/-! DEFINITION. The passage of time (scope section 2; logs 1, 2 and 4): every running timer and every age of the station, moved
on by the timebase. A timer stands at its limit until the row of its expiry is run. Timers that a battery stop pauses stand still
while the battery is stopped (R90, R96, R127, R160). -/

namespace Sys2Proof.Machine

/-- An oven's held timer (R41). -/
def Oven.elapse (d seat : Nat) (o : Oven) : Oven := { o with held := runTimer d seat o.held }

/-- A loop's sample watch, lost timer and charge timer (R55, R57, R68). -/
def Loop.elapse (d charge : Nat) (l : Loop) : Loop :=
  { l with
    watch := min (l.watch + d) Config.sampleWatch
    lostTimer := runTimer d Config.lostLimit l.lostTimer
    charge := runTimer d charge l.charge }

/-- A mismatch watch (R85). -/
def Mismatch.elapse (d : Nat) (m : Mismatch) : Mismatch := { m with timer := min (m.timer + d) Config.mismatchLimit }

/-- A door's timers (R81, R85, R88, R96). The reseal timer pauses in a battery stop. -/
def Door.elapse (d : Nat) (stopped : Bool) (p1 : BankPart1) (x : Door) : Door :=
  { x with
    seat := runTimer d (1000 * p1.seat) x.seat
    leaking := runTimer d (1000 * p1.leakDelay) x.leaking
    call := runTimer d Config.callLimit x.call
    reseal := if stopped then x.reseal else runTimer d (1000 * p1.resealLimit) x.reseal
    mismatch := x.mismatch.map (Mismatch.elapse d) }

/-- The bank's timers (R44, R60, R61). -/
def Bank.elapse (d : Nat) (stopped : Bool) (cfg : Option (BankPart0 × BankPart1)) (b : Bank) : Bank :=
  match cfg with
  | none => b
  | some (p0, p1) =>
    { b with
      ovens := b.ovens.map (Oven.elapse d (1000 * p1.seat))
      loops := b.loops.map (Loop.elapse d (1000 * p0.chargeTime))
      doors := b.doors.map (Door.elapse d stopped p1)
      mainAge := runAge d b.mainAge
      mainTimer := runTimer d Config.mainReport b.mainTimer
      tick := runTimer d Config.ovenTick b.tick }

/-- The claim timer (R127): it runs while the claim is OPEN and the battery is not stopped. -/
def Claim.elapse (d limit : Nat) (stopped : Bool) (c : Claim) : Claim :=
  if c.ending = .opened ∧ stopped = false then { c with timer := min (c.timer + d) limit } else c

/-- A record timer (R90), and the time since an owed RESEAL_DONE was last offered (R94, R96). Both pause in a battery stop. -/
def Reseal.elapse (d reseal : Nat) (stopped : Bool) (r : Reseal) : Reseal :=
  if stopped then r
  else
    { r with
      timer := if r.ending = .opened then min (r.timer + d) Config.recordLimit else r.timer
      owed := runTimer d reseal r.owed }

/-- The claim tracker's timers. -/
def Tracker.elapse (d limit reseal : Nat) (stopped : Bool) (t : Tracker) : Tracker :=
  { t with
    record := t.record.map (Claim.elapse d limit stopped)
    reseals := t.reseals.map (Option.map (Reseal.elapse d reseal stopped))
    retry := runTimer d Config.retryLimit t.retry }

/-- The settle window's and the stop run's times (R10, R11, R176). A stop pulse of 30 bit times lasts less than a millisecond at every
line rate, so it is over once a millisecond has passed (R18; log 49). -/
def Line.elapse (d : Nat) (l : Line) : Line :=
  { l with
    dat := if 1 ≤ d ∧ l.dat = .stopPulse then .released else l.dat
    window := l.window.map fun w => { w with timer := min (w.timer + d) Config.blockedLimit }
    run := runTimer d Config.stuckLimit l.run }

/-- The census and announce timers (R25, R28). -/
def Life.elapse (d id : Nat) (l : Life) : Life :=
  { l with census := runTimer d (Config.censusPeriod id) l.census, announce := runTimer d Config.announcePeriod l.announce }

/-- The age of a station's last announce (R24). -/
def Entry.elapse (d : Nat) (e : Entry) : Entry := { e with age := runAge d e.age }

/-- The unnoted mark's timer (R171). -/
def StopState.elapse (d : Nat) (t : StopState) : StopState :=
  { t with mark := t.mark.map (runTimer d Config.unnotedLimit) }

/-- The plan timer (R103). -/
def Plan.elapse (d : Nat) (p : Plan) : Plan := { p with timer := runTimer d Config.planPeriod p.timer }

/-- The revoke retry timer (R141). -/
def MachineUnit.elapse (d : Nat) (m : MachineUnit) : MachineUnit :=
  { m with revokeTimer := runTimer d Config.retryLimit m.revokeTimer }

/-- The limit of the phase timer: the quench time in QUENCHING, else the drain time (R165). -/
def Car.phaseLimit (c : Car) (cfg : CarConfig) : Nat := 1000 * (if c.state = .quenching then cfg.quench else cfg.drain)

/-- The car's timers (R160, R162, R165). The move timer pauses in a battery stop. -/
def Car.elapse (d : Nat) (stopped : Bool) (cfg : Option CarConfig) (c : Car) : Car :=
  match cfg with
  | none => c
  | some k =>
    { c with
      moveTimer := if stopped then c.moveTimer else runTimer d (1000 * k.moveLimit) c.moveTimer
      phase := runTimer d (c.phaseLimit k) c.phase
      readyTimer := runTimer d Config.retryLimit c.readyTimer }

/-- The wait of a command that holds execution (R180). -/
def Hold.elapse (d : Nat) : Hold → Hold
  | .leave t => .leave (min (t + d) Config.commandWait)
  | .abandon t => .abandon (min (t + d) Config.commandWait)

/-- d milliseconds pass. -/
def State.elapse (s : State) (d : Nat) : State :=
  { s with
    time := (s.time + d) % Config.timeWrap
    life := s.life.elapse d s.straps.id
    line := s.line.elapse d
    table := s.table.map (Entry.elapse d)
    claims := s.claims.elapse d s.pushLimit s.resealLimit s.stop.stopped
    stop := s.stop.elapse d
    bank := s.bank.elapse d s.stop.stopped s.bankConfig
    plan := s.plan.map (Plan.elapse d)
    machine := s.machine.elapse d
    car := s.car.elapse d s.stop.stopped s.carConfig
    port := { s.port with hold := s.port.hold.map (Hold.elapse d) } }

/-- The time passes that a timer at t still lacks to its limit (log 2). -/
def State.elapseTo (s : State) (t limit : Nat) : State := s.elapse (limit - t)

end Sys2Proof.Machine
end

