-- ==== Sys2Proof/Machine/LineEvents.lean ====
section
/-! DEFINITION. The rows of the battery line (01): hardware reset, contention, the frame end, the settle window and its limits, and the
stop run on the line. -/

namespace Sys2Proof.Machine

/-- A row happens only where its condition holds (log 3). -/
def onlyIf (b : Bool) (s : State) : Option State := if b then some s else none

/-! ## Reset and idle -/

/-- HARDWARE_RESET (R19): the straps are read once, and everything else takes its reset value. -/
def execHardwareReset (id : BitVec 5) (role lineRate portRate : BitVec 2) (stopInput : Bool) (s : State) :
    Host.Outcome State Fault Refusal :=
  .next (((State.afterReset ⟨id.toNat, .ofStrap role, lineRate.toNat, portRate.toNat⟩ stopInput).withFree s.free).withPending s.pending)

/-- The line interface in a state, driving nothing on DAT. -/
def State.lineIs (s : State) (x : LineState) : Bool := decide (s.line.state = x) && decide (s.line.dat = .released)

/-- The line state changed. -/
def State.setLine (s : State) (x : LineState) : State := s.changeLine fun l => { l with state := x }

/-- IDLE_GAP_COMPLETE (R3). -/
def execIdleGapComplete (s : State) : Host.Outcome State Fault Refusal :=
  s.event (onlyIf (s.lineIs .seeking || s.lineIs .gap) (s.setLine .idle))

/-- HOLD_OR_VETO_ASSERTED_IN_IDLE (R3). -/
def execHoldOrVetoAssertedInIdle (s : State) : Host.Outcome State Fault Refusal :=
  s.event (onlyIf (decide (s.line.state = .idle)) (s.setLine .gap))

/-- OTHER_START_BIT (R3, R5): this station's own frame, if it has one, stays PENDING. -/
def execOtherStartBit (s : State) : Host.Outcome State Fault Refusal :=
  s.event (onlyIf (s.lineIs .gap || s.lineIs .idle) (s.setLine .receiving))

/-- VOID_FRAME (R7): no block sees it, and no counter changes. -/
def execVoidFrame (s : State) : Host.Outcome State Fault Refusal :=
  s.event (onlyIf (decide (s.line.state = .receiving)) (s.setLine .idle))

/-! ## Contention (R5) -/

/-- The serial of a STOP_NOTE is filled in as its contention begins (R170). -/
def State.fillSerial (s : State) (b : Body) : Body :=
  match b with
  | .stopNote a _ => .stopNote a (nextSerial s.stop.highest)
  | _ => b

/-- The head of the queue becomes the frame in flight (R14). -/
def State.beginFlight (s : State) (k : Nat) : State :=
  s.withQueue (s.queue.modify k fun e => { e with body := s.fillSerial e.body, inFlight := true })

/-- The frame in flight has lost contention: it returns to PENDING, and a PUSH_CLAIM that an ABANDON waits for is withdrawn (R5,
R134). -/
def State.loseContention (s : State) (e : QueueEntry) : State :=
  let s1 := if s.abandonWaits && decide (e.body.kind = .pushClaim) then s.dropInFlight.abandonWithdrawn else s.returnInFlight 0
  s1.setLine .receiving

/-- The contention of the frame now in flight, against the rivals. -/
def State.contendWith (s : State) (rivals : List Byte) (e : QueueEntry) : State :=
  let cs := (s.frameOf e).chars
  if losesTo (cs.headD 0#8) rivals then s.loseContention e
  else s.changeLine fun l => { l with state := .sending, dat := .frame, sent := cs }

/-- CONTEND (R5, R14). -/
def execContend (rivals : List Byte) (s : State) : Host.Outcome State Fault Refusal :=
  s.event
    (if s.drives && s.lineIs .idle then
      (headIndex s.queue).bind fun k =>
        let s1 := s.beginFlight k
        s1.inFlight?.map (s1.contendWith rivals)
    else none)

/-- ID_CLASH (R6): after the jam DAT returns recessive, and the station enters CONFLICT; or it stays dominant, and the station waits
for the stop run. -/
def execIdClash (recessive : Bool) (s : State) : Host.Outcome State Fault Refusal :=
  s.event
    (onlyIf (decide (s.line.state = .sending) && decide (s.line.dat = .frame))
      (if recessive then s.enterConflict .idClash else s.changeLine fun l => { l with dat := .released }))

/-! ## The frame end (R8, R12) -/

/-- The window changed. -/
def State.changeWindow (s : State) (f : Window → Window) : State := s.changeLine fun l => { l with window := l.window.map f }

/-- The last veto, recorded; a cause other than CHECK and MALFORMED is reported (R120). -/
def State.recordVeto (s : State) (w : Window) (cause : Cause) : State :=
  let v : Veto := { kind := w.kind, sender := w.sender, cause := cause, oven := (w.frame.map fun f => f.body.oven).getD 0, time := s.time }
  (s.withClaims { s.claims with veto := some v }).reportIf (decide (cause ≠ .check) && decide (cause ≠ .malformed)) (.vetoGiven v)

/-- A question to the station processor: the next ask number, and a CONSENT_ASK at the head of the report queue (R118). -/
def State.askConsent (s : State) (f : Frame) : State :=
  let ask := (s.claims.ask + 1) % 256
  let s1 := s.withClaims { s.claims with ask := ask }
  s1.withPort (s1.port.offerAsk (.consentAsk ask f))

/-- The verdict of a judgement as the window opens. -/
def Judgement.verdict : Judgement → Verdict
  | .veto c => .veto c
  | .ask => .asking
  | .take => .take

/-- The judgement of a window: CHECK, then MALFORMED, then the blocks (R8, R12). A station that does not drive judges nothing. -/
def State.judgeWindow (s : State) (w : Window) : Judgement :=
  if s.drives then
    if w.fault then .veto .check
    else if w.malformed then .veto .malformed
    else match w.frame with
      | some f => s.judge w.own f
      | none => .take
  else .take

/-- A window before its judgement. -/
def Window.fresh (n : Nat) (frame : Option Frame) (census driven : List Byte) (fault : Bool) (kind sender : Option Nat) (own : Bool) :
    Window :=
  { frame := if fault then none else frame, census := census, fault := fault, malformed := !fault && breaksRules n frame, kind := kind,
    sender := sender, own := own, verdict := .take, cast := false, holdDone := false, timedOut := false, timer := 0, driven := driven,
    vetoRead := false }

/-- The settle window opens: HLD is asserted by a station that drives, and the frame is judged (R8). -/
def State.openWindow (s : State) (w : Window) : State :=
  let j := s.judgeWindow w
  let s1 := s.changeLine fun l =>
    { l with
      state := .settle, dat := if l.dat = .stopPulse then .stopPulse else .released, hld := s.drives, vto := false,
      window := some { w with verdict := j.verdict } }
  match j, w.frame with
  | .ask, some f => s1.askConsent f
  | _, _ => s1

/-- The census characters this station drives after the characters cs: those of its own slot, in step with the other stations, after
a CENSUS frame and in JOINING or ON_LINE, whether or not it has found a fault (R4, R188; log 47). -/
def State.drivesCensus (s : State) (cs : List Byte) (field : List RxChar) : List Byte :=
  if isCensus cs && s.drives then s.censusField.take field.length else []

/-- The window of this station's own frame. Its own characters cannot be at fault for it; the census field can (log 9). -/
def State.ownWindow (s : State) (rx : Reception) : Window :=
  let f := Frame.ofChars s.line.sent
  let driven := s.drivesCensus s.line.sent rx.census
  let field := wireCensus driven rx.census
  Window.fresh s.ovenCount f (field.map RxChar.value) driven (censusFault s.line.sent field) (f.map fun x => x.body.kind.code)
    (some s.straps.id) true

/-- The window of a received frame (R7). -/
def State.receivedWindow (s : State) (rx : Reception) : Window :=
  let cs := rx.chars.map RxChar.value
  let driven := s.drivesCensus cs rx.census
  let field := wireCensus driven rx.census
  Window.fresh s.ovenCount (Frame.ofChars cs) (field.map RxChar.value) driven (receptionFault { rx with census := field })
    (cs[1]?.map fun c => c.toNat % 16) (cs[0]?.map fun c => c.toNat % 32) false

/-- FRAME_END (R8). -/
def execFrameEnd (rx : Reception) (s : State) : Host.Outcome State Fault Refusal :=
  s.event
    (match s.line.state with
      | .sending => onlyIf (decide (s.line.dat = .frame)) (s.openWindow (s.ownWindow rx))
      | .receiving => some (s.openWindow (s.receivedWindow rx))
      | .off | .seeking | .gap | .idle | .settle | .stopRun | .blocked => none)

/-! ## Within the window -/

/-- The window, where the station is in SETTLE. -/
def State.settling (s : State) : Option Window := if s.line.state = .settle then s.line.window else none

/-- A station whose judgement is in and whose minimum hold is over asserts a veto it has formed, and then releases HLD (R8). A station that
holds no longer does nothing: where its own stop pulse has released HLD and VTO (R18) before the run cuts the frame, a verdict that is not cast
by then, an answer REFUSE or the end of the 15 ms of an ask that is still open among them, stays in the window, and no veto is asserted,
recorded or reported (DESIGN CHOICE, log 78). -/
def State.releaseHold (s : State) (w : Window) : State :=
  if s.line.hld && w.holdDone then
    match w.verdict with
    | .asking => s
    | .take => s.changeLine fun l => { l with hld := false }
    | .veto c =>
      ((s.changeLine fun l => { l with vto := true, hld := false }).changeWindow fun x => { x with cast := true }).recordVeto w c
  else s

/-- The window becomes w, and the hold is released where nothing keeps it. -/
def State.putWindow (s : State) (w : Window) : State := (s.changeWindow fun _ => w).releaseHold w

/-- MINIMUM_HOLD_ELAPSED (R8). -/
def execMinimumHoldElapsed (s : State) : Host.Outcome State Fault Refusal :=
  s.event (s.settling.bind fun w => onlyIf (s.line.hld && !w.holdDone) (s.putWindow { w with holdDone := true }))

/-- DOMINANT_BIT_IN_SETTLE (R7, R8): the station judges CHECK even if it had judged otherwise. -/
def execDominantBitInSettle (s : State) : Host.Outcome State Fault Refusal :=
  s.event (s.settling.bind fun w => onlyIf s.line.hld (s.putWindow { w with fault := true, verdict := .veto .check }))

/-- The open ask: a window that waits for consent (R118). -/
def State.openAsk (s : State) : Option Window :=
  match s.line.window with
  | some w => if w.verdict = .asking then some w else none
  | none => none

/-- The open ask is closed with a verdict (R119). After the station's own stop pulse has released HLD the verdict alone changes, and a veto is
not cast (DESIGN CHOICE, log 78). -/
def State.closeAsk (s : State) (w : Window) (v : Verdict) : State := s.putWindow { w with verdict := v }

/-- CONSENT_TIMEOUT (R118): 15 ms after the frame end. -/
def execConsentTimeout (s : State) : Host.Outcome State Fault Refusal :=
  s.event
    (s.openAsk.map fun w =>
      let s1 := s.elapseTo w.timer Config.consentWait
      s1.closeAsk ((s1.line.window).getD w) (.veto .consentTimeout))

/-- The effect of HOLD_TIMEOUT on a window (R10, log 11). -/
def Window.holdTimeout (w : Window) : Window :=
  { w with verdict := if w.cast then w.verdict else .veto .holdTimeout, cast := true, holdDone := true, timedOut := true }

/-- HOLD_TIMEOUT is reached: a station that drives asserts VTO, releases HLD and records the veto (R10). -/
def State.holdTimeout (s : State) (w : Window) : State :=
  if s.drives then
    ((s.changeLine fun l => { l with vto := true, hld := false, window := some w.holdTimeout })).recordVeto w .holdTimeout
  else s.changeWindow fun x => { x with timedOut := true }

/-- The window comes to 25 ms after its frame end. -/
def State.reachHoldTimeout (s : State) (w : Window) : State :=
  let s1 := s.elapseTo w.timer Config.holdLimit
  s1.holdTimeout ((s1.line.window).getD w)

/-- HOLD_TIMEOUT (R10): 25 ms after the frame end. -/
def execHoldTimeout (s : State) : Host.Outcome State Fault Refusal :=
  s.event (s.settling.bind fun w => onlyIf (!w.timedOut) (s.reachHoldTimeout w))

/-- HLD has come free and VTO reads asserted: the outcome will be VETOED, and the station frees its own VTO (R9). -/
def State.readVeto (s : State) : State :=
  (s.changeLine fun l => { l with vto := false }).changeWindow fun w => { w with vetoRead := true }

/-- The window of a BLOCKED line whose outcome has not been sampled (R11). -/
def State.blockedUnread (s : State) : Bool := decide (s.line.state = .blocked) && s.line.window.any fun w => !w.vetoRead

/-- SETTLE_OUTCOME (R9): the station samples VTO, its own drive included (log 7). On a BLOCKED line it samples likewise as it reads HLD free
(R11): asserted, the outcome is VETOED and is handed on when VTO is free too; free, both wires are, and BLOCKED_CLEARED is the row (log 48). -/
def execSettleOutcome (vto : Bool) (s : State) : Host.Outcome State Fault Refusal :=
  s.event
    (match s.settling with
      | some w => onlyIf (!s.line.hld) (s.conclude w (vto || s.line.vto))
      | none => onlyIf (s.blockedUnread && !s.line.hld && (vto || s.line.vto)) s.readVeto)

/-! ## BLOCKED (R11) -/

/-- A window that is still open as the line becomes BLOCKED, 100 ms after its frame end. Where HLD was still asserted at 25 ms,
HOLD_TIMEOUT has come (R10), and it comes now where this station itself still holds; else HLD came free and VTO alone stayed asserted (R11;
log 48). -/
def State.windowBlocked (s : State) (w : Window) : State :=
  let s1 := if w.timedOut then s else if s.line.hld then s.reachHoldTimeout w else s.readVeto
  s1.elapseTo ((s1.line.window.map Window.timer).getD 0) Config.blockedLimit

/-- LINE_BLOCKED (R11). -/
def execLineBlocked (s : State) : Host.Outcome State Fault Refusal :=
  s.event
    (match s.line.state with
      | .settle => s.line.window.map fun w => ((s.windowBlocked w).setLine .blocked).report (.lineState .blocked)
      | .gap | .idle => some ((s.setLine .blocked).report (.lineState .blocked))
      | .off | .seeking | .sending | .receiving | .stopRun | .blocked => none)

/-- LINE_STATE with the station state, unless the line is OFF (R11). -/
def State.reportUnblocked (s : State) : State := if s.line.state = .off then s else s.reportLife

/-- A BLOCKED line comes free (R11): the outcome handed on is the one sampled as HLD came free (R9). -/
def State.unblock (s : State) (vto : Bool) : State :=
  match s.line.window with
  | some w => (s.conclude w (vto || s.line.vto || w.vetoRead)).reportUnblocked
  | none => (s.setLine .gap).reportUnblocked

/-- BLOCKED_CLEARED (R11): HLD and VTO are both free. -/
def execBlockedCleared (vto : Bool) (s : State) : Host.Outcome State Fault Refusal :=
  s.event (onlyIf (decide (s.line.state = .blocked)) (s.unblock vto))

/-! ## Stop runs (R18, R171, R176) -/

/-- The line as a stop run is detected: a drive other than its own stop pulse ends, and the window is cut unless its outcome has been
sampled (R18; log 48). -/
def Line.stopRun (l : Line) : Line :=
  { l with
    state := .stopRun, dat := if l.dat = .stopPulse then .stopPulse else .released, hld := false, vto := false, sent := [],
    window := l.window.filter Window.vetoRead, run := some 0, stuck := false, wasBlocked := decide (l.state = .blocked) }

/-- The frame in flight is cut, unless the outcome of its window stands (R18). -/
def State.cutUnsampled (s : State) : State := if s.line.window.isSome then s else s.cutInFlight

/-- STOP_RUN_DETECTED (R18, R171). The report names no giver, at the station that drives the pulse too: its own run looks to it like
another's (DESIGN CHOICE, log 62). -/
def execStopRunDetected (s : State) : Host.Outcome State Fault Refusal :=
  s.event
    (onlyIf (s.receives && decide (s.line.state ≠ .off) && decide (s.line.state ≠ .stopRun))
      (((((s.changeLine Line.stopRun).changeStop fun t => { t with stopped := true, mark := some none }).report
        (.stopped .pulse none none none)).cutUnsampled)))

/-- The line as a stop run ends. -/
def Line.stopRunEnd (asserted : Bool) (l : Line) : Line :=
  { l with state := if l.wasBlocked && asserted then .blocked else .gap, dat := .released, run := none, stuck := false, wasBlocked := false }

/-- STOP_RUN_END (R11, R18, R171): the unnoted mark's timer starts. A BLOCKED line whose wires are free by now comes free (log 37). -/
def execStopRunEnd (asserted : Bool) (s : State) : Host.Outcome State Fault Refusal :=
  s.event
    (onlyIf (decide (s.line.state = .stopRun))
      (let s1 := (s.changeLine (Line.stopRunEnd asserted)).changeStop fun t => { t with mark := t.mark.map fun _ => some 0 }
       if s.line.wasBlocked && !asserted then s1.unblock false else s1))

/-- STUCK_LINE (R176): once for a run. -/
def execStuckLine (s : State) : Host.Outcome State Fault Refusal :=
  s.event
    (match s.line.run with
      | some t =>
        onlyIf (!s.line.stuck)
          (((s.elapseTo t Config.stuckLimit).changeLine fun l => { l with stuck := true }).report (.stopped .stuckLine none none none))
      | none => none)

end Sys2Proof.Machine
end

