-- ==== Sys2Proof/Machine/BankEvents.lean ====
section
/-! DEFINITION. The rows of a BANK: oven tick and held timer (03), converter samples and regulator timers (04), latches, leak levels and
door timers (05). -/

namespace Sys2Proof.Machine

/-! ## Oven unit -/

/-- OVEN_TICK (R44): every oven in turn. -/
def execOvenTick (s : State) : Host.Outcome State Fault Refusal :=
  s.event
    (match s.bankConfig, s.bank.tick with
      | some (p, _), some t =>
        let s1 := s.elapseTo t Config.ovenTick
        let s2 := s1.withBank { s1.bank with tick := some 0 }
        some ((List.range s2.bank.ovens.length).foldl (State.tickOven p) s2)
      | _, _ => none)

/-- HELD_TIMER_EXPIRY (R41, R72): the oven returns to COKING, its loop to COLLECT. -/
def execHeldTimerExpiry (i : Nat) (s : State) : Host.Outcome State Fault Refusal :=
  s.event
    (match s.bankConfig, (s.oven? i).bind Oven.held with
      | some (_, p1), some t => some (((s.elapseTo t (1000 * p1.seat)).enterOven i .coking).setLoop i Loop.enterCollect)
      | _, _ => none)

/-! ## Offtake regulator -/

/-- PRESSURE_SAMPLE (R54, R58). A sample on a channel without a loop is discarded (R53). -/
def execPressureSample (i : Nat) (x : BitVec 12) (s : State) : Host.Outcome State Fault Refusal :=
  s.event ((s.loop? i).map fun _ => s.regulatorStep i ⟨ovenPressure x.toInt, sampleQuality x.toInt⟩)

/-- SAMPLE_WATCH_EXPIRY (R55): a MISSING entry, and a step. -/
def execSampleWatchExpiry (i : Nat) (s : State) : Host.Outcome State Fault Refusal :=
  s.event ((s.loop? i).map fun l => (s.elapseTo l.watch Config.sampleWatch).regulatorStep i ⟨0, .missing⟩)

/-- LOST_TIMER_EXPIRY (R57): attention for the oven. -/
def execLostTimerExpiry (i : Nat) (s : State) : Host.Outcome State Fault Refusal :=
  s.event
    ((s.loop? i).bind fun l =>
      match l.lostTimer, l.attention with
      | some t, false =>
        some (((s.elapseTo t Config.lostLimit).setLoop i fun x => { x with attention := true }).report
          (.attention (some (s.ovenAt i)) none .sensorLost true))
      | _, _ => none)

/-- MAIN_SAMPLE (R60). A bank without its own sensor discards it. -/
def execMainSample (x : BitVec 12) (s : State) : Host.Outcome State Fault Refusal :=
  s.event
    (s.bankConfig.bind fun (_, p1) =>
      onlyIf p1.mainSensor
        (s.withBank { s.bank with main := some ⟨mainPressure x.toInt, sampleQuality x.toInt⟩, mainAge := 0 }))

/-- MAIN_PRESSURE offered where the station is ON_LINE and the record is no older than 5000 ms (R61). -/
def State.offerMain (s : State) : State :=
  match s.bank.main with
  | some m => if s.onLine ∧ s.bank.mainAge ≤ Config.freshAge then s.offer (.mainPressure m.value m.quality.code) else s
  | none => s

/-- MAIN_REPORT_TIMER (R61). -/
def execMainReportTimer (s : State) : Host.Outcome State Fault Refusal :=
  s.event
    (s.bank.mainTimer.map fun t =>
      let s1 := s.elapseTo t Config.mainReport
      (s1.withBank { s1.bank with mainTimer := some 0 }).offerMain)

/-- CHARGE_TIMER_EXPIRY (R68): the loop enters COLLECT with A kept. -/
def execChargeTimerExpiry (i : Nat) (s : State) : Host.Outcome State Fault Refusal :=
  s.event
    (match s.bankConfig, (s.loop? i).bind Loop.charge with
      | some (p0, _), some t =>
        some ((s.elapseTo t (1000 * p0.chargeTime)).setLoop i fun l => { l with charge := none, mode := .collect })
      | _, _ => none)

/-! ## Door monitor -/

/-- LATCH_EVENT (R78): seating, unlatching, the watch, the event latch, the leaking timer and the held timer act. -/
def execLatchEvent (d : Nat) (level : Latch) (s : State) : Host.Outcome State Fault Refusal :=
  s.event
    ((s.door? d).bind fun x =>
      onlyIf (decide (x.latch ≠ level))
        ((s.changeDoor d (Door.latchTo level (s.covered d) (s.seats d))).heldLatch (d / 2) level))

/-- LEAK_LEVEL (R79, R80). -/
def execLeakLevel (d : Nat) (level : BitVec 10) (s : State) : Host.Outcome State Fault Refusal :=
  s.event
    (match s.bankConfig, s.door? d with
      | some (_, p1), some _ => some (s.changeDoor d (Door.level p1 (leakValue level.toNat)))
      | _, _ => none)

/-- SEAT_TIMER_EXPIRY (R81): a SEATING door becomes TIGHT. -/
def execSeatTimerExpiry (d : Nat) (s : State) : Host.Outcome State Fault Refusal :=
  s.event
    (match s.bankConfig, (s.door? d).bind Door.seat with
      | some (_, p1), some t =>
        some ((s.elapseTo t (1000 * p1.seat)).changeDoor d fun x => { x with sealing := .tight, seat := none })
      | _, _ => none)

/-- LEAKING_TIMER_EXPIRY (R88): the reseal-called flag and the first call of the episode. -/
def execLeakingTimerExpiry (d : Nat) (s : State) : Host.Outcome State Fault Refusal :=
  s.event
    (match s.bankConfig, (s.door? d).bind Door.leaking with
      | some (_, p1), some t =>
        some (((s.elapseTo t (1000 * p1.leakDelay)).setDoor d fun x => { x with leaking := none, called := true }).callReseal d)
      | _, _ => none)

/-- CALL_TIMER_EXPIRY (R88): the call again. -/
def execCallTimerExpiry (d : Nat) (s : State) : Host.Outcome State Fault Refusal :=
  s.event (((s.door? d).bind Door.call).map fun t => (s.elapseTo t Config.callLimit).callReseal d)

/-- MISMATCH_WATCH_EXPIRY (R85). -/
def execMismatchWatchExpiry (d : Nat) (s : State) : Host.Outcome State Fault Refusal :=
  s.event
    ((s.door? d).bind fun x =>
      match x.mismatch, x.mismatched with
      | some m, false => some ((s.elapseTo m.timer Config.mismatchLimit).changeDoor d fun y => { y with mismatched := true })
      | _, _ => none)

/-- RESEAL_DONE (GIVEN_UP) of a record. -/
def Reseal.givenUpDone (r : Reseal) : Body := .resealDone r.oven r.side.code r.serial ResealEnd.givenUp.outcome

/-- RESEAL_DONE (GIVEN_UP) offered for door d under the open record its timer runs from (R96). -/
def State.offerGivenUp (s : State) (d : Nat) : State :=
  match s.resealOf (s.doorOven d) (doorSide d) with
  | some r => s.offer r.givenUpDone
  | none => s

/-- The record of door d whose RESEAL_DONE this bank owes (R94). Of two it is the one in the lowest slot (DESIGN CHOICE, log 54). -/
def State.owedReseal (s : State) (d : Nat) : Option Reseal :=
  (s.claims.reseals.filterMap id).find? fun r => r.owed.isSome && decide (r.oven = s.doorOven d ∧ r.side = doorSide d)

/-- The time since the owed RESEAL_DONE of the claim x was offered starts again. -/
def Reseal.owedAgain (x r : Reseal) : Reseal := if r.owed.isSome ∧ x.sameClaim r = true then { r with owed := some 0 } else r

/-- The RESEAL_DONE owed for door d is offered again (R94, R96). -/
def State.offerOwedDone (s : State) (d : Nat) : State :=
  match s.owedReseal d with
  | some r => (s.setReseals (s.claims.reseals.map (Option.map (Reseal.owedAgain r)))).offer r.givenUpDone
  | none => s

/-- RESEAL_TIMER_EXPIRY (R96): the timer restarts, the door stays RESEALING. Where the door has left RESEALING by R94 and its RESEAL_DONE
is owed, the frame is offered again; while the door is RESEALING again under a newer claim, the newer claim's alone (DESIGN CHOICE,
log 54). Neither time runs while the battery is stopped. -/
def execResealTimerExpiry (d : Nat) (s : State) : Host.Outcome State Fault Refusal :=
  s.event
    (match (s.door? d).bind Door.reseal, (s.owedReseal d).bind Reseal.owed with
      | some t, _ =>
        onlyIf (!s.stop.stopped && s.bankConfig.isSome)
          (((s.elapseTo t s.resealLimit).setDoor d fun x => { x with reseal := some 0 }).offerGivenUp d)
      | none, some t => onlyIf (!s.stop.stopped && s.bankConfig.isSome) ((s.elapseTo t s.resealLimit).offerOwedDone d)
      | none, none => none)

end Sys2Proof.Machine
end

