-- ==== Sys2Proof/Machine/CarCommands.lean ====
section
/-! DEFINITION. The commands of the QUENCH station (R157, R159, R161, R163, R166 to R168). -/

namespace Sys2Proof.Machine

/-- A command of the car unit: BAD_STATE before START (R153). -/
def State.carCommand (s : State) (code : Nat) (widths : List Nat) (run : List Byte → State) : Host.Outcome State Fault Refusal :=
  s.command code widths [.quench] fun b => if s.started then run b else s.answer .badState

/-! ## CAR_AT -/

/-- A marker that CAR_AT may carry (R159). -/
def markerOk (n m : Nat) : Bool := decide (m ≤ n) || decide (m = 200) || decide (m = 201) || decide (m = 202)

/-- The car's marker. -/
def State.setMarker (s : State) (m : Nat) : State := s.changeCar fun c => { c with marker := m }

/-- CAR_AT in TRAVELLING (R159). -/
def State.carTravels (s : State) (m : Nat) : State :=
  match s.car.move with
  | some x => if x.target = m then s.completeMove x else (s.setMarker m).compareReady
  | none => (s.setMarker m).compareReady

/-- The car leaves a spot: IDLE, with SPOT n at the head where it is to come back (R155, R161, R167). -/
def Car.leaveSpot (n : Nat) (back : Bool) (c : Car) : Car :=
  { c with state := .idle, queue := if back then joinSpotHead n c.queue else c.queue }

/-- CAR_AT reports a marker off the spot of the OPEN claim k (R167). -/
def State.carDisplaced (s : State) (k : Claim) (m : Nat) : State :=
  if k.stages.ramOut then (s.setMarker m).carDisplacedOut
  else ((s.setMarker m).changeCar (Car.leaveSpot k.oven true)).compareReady

/-- CAR_AT with a marker other than the car's, while it is not TRAVELLING (R161); the ready wish is compared (R162). A car in LOADING whose
marker no OPEN claim names takes the new marker and stays LOADING (DESIGN CHOICE, log 74). -/
def State.carMoved (s : State) (m : Nat) : State :=
  match s.car.state with
  | .spotted =>
    match s.claimOn s.car.marker with
    | some k => s.carDisplaced k m
    | none =>
      ((s.setMarker m).changeCar (Car.leaveSpot s.car.marker (decide (s.car.lastNext = s.car.marker)))).compareReady
  | .loading =>
    match s.claimOn s.car.marker with
    | some k => s.carDisplaced k m
    | none => (s.setMarker m).compareReady
  | .quenching | .draining | .dumping => ((s.setMarker m).carFaults).compareReady
  | .idle | .loaded | .fault | .travelling => (s.setMarker m).compareReady

/-- CAR_AT (R159, R161). -/
def execCarAt (s : State) : Host.Outcome State Fault Refusal :=
  s.carCommand 0x0E [1] fun b =>
    let m := natAt b 0 1
    if markerOk s.ovenCount m = false then s.answer .badArg 1
    else if s.car.state = .travelling then (s.carTravels m).answer .accepted
    else if m = s.car.marker then s.answer .accepted
    else (s.carMoved m).answer .accepted

/-! ## Load, gate, park -/

/-- LOAD_SENSED (R163). -/
def execLoadSensed (s : State) : Host.Outcome State Fault Refusal :=
  s.carCommand 0x0F [] fun _ =>
    if s.car.state ≠ .loading ∨ s.onLine = false then s.answer .badState
    else
      match s.openClaim with
      | none => s.answer .order
      | some c =>
        if c.stages.maySet .carLoaded = false then s.answer .order
        else if s.queued (Body.isStage c.serial .carLoaded) then s.answer .accepted
        else s.offerFor (.pushStage c.oven c.serial Stage.carLoaded.code false)

/-- The car when its gate has shut (R166). -/
def Car.dumped (c : Car) : Car := { c with load := .none, loads := (c.loads + 1) % 65536, state := .idle }

/-- GATE_CLOSED (R166): the reply carries the new loads count. -/
def execGateClosed (s : State) : Host.Outcome State Fault Refusal :=
  s.carCommand 0x10 [] fun _ =>
    if s.car.state = .dumping then
      ((s.changeCar Car.dumped).compareReady).answer .accepted 0 (field2 ((s.car.loads + 1) % 65536 : Nat))
    else s.answer .badState

/-- PARK (R157). -/
def execPark (s : State) : Host.Outcome State Fault Refusal :=
  s.carCommand 0x11 [] fun _ => (s.changeCar fun c => { c with queue := joinPark c.queue }).answer .accepted

/-! ## CLEAR_CAR -/

/-- The queue without TOWER and WHARF, and with what the declared load needs at its head (R168). -/
def declaredQueue (load : Load) (q : List Move) : List Move :=
  let rest := q.filter fun m => decide (m ≠ .tower ∧ m ≠ .wharf)
  match load with
  | .none => rest
  | .hot => joinHead .tower rest
  | .quenched => joinHead .wharf rest

/-- The car after CLEAR_CAR (R168). -/
def Car.cleared (load : Load) (c : Car) : Car :=
  let c1 : Car := { c with state := .idle, load := load, queue := declaredQueue load c.queue, fault := false }
  if c.state = .fault then { c1 with move := none, moveTimer := none, phase := none } else c1

/-- CLEAR_CAR (R168). -/
def execClearCar (s : State) : Host.Outcome State Fault Refusal :=
  s.carCommand 0x12 [1] fun b =>
    match Load.ofCode? (natAt b 0 1) with
    | none => s.answer .badArg 1
    | some load =>
      if s.car.state = .fault ∨ s.car.state = .idle then
        ((((s.changeCar (Car.cleared load)).reportIf s.car.fault (.attention none none .carFault false)).compareReady).answer .accepted)
      else s.answer .badState

end Sys2Proof.Machine
end

