-- ==== Sys2Proof/Machine/MachineCommands.lean ====
section
/-! DEFINITION. The commands of the PUSHER and the GUIDE (R107, R109, R140 to R143, R147, R149, R151). -/

namespace Sys2Proof.Machine

/-! ## Requests to push (R107) -/

/-- A PUSH_CLAIM of this station is in the send queue. -/
def State.claimQueued (s : State) : Bool := s.queued fun b => decide (b.kind = .pushClaim)

/-- The request goes on with oven o: ACCEPTED with oven and serial, or BUSY, and no serial is used. -/
def State.requestClaim (s : State) (o : Nat) (forced : Bool) : State :=
  let c := nextSerial s.claims.highest
  s.offerFor (.pushClaim o c forced) (field1 o ++ field1 c)

/-- A summary as a value of a reply: absent where the oven has no owner. -/
def summaryBytes (x : Option (SummaryState × Nat)) : List Byte := fieldOpt 2 (fun y => field1 y.1.code ++ field1 y.2) x

/-- NOT_READY with the oven and its summary; with oven 0 the summary is absent (log 14). -/
def State.notReady (s : State) (o : Nat) (x : Option (SummaryState × Nat)) : State :=
  s.answer .notReady 0 (field1 o ++ summaryBytes x)

/-- PUSH_REQUEST with oven 0: the choice is made, and decides (R107). -/
def State.requestPlanned (s : State) (p : Plan) (forced : Bool) : State :=
  let r := s.choice p
  let s1 := s.withPlan (some r.1)
  match r.2 with
  | .claim o => s1.requestClaim o forced
  | .wait o =>
    if forced = true ∧ (s1.summary o).map Prod.fst = some .notReady then s1.requestClaim o true else s1.notReady o (s1.summary o)
  | .nothing => s1.notReady 0 none

/-- PUSH_REQUEST with an explicit oven (R107). -/
def State.requestExplicit (s : State) (o : Nat) (forced : Bool) : State :=
  if (s.owner? o).isSome then s.requestClaim o forced else s.answer .ownerAbsent

/-- PUSH_REQUEST (R107). Before START the plan unit answers BAD_STATE (R97). -/
def execPushRequest (s : State) : Host.Outcome State Fault Refusal :=
  s.command 0x07 [1, 1] [.pusher] fun b =>
    let o := natAt b 0 1
    let forced := decide (natAt b 1 1 ≠ 0)
    match s.plan with
    | none => s.answer .badState
    | some p =>
      if s.ovenCount < o then s.answer .badArg 1
      else if s.onLine = false then s.answer .badState
      else if s.stop.stopped then s.refuse .stopped
      else if s.openClaim.isSome || s.claimQueued then s.refuse .claimBusy
      else if o = 0 then s.requestPlanned p forced
      else s.requestExplicit o forced

/-- PLAN_CHANGE (R109). -/
def execPlanChange (s : State) : Host.Outcome State Fault Refusal :=
  s.command 0x19 [1, 1] [.pusher] fun b =>
    let stride := natAt b 0 1
    let step := natAt b 1 1
    match s.plan with
    | none => s.answer .badState
    | some p =>
      if !strideOk p.ovens stride then s.answer .badArg 1
      else if !stepOk stride step then s.answer .badArg 2
      else (s.withPlan (some { p with staged := some (stride, step) })).answer .accepted

/-! ## Position (R140, R141) -/

/-- A new position; a guide that leaves the oven of the OPEN claim acts by R141. -/
def State.moveMachine (s : State) (n : Nat) : State :=
  let s1 := s.changeMachine fun m => { m with position := n }
  match s.role, s.claimOn s.machine.position with
  | .guide, some c => s1.guideLeaves c
  | _, _ => s1

/-- MACHINE_AT (R140). -/
def execMachineAt (s : State) : Host.Outcome State Fault Refusal :=
  s.command 0x0A [1] machineRoles fun b =>
    let n := natAt b 0 1
    if s.started = false then s.answer .badState
    else if s.ovenCount < n then s.answer .badArg 1
    else if n = s.machine.position then s.answer .accepted
    else (s.moveMachine n).answer .accepted

/-! ## Stages (R142, R143) -/

/-- What a stage code of the STAGE command reports at a role: a set of a stage, or GUIDE_CLEAR (`none`). -/
def reportedStage : Role → Nat → Option (Option Stage)
  | .pusher, 1 => some (some .psDoorOff)
  | .pusher, 3 => some (some .ramOut)
  | .pusher, 5 => some (some .ramHome)
  | .pusher, 6 => some (some .psDoorOn)
  | .guide, 2 => some (some .csDoorOff)
  | .guide, 7 => some (some .csDoorOn)
  | .guide, 8 => some (some .guideSet)
  | .guide, 10 => some none
  | _, _ => none

/-- A set of a stage, handled against the send queue (R143). GUIDE_SET over a queued revoke withdraws it, or waits for its outcome
(`State.wantSet`). -/
def State.reportSet (s : State) (c : Claim) (x : Stage) : State :=
  if s.queued (Body.isStageTo c.serial x false) then s.answer .accepted
  else if x = .guideSet ∧ s.queued (Body.isStageTo c.serial .guideSet true) = true then
    (s.wantSet c.serial).answer .accepted
  else s.offerFor (.pushStage c.oven c.serial x.code false)

/-- GUIDE_CLEAR, handled against the send queue (R143): it sets the revoke owed flag. With a GUIDE_SET frame in the queue, of either wish, it is
ACCEPTED; without one it offers the revoke, and is BUSY where that is not queued. -/
def State.reportClear (s : State) (c : Claim) : State :=
  let s1 := (s.clearWanted.changeMachine fun m => { m with revokeOwed := some c.serial }).offerRevoke
  if s.queued (Body.isStage c.serial .guideSet) || s1.queued (Body.isStageTo c.serial .guideSet true) then s1.answer .accepted
  else s1.answer .busy

/-- Check 6 of R142 lets a set of the stage x through: the stage's condition holds against the claim record, and GUIDE_SET is not reported
while the revoke owed flag is set and the revoke has not been taken. -/
def State.mayReport (s : State) (c : Claim) (x : Stage) : Bool :=
  c.stages.maySet x && !(decide (x = .guideSet) && s.machine.revokeOwed.isSome)

/-- STAGE for the OPEN claim c (R142, checks 5 to 7). -/
def State.reportStage (s : State) (c : Claim) : Option Stage → State
  | some x =>
    if s.machine.position ≠ c.oven then s.refuse .position
    else if s.mayReport c x then s.reportSet c x
    else s.answer .order
  | none => if c.stages.mayRevoke .guideSet then s.reportClear c else s.answer .order

/-- STAGE (R142, R143). Before START the machine unit answers BAD_STATE (R138). -/
def execStage (s : State) : Host.Outcome State Fault Refusal :=
  s.command 0x09 [1] machineRoles fun b =>
    if s.started = false then s.answer .badState
    else
      match reportedStage s.role (natAt b 0 1) with
      | none => s.answer .badArg 1
      | some x =>
        if s.onLine = false then s.answer .badState
        else
          match s.openClaim with
          | none => s.answer .badState
          | some c => s.reportStage c x

/-! ## Leveling (R151) -/

/-- The timebase value at which the owner's last ANNOUNCE was taken. -/
def State.announcedAt (s : State) (id : Nat) : Nat := (s.time + Config.timeWrap - (s.entry id).age) % Config.timeWrap

/-- The oven has been charged, and its bank has not announced since (R151, check 8). -/
def State.chargeUnannounced (s : State) (n id : Nat) : Bool :=
  s.machine.charged.any fun x => decide (x.1 = n) && !later (s.announcedAt id) x.2

/-- LEVEL_DONE (R151). -/
def execLevelDone (s : State) : Host.Outcome State Fault Refusal :=
  s.command 0x0B [1] [.pusher] fun b =>
    let n := natAt b 0 1
    if s.started = false then s.answer .badState
    else if ovenOk s.ovenCount n = false then s.answer .badArg 1
    else if s.onLine = false then s.answer .badState
    else if s.stop.stopped then s.refuse .stopped
    else if s.machine.position ≠ n then s.refuse .position
    else
      match s.owner? n with
      | none => s.answer .ownerAbsent
      | some id =>
        if (s.summary n).map Prod.fst ≠ some .empty then s.answer .badState
        else if s.chargeUnannounced n id then s.answer .badState
        else if s.queued (Body.isChargedOf n) then s.answer .accepted
        else s.offerFor (.charged n)

/-! ## Reseals (R147, R149) -/

/-- A RESEAL_CLAIM. -/
def Body.isResealClaim : Body → Bool
  | .resealClaim _ _ _ => true
  | _ => false

/-- RESEAL_START for a side (R147). -/
def State.resealStart (s : State) (n : Nat) (j : Side) : State :=
  if s.started = false then s.answer .badState
  else if ovenOk s.ovenCount n = false then s.answer .badArg 1
  else if s.onLine = false then s.answer .badState
  else if s.machine.position ≠ n then s.refuse .position
  else if s.stop.stopped then s.refuse .stopped
  else if s.openClaim.isSome then s.refuse .claimBusy
  else if (s.openReseal j).isSome || s.queued Body.isResealClaim then s.refuse .resealOpen
  else if (s.owner? n).isNone then s.answer .ownerAbsent
  else
    let r := nextSerial s.claims.highestReseal
    s.offerFor (.resealClaim n j.code r) (field1 n ++ field1 j.code ++ field1 r)

/-- RESEAL_START (R147). -/
def execResealStart (s : State) : Host.Outcome State Fault Refusal :=
  s.command 0x0C [1] machineRoles fun b =>
    match s.side? with
    | some j => s.resealStart (natAt b 0 1) j
    | none => s.answer .notRole

/-- RESEAL_FINISH for a side (R149). -/
def State.resealFinish (s : State) (j : Side) : State :=
  if s.onLine = false then s.answer .badState
  else if s.queuedPending Body.isResealClaim then (s.withdraw Body.isResealClaim).answer .accepted detailWithdrawn
  else if s.queuedInFlight Body.isResealClaim then s.answer .badState
  else
    match s.openReseal j with
    | none => s.answer .badState
    | some r =>
      if s.queued (Body.isDoneOf r.serial) then s.answer .accepted
      else s.offerFor (.resealDone r.oven j.code r.serial ResealEnd.done.outcome)

/-- RESEAL_FINISH (R149). -/
def execResealFinish (s : State) : Host.Outcome State Fault Refusal :=
  s.command 0x0D [] machineRoles fun _ =>
    match s.side? with
    | some j => s.resealFinish j
    | none => s.answer .notRole

end Sys2Proof.Machine
end

