-- ==== Sys2Proof/Machine/MachineEvents.lean ====
section
/-! DEFINITION. The rows of the PUSHER, the GUIDE and the QUENCH station: the plan timer (06), the CHAIN input and the revoke retry timer
(08), and the car's moves and timers (09). -/

namespace Sys2Proof.Machine

/-- PLAN_TIMER_EXPIRY (R103). -/
def execPlanTimerExpiry (s : State) : Host.Outcome State Fault Refusal :=
  s.event
    ((s.plan.bind Plan.timer).map fun t =>
      ((s.elapseTo t Config.planPeriod).changePlan fun p => { p with timer := some 0 }).makeChoice)

/-- The CHAIN reading of the machine or the car (R139, R153). A BANK has none. -/
def State.chainReading (s : State) : Option Bool :=
  match s.role with
  | .bank => none
  | .pusher | .guide => some s.machine.chain
  | .quench => some s.car.chain

/-- The CHAIN reading changed. -/
def State.setChain (s : State) (closed : Bool) : State :=
  match s.role with
  | .bank => s
  | .pusher | .guide => s.changeMachine fun m => { m with chain := closed }
  | .quench => s.changeCar fun c => { c with chain := closed }

/-- CHAIN_OPENS (R139): at once. -/
def execChainOpens (s : State) : Host.Outcome State Fault Refusal :=
  s.event (onlyIf (decide (s.chainReading = some true)) (s.setChain false))

/-- CHAIN_CLOSED (R139): after 50 ms, before START too, where R138 and R153 have the unit hold its reset values (DESIGN CHOICE, log 73). -/
def execChainClosed (s : State) : Host.Outcome State Fault Refusal :=
  s.event (onlyIf (decide (s.chainReading = some false)) (s.setChain true))

/-- REVOKE_RETRY_TIMER (R141). -/
def execRevokeRetryTimer (s : State) : Host.Outcome State Fault Refusal :=
  s.event
    (s.machine.revokeTimer.map fun t =>
      ((s.elapseTo t Config.retryLimit).changeMachine fun m => { m with revokeTimer := none }).offerRevoke)

/-! ## Car -/

/-- A move starts (R158): it leaves the queue; it completes at once where the car stands at its target, else the car travels. -/
def State.startMove (s : State) (m : Move) (rest : List Move) : State :=
  let s1 := s.changeCar fun c => { c with queue := rest, move := some m }
  if m.target = s.car.marker then s1.completeMove m
  else ((s1.changeCar fun c => { c with state := .travelling, moveTimer := some 0 }).report (.moveGranted m.target)).compareReady

/-- MOVE_START (R158). -/
def execMoveStart (s : State) : Host.Outcome State Fault Refusal :=
  s.event
    (match s.car.queue with
      | m :: rest => onlyIf (s.carActive && s.moveMayStart m) (s.startMove m rest)
      | [] => none)

/-- MOVE_TIMER_EXPIRY (R160). It does not run while the battery is stopped. -/
def execMoveTimerExpiry (s : State) : Host.Outcome State Fault Refusal :=
  s.event
    (match s.carConfig, s.car.moveTimer with
      | some k, some t => onlyIf (!s.stop.stopped) ((s.elapseTo t (1000 * k.moveLimit)).carFaults.compareReady)
      | _, _ => none)

/-- QUENCH_TIME_EXPIRY (R165): DRAINING. -/
def execQuenchTimeExpiry (s : State) : Host.Outcome State Fault Refusal :=
  s.event
    (match s.carConfig, s.car.phase with
      | some k, some t =>
        onlyIf (decide (s.car.state = .quenching))
          ((s.elapseTo t (1000 * k.quench)).changeCar fun c => { c with state := .draining, phase := some 0 }).compareReady
      | _, _ => none)

/-- The car when its drain time is over (R165). -/
def Car.drained (c : Car) : Car := { c with phase := none, load := .quenched, state := .loaded, queue := joinHead .wharf c.queue }

/-- DRAIN_TIME_EXPIRY (R165). -/
def execDrainTimeExpiry (s : State) : Host.Outcome State Fault Refusal :=
  s.event
    (match s.carConfig, s.car.phase with
      | some k, some t =>
        onlyIf (decide (s.car.state = .draining))
          (((s.elapseTo t (1000 * k.drain)).changeCar Car.drained).report (.quenchDone k.quench k.drain)).compareReady
      | _, _ => none)

/-- READY_RETRY_TIMER (R162). -/
def execReadyRetryTimer (s : State) : Host.Outcome State Fault Refusal :=
  s.event
    (s.car.readyTimer.map fun t =>
      ((s.elapseTo t Config.retryLimit).changeCar fun c => { c with readyTimer := none }).compareReady)

end Sys2Proof.Machine
end

