-- ==== Sys2Proof/Machine/Reads.lean ====
section
/-! DEFINITION. The read commands (R181): the content of each listing in its rule's order (R24, R36, R76, R77, R97, R111, R138, R169),
laid out by R191, and its parts of 28 bytes. The layout of lists and of a last payload is log 14. A read changes no state. -/

namespace Sys2Proof.Machine

/-! ## Parts (R181, R191) -/

/-- The number of parts of a content: pieces of 28 bytes, never fewer than one. -/
def partCount (content : List Byte) : Nat := max 1 (ceilDiv content.length 28)

/-- Part n of a content. -/
def part (content : List Byte) (n : Nat) : List Byte := (content.drop (28 * n)).take 28

/-- The reply to a read: the part asked for, the number of parts, and the piece; a part beyond them is BAD_ARG (part), whose place
among the command's fields is given. -/
def State.readPart (s : State) (content : List Byte) (n place : Nat) : State :=
  if n < partCount content then s.answer .accepted 0 (field1 n ++ field1 (partCount content) ++ part content n)
  else s.answer .badArg place

/-- A list in a fixed number of slots, each with its presence byte (log 14). -/
def slots {α : Type} (count width : Nat) (f : α → List Byte) (l : List α) : List Byte :=
  (List.range count).flatMap fun i => fieldOpt width f (l[i]?)

/-- A list of bytes in a fixed width, filled up with 0. -/
def padTo (width : Nat) (l : List Byte) : List Byte := l ++ List.replicate (width - l.length) 0#8

/-! ## READ_STATUS (R181) -/

/-- The attention causes held, bit b for the cause of code b. -/
def State.causeBits (s : State) : Byte :=
  bitAt (s.holds .overcoked) 0 ||| bitAt (s.holds .faulted) 1 ||| bitAt (s.holds .sensorLost) 2 |||
    bitAt (s.holds .unlatchedUnexpected) 3 ||| bitAt (s.holds .doorMismatch) 4 ||| bitAt (s.holds .carFault) 5

/-- The content of READ_STATUS. -/
def State.statusContent (s : State) : List Byte :=
  field1 s.straps.id ++ field1 s.straps.role.code ++ field1 s.straps.lineRate ++ field1 s.straps.portRate ++ fieldFlag s.started ++
    field1 s.life.state.code ++ fieldOpt 1 (fun c => field1 (Cause.code c)) (if s.life.state = .conflict then s.life.conflict else none) ++
    field1 s.line.state.code ++ field1 s.line.checkStreak ++ field1 s.line.cleanRun ++ field1 s.queue.length ++
    field1 s.port.reports.length ++ fieldFlag s.port.spilled ++ fieldFlag s.stop.stopped ++ fieldFlag s.attention ++ [s.causeBits]

/-- READ_STATUS (R181). -/
def execReadStatus (s : State) : Host.Outcome State Fault Refusal :=
  s.command 0x1A [1] allRoles fun b => s.readPart s.statusContent (natAt b 0 1) 1

/-! ## READ_VIEW (R24, R138) -/

/-- A last payload: role code, role payload and trailer, in 15 bytes. -/
def payloadBytes (x : Payload × Trailer) : List Byte := padTo 15 (field1 x.1.role.code ++ x.1.bytes ++ x.2.bytes)

/-- One entry of the station table, in the order of R24. -/
def Entry.bytes (e : Entry) : List Byte :=
  field1 e.presence.code ++ field1 (roleListing e.role) ++ field1 e.missed ++ fieldFlag e.attention ++
    fieldOpt 2 (fun x => field1 x.1 ++ field1 x.2) e.range ++ field2 e.age ++ fieldOpt 15 payloadBytes e.payload ++ fieldFlag e.joining

/-- The machine unit as READ_VIEW returns it at a PUSHER or GUIDE. -/
def State.machineBytes (s : State) : List Byte :=
  field1 s.machine.position ++ fieldFlag s.machine.chain ++ fieldFlag s.out.extractor ++ fieldFlag s.out.ram ++
    slots Config.resealQueueMax 1 field1 s.machine.queue

/-- The content of READ_VIEW. The presence byte of a guide's revoke serial is its revoke owed flag (log 14). -/
def State.viewContent (s : State) : List Byte :=
  (match s.role with
    | .pusher => s.machineBytes ++ fieldOpt 5 (fun x => field1 x.1 ++ field4 x.2) s.machine.charged
    | .guide => s.machineBytes ++ fieldOpt 1 field1 s.machine.revokeOwed
    | .bank | .quench => []) ++ s.table.flatMap Entry.bytes

/-- READ_VIEW (R138). -/
def execReadView (s : State) : Host.Outcome State Fault Refusal :=
  s.command 0x1C [1] allRoles fun b => s.readPart s.viewContent (natAt b 0 1) 1

/-! ## READ_CLAIM (R90, R111, R120, R171) -/

/-- The abandon cause of an end state. -/
def ClaimEnd.cause? : ClaimEnd → Option AbandonCause
  | .abandoned a => some a
  | .opened | .closed => none

/-- The claim record in the order of R111. Its claim timer, which R111 gives no stopped value, has no presence byte (log 14). -/
def Claim.bytes (c : Claim) : List Byte :=
  field1 c.oven ++ field1 c.serial ++ fieldOpt 1 field1 c.claimant ++ fieldFlag c.forced ++ c.stages.bytes ++ field4 c.taken ++
    field3 c.timer ++ field1 c.ending.code ++ fieldOpt 1 (fun a => field1 (AbandonCause.code a)) c.ending.cause?

/-- A reseal claim record: the six fields that R90 names, in its order. -/
def Reseal.bytes (r : Reseal) : List Byte :=
  field1 r.oven ++ field1 r.side.code ++ field1 r.serial ++ field1 r.claimant ++ field4 r.taken ++ field1 r.ending.code

/-- The stop record. -/
def StopNote.bytes (n : StopNote) : List Byte := field1 n.serial ++ field1 n.cause.code ++ field1 n.giver

/-- The unnoted mark: a flag, and its timer, which may be stopped. -/
def markBytes (m : Option (Option Nat)) : List Byte := fieldFlag m.isSome ++ fieldOpt 2 (fun t : Nat => field2 t) m.join

/-- The content of READ_CLAIM. -/
def State.claimContent (s : State) : List Byte :=
  fieldOpt 17 Claim.bytes s.claims.record ++ field1 s.claims.highest ++ field1 (nextSerial s.claims.highest) ++
    fieldOpt 10 Veto.bytes s.claims.veto ++ s.claims.reseals.flatMap (fieldOpt 9 Reseal.bytes) ++ field1 s.claims.highestReseal ++
    fieldFlag s.stop.stopped ++ field1 s.stop.highest ++ fieldOpt 3 StopNote.bytes s.stop.note ++ markBytes s.stop.mark

/-- READ_CLAIM (R111). -/
def execReadClaim (s : State) : Host.Outcome State Fault Refusal :=
  s.command 0x1E [1] allRoles fun b => s.readPart s.claimContent (natAt b 0 1) 1

/-! ## READ_OVEN (R36, R60, R76, R77) -/

/-- A timer of three bytes that may be stopped. -/
def timer3 (t : Option Nat) : List Byte := fieldOpt 3 field3 t

/-- The oven record in the order of R35. -/
def Oven.bytes (n : Nat) (o : Oven) : List Byte :=
  field1 n ++ field1 o.state.code ++ field3 o.credit ++ field1 o.readiness.code ++ field2 o.minutes ++
    fieldOpt 2 (fun t : Nat => field2 t) o.temp ++ field2 o.tempAge ++ fieldFlag o.stale ++ field2 o.stamp ++ timer3 o.held ++
    [bitAt o.overcoked 0 ||| bitAt o.faulted 1]

/-- The loop in the order of R76, its timers in ms (log 14). -/
def Loop.bytes (l : Loop) : List Byte :=
  field1 l.mode.code ++ fieldOpt 2 field2 (if l.mode = .released then none else l.u) ++ field2 l.a ++ field2 l.pf ++ fieldFlag l.lost ++
    fieldOpt 2 (fun t : Nat => field2 t) l.lostTimer ++ field2 l.sp ++ field2 l.e ++
    (l.ring.flatMap fun x => field2 x.value ++ field1 x.quality.code) ++ fieldOpt 2 field2 l.target ++ timer3 l.charge ++ field1 l.zero ++
    fieldFlag l.owed

/-- The main pressure record and the present dm (R60, R76). One presence byte stands for value and quality together (log 14). -/
def State.mainBytes (s : State) (p1 : BankPart1) : List Byte :=
  fieldOpt 3 (fun m => field2 (MainRecord.value m) ++ field1 m.quality.code) s.bank.main ++ field2 s.bank.mainAge ++
    field2 (s.mainDeviation p1)

/-- A door record in the order of R77: the leak ring newest first, the timers in ms (log 14). R77's note gives the event latch's snapshot and the live
latch and seal state side by side: the live pair stands once, at the head of the record, and the snapshot last, as the table runs (DESIGN CHOICE,
log 14). -/
def Door.bytes (x : Door) : List Byte :=
  field1 (latchCode x.latch) ++ field1 x.sealing.code ++ (x.ring.flatMap field1) ++ timer3 x.seat ++ timer3 x.leaking ++
    fieldFlag x.called ++ timer3 x.call ++ timer3 x.reseal ++
    field1 ((x.mismatch.map fun m => m.kind.code).getD 0) ++ fieldOpt 2 (fun m => field2 (Mismatch.timer m : Nat)) x.mismatch ++
    [bitAt x.unlatched 3 ||| bitAt x.mismatched 4] ++ fieldFlag x.held ++ field1 (latchCode x.snapLatch) ++ field1 x.snapSeal.code

/-- The content of READ_OVEN for the oven at place i. -/
def State.ovenContent (s : State) (p1 : BankPart1) (i : Nat) : List Byte :=
  ((s.oven? i).map (Oven.bytes (s.ovenAt i))).getD [] ++ ((s.loop? i).map Loop.bytes).getD [] ++ s.mainBytes p1 ++
    ((s.door? (doorIndex i .ps)).map Door.bytes).getD [] ++ ((s.door? (doorIndex i .cs)).map Door.bytes).getD []

/-- READ_OVEN (R76). Before START it is BAD_STATE (R35). -/
def execReadOven (s : State) : Host.Outcome State Fault Refusal :=
  s.command 0x1B [1, 1] [.bank] fun b =>
    match s.bankConfig with
    | none => s.answer .badState
    | some (_, p1) =>
      match s.ovenIndex (natAt b 0 1) with
      | none => s.answer .badArg 1
      | some i => s.readPart (s.ovenContent p1 i) (natAt b 1 1) 2

/-! ## READ_PLAN (R97) -/

/-- A stride and pass step. -/
def pairBytes (x : Nat × Nat) : List Byte := field1 x.1 ++ field1 x.2

/-- The entry heard last of those whose bank range covers oven n: the one of the lowest announce age, and of two alike that of the
lower id. -/
def heardLast (n : Nat) (table : List Entry) : Option Entry :=
  table.foldl (fun best e => if e.covers n && best.all fun b => decide (e.age < b.age) then some e else best) none

/-- The summary last heard for oven n, from whichever bank that covers it announced last (R97). -/
def State.lastHeard (s : State) (n : Nat) : Option (SummaryState × Nat) := (heardLast n s.table).map fun e => e.summary n

/-- The content of READ_PLAN: every field of the record, the cycle order, and the summary of each deferred oven, whose state code and minutes
code are two bytes (log 14). -/
def State.planContent (s : State) (p : Plan) : List Byte :=
  field1 p.ovens ++ field1 p.stride ++ field1 p.step ++ field2 p.cycle ++ field1 p.pass ++ field1 p.pos ++
    (p.marks.flatMap fun m => field1 m.code) ++ slots Config.deferredMax 1 field1 p.deferred ++ fieldOpt 2 pairBytes p.staged ++
    fieldOpt 3 (fun x => field1 x.1 ++ field2 (x.2 : Nat)) p.note ++ field1 p.shown ++ p.order.flatMap field1 ++
    (List.range Config.deferredMax).flatMap fun i =>
      fieldOpt 2 (fun x : SummaryState × Nat => field1 x.1.code ++ field1 x.2) ((p.deferred[i]?).bind s.lastHeard)

/-- READ_PLAN (R97). -/
def execReadPlan (s : State) : Host.Outcome State Fault Refusal :=
  s.command 0x1D [1] [.pusher] fun b =>
    match s.plan with
    | none => s.answer .badState
    | some p => s.readPart (s.planContent p) (natAt b 0 1) 1

/-! ## READ_CAR (R153, R169) -/

/-- A move: its code and its target as a marker, two bytes for every move, SPOT or not (log 14). -/
def Move.bytes (m : Move) : List Byte := field1 m.code ++ field1 m.target

/-- The CAR_READY frame in the send queue, if any: set 0, revoke 1. READ_CAR lists no more of the frame (log 14). -/
def State.readyFrame (s : State) : Option Bool :=
  s.queue.findSome? fun e =>
    match e.body with
    | .pushStage _ _ x r => if x = Stage.carReady.code then some r else none
    | _ => none

/-- The GUIDE's position with the age of the payload that carried it. One presence byte stands for the two together (log 14). -/
def State.guideSeen (s : State) : Option (Nat × Nat) :=
  (s.stationOf .guide).bind fun id =>
    match (s.entry id).payload with
    | some (.guide pos _ _ _, _) => some (pos, (s.entry id).age)
    | _ => none

/-- The content of READ_CAR. The CHAIN reading and the last next oven, which R169 names again, stand once, at their places in the record of
R153; the move and phase timers are listed in ms; the GUIDE's position and its age have one presence byte (log 14). -/
def State.carContent (s : State) : List Byte :=
  field1 s.car.state.code ++ field1 s.car.marker ++ field1 s.car.load.code ++ fieldOpt 2 Move.bytes s.car.move ++
    timer3 s.car.moveTimer ++ timer3 s.car.phase ++ field2 s.car.loads ++ slots 4 2 Move.bytes s.car.queue ++ fieldFlag s.car.chain ++
    field1 s.car.lastNext ++ fieldOpt 2 (fun t : Nat => field2 t) s.car.readyTimer ++ [bitAt s.car.fault 5] ++ fieldFlag s.out.travel ++
    fieldFlag s.out.spray ++ fieldFlag s.out.gate ++ fieldFlag s.readyWish ++ fieldOpt 1 fieldFlag s.readyFrame ++
    fieldOpt 3 (fun x : Nat × Nat => field1 x.1 ++ field2 x.2) s.guideSeen

/-- READ_CAR (R169). Before START it is BAD_STATE (R153). -/
def execReadCar (s : State) : Host.Outcome State Fault Refusal :=
  s.command 0x1F [1] [.quench] fun b => if s.started then s.readPart s.carContent (natAt b 0 1) 1 else s.answer .badState

end Sys2Proof.Machine
end

