-- ==== Sys2Proof/Machine/StationCommands.lean ====
section
/-! DEFINITION. The commands of all roles (R20 to R22, R119, R129, R134, R170, R174): START with its configuration, REJOIN, LEAVE, STOP,
RESUME, CONSENT and ABANDON. -/

namespace Sys2Proof.Machine

/-! ## START: its fields (R19, R20, R191) -/

/-- The place of the first field whose check fails. -/
def firstPlace : List (Bool × Nat) → Option Nat
  | [] => none
  | (fails, place) :: rest => if fails then some place else firstPlace rest

/-- n lies outside lo..hi. -/
def outside (lo hi n : Nat) : Bool := decide (n < lo ∨ hi < n)

/-- v lies outside lo..hi. -/
def outsideInt (lo hi v : Int) : Bool := decide (v < lo ∨ hi < v)

/-- The consent mask of its byte (R191). -/
def ConsentMask.ofByte (m : Nat) : ConsentMask := ⟨m.testBit 0, m.testBit 1, m.testBit 2⟩

/-- A selection that the role may not make (R20): RESEAL_CLAIM is a BANK's, PUSH_CLAIM is any role's but the PUSHER's. -/
def maskBad (r : Role) (m : Nat) : Bool :=
  decide (7 < m) || (m.testBit 0 && decide (r = .pusher)) || (m.testBit 1 && decide (r ≠ .bank))

/-- The checks of the common fields: places 2, 3 and 4. -/
def commonChecks (r : Role) (b : List Byte) : List (Bool × Nat) :=
  [(outside 1 96 (natAt b 1 1), 2), (outside 300 1800 (natAt b 2 2), 3), (maskBad r (natAt b 4 1), 4)]

/-- The widths of a BANK's part 0. -/
abbrev bankWidths0 : List Nat := [1, 1, 2, 1, 1, 1, 2, 2, 2, 2, 2, 2, 2]

/-- The widths of a BANK's part 1. -/
abbrev bankWidths1 : List Nat := [1, 1, 1, 1, 2, 1, 2, 2, 2, 1, 1, 2, 2, 2]

/-- The widths of part 0 of the other roles. -/
def otherWidths : Role → List Nat
  | .pusher => [1, 1, 2, 1, 1, 1, 1]
  | .quench => [1, 1, 2, 1, 1, 1, 2]
  | .bank | .guide => [1, 1, 2, 1]

/-- A BANK's part 0 read from its body. -/
def BankPart0.ofBody (b : List Byte) : BankPart0 :=
  { ovens := natAt b 1 1, pushLimit := natAt b 2 2, consent := .ofByte (natAt b 4 1), first := natAt b 5 1, count := natAt b 6 1,
    target := natAt b 7 2, nominal := natAt b 9 2, allowance := natAt b 11 2, base := natAt b 13 2, floor := intAt b 15 2,
    chargeSp := intAt b 17 2, chargeTime := natAt b 19 2 }

/-- The first field of a BANK's part 0 that is out of range or breaks its condition (R19, R20). -/
def BankPart0.bad (b : List Byte) (p : BankPart0) : Option Nat :=
  firstPlace
    (commonChecks .bank b ++
      [(outside 1 p.ovens p.first || decide (p.ovens + 1 < p.first + p.count), 5), (outside 1 8 p.count, 6),
        (outside 600 1800 p.target, 7), (outside 1000 1400 p.nominal, 8), (outside 0 480 p.allowance, 9),
        (outsideInt 0 600 p.base, 10), (outsideInt (-200) p.base p.floor, 11), (outsideInt (-600) 200 p.chargeSp, 12),
        (outside 120 900 p.chargeTime, 13)])

/-- A BANK's part 1 read from its body. -/
def BankPart1.ofBody (b : List Byte) : BankPart1 :=
  { kp := natAt b 1 1, ki := natAt b 2 1, kf := natAt b 3 1, pnom := intAt b 4 2, mainSensor := decide (natAt b 6 1 = 1),
    rw := natAt b 7 2, rl := natAt b 9 2, rr := natAt b 11 2, weeping := natAt b 13 1, leaking := natAt b 14 1, seat := natAt b 15 2,
    leakDelay := natAt b 17 2, resealLimit := natAt b 19 2 }

/-- The first field of a BANK's part 1 that is out of range or breaks its condition (R19, R20). Kp, Ki and Kf take every value of
a byte. -/
def BankPart1.bad (b : List Byte) (p : BankPart1) : Option Nat :=
  firstPlace
    [(outsideInt (-3000) 0 p.pnom, 5), (outside 0 1 (natAt b 6 1), 6), (outsideInt 0 400 p.rw, 7), (outsideInt 0 400 p.rl, 8),
      (outsideInt 0 400 p.rr, 9), (outside 1 254 p.weeping, 10), (outside (p.weeping + 1) 255 p.leaking, 11),
      (outside 30 300 p.seat, 12), (outside 60 900 p.leakDelay, 13), (outside 120 1200 p.resealLimit, 14)]

/-- The configuration of a PUSHER, GUIDE or QUENCH station read from its part 0. -/
def otherConfig (r : Role) (b : List Byte) : Configuration :=
  { ovens := natAt b 1 1, pushLimit := natAt b 2 2, consent := .ofByte (natAt b 4 1),
    role :=
      match r with
      | .pusher => .pusher ⟨natAt b 5 1, natAt b 6 1, natAt b 7 1⟩
      | .quench => .quench ⟨natAt b 5 1, natAt b 6 1, natAt b 7 2⟩
      | .bank | .guide => .guide }

/-- The first field of part 0 of a PUSHER, GUIDE or QUENCH station that is out of range or breaks its condition (R19, R20, R97). -/
def otherBad (r : Role) (b : List Byte) : Option Nat :=
  firstPlace
    (commonChecks r b ++
      match r with
      | .pusher =>
        [(!strideOk (natAt b 1 1) (natAt b 5 1), 5), (!stepOk (natAt b 5 1) (natAt b 6 1), 6), (outside 0 140 (natAt b 7 1), 7)]
      | .quench => [(outside 60 150 (natAt b 5 1), 5), (outside 30 120 (natAt b 6 1), 6), (outside 30 600 (natAt b 7 2), 7)]
      | .bank | .guide => [])

/-! ## START: its acceptance -/

/-- The latch that input d reads. -/
def latchOf (inputs : BitVec 16) (d : Nat) : Latch := if inputs.getLsbD d then .unlatched else .latched

/-- The bank units that START creates (R35, R44, R53, R60, R61, R77). -/
def Bank.fresh (p0 : BankPart0) (p1 : BankPart1) (inputs : BitVec 16) : Bank :=
  { ovens := List.replicate p0.count .fresh, loops := List.replicate p0.count .fresh,
    doors := (List.range (2 * p0.count)).map fun d => .fresh (latchOf inputs d), main := none, mainAge := Config.ageMax,
    mainTimer := if p1.mainSensor then some 0 else none, tick := some 0 }

/-- A door whose latch reads UNLATCHED at START is at once UNLATCHED_UNEXPECTED (R77, R84). -/
def State.unlatchAtStart (s : State) (d : Nat) : State :=
  if (s.door? d).any fun x => decide (x.latch = .unlatched) then s.changeDoor d Door.enterUnlatched else s

/-- The configuration is held, and the role unit is created (R20, R35, R53, R77, R97). -/
def State.configure (s : State) (c : Configuration) (inputs : BitVec 16) : State :=
  let s1 := (s.withConfig (some c)).withStaged none
  match c.role with
  | .bank p0 p1 => (List.range (2 * p0.count)).foldl State.unlatchAtStart (s1.withBank (.fresh p0 p1 inputs))
  | .pusher k => s1.withPlan (some (.fresh c.ovens k))
  | .guide | .quench _ => s1

/-- An accepted START (R20). -/
def State.accept (s : State) (c : Configuration) (inputs : BitVec 16) : State := (s.configure c inputs).enterJoining

/-- START may be executed: OFF_LINE and no configuration (R20). -/
def State.startable (s : State) : Bool := decide (s.life.state = .offLine) && !s.started

/-- A strap code is unassigned (R19). -/
def State.strapBad (s : State) : Bool := decide (s.straps.lineRate = 3) || decide (s.straps.portRate = 3)

/-- The checks that stand before START's fields: strap and state (R19, R20). -/
def State.startChecks (s : State) (pass : State) : State :=
  if s.strapBad then s.refuse .strap else if s.startable then pass else s.answer .badState

/-- The checks that stand before START's fields, after that of the length (R19, R20, R179). -/
def State.startGate (s : State) (widths : List Nat) (len : Nat) (pass : State) : State :=
  match bodyFault widths len with
  | some place => s.answer .badArg place
  | none => s.startChecks pass

/-- A part that the role's START does not have: after strap and state, BAD_ARG (part) (log 15). -/
def State.startNoPart (s : State) : State := s.startChecks (s.answer .badArg 1)

/-- A BANK's part 0 (R191). Refused, it leaves the part that is staged already (DESIGN CHOICE, log 76). -/
def State.startPart0 (s : State) (b : List Byte) : State :=
  s.startGate bankWidths0 b.length
    (let p := BankPart0.ofBody b
     match p.bad b with
     | some place => s.answer .badArg place
     | none => (s.withStaged (some p)).answer .accepted detailPartHeld)

/-- A BANK's part 1 (R191); refused, it discards the staged part. -/
def State.startPart1 (s : State) (b : List Byte) (inputs : BitVec 16) : State :=
  let s0 := s.withStaged none
  s0.startGate bankWidths1 b.length
    (match s.staged with
      | none => s0.answer .badState
      | some p0 =>
        let p := BankPart1.ofBody b
        match p.bad b with
        | some place => s0.answer .badArg place
        | none => s0.accept { ovens := p0.ovens, pushLimit := p0.pushLimit, consent := p0.consent, role := .bank p0 p } inputs)

/-- Part 0 of a PUSHER, GUIDE or QUENCH station, which completes START (R191). -/
def State.startOther (s : State) (b : List Byte) (inputs : BitVec 16) : State :=
  s.startGate (otherWidths s.role) b.length
    (match otherBad s.role b with
      | some place => s.answer .badArg place
      | none => s.accept (otherConfig s.role b) inputs)

/-- A START body. An empty one lacks its part, whatever the role (R179). -/
def State.startBody (s : State) (b : List Byte) (inputs : BitVec 16) : State :=
  match s.role, b.head? with
  | _, none => s.answer .badArg 1
  | .bank, some part =>
    if part = 0#8 then s.startPart0 b else if part = 1#8 then s.startPart1 b inputs else s.startNoPart
  | _, some part => if part = 0#8 then s.startOther b inputs else s.startNoPart

/-- START (R20). -/
def execStart (inputs : BitVec 16) (s : State) : Host.Outcome State Fault Refusal :=
  s.event ((s.beginning fun k => decide (k.toNat = 0x01)).map fun c => s.startBody c.body inputs)

/-! ## REJOIN, LEAVE -/

/-- REJOIN (R21). -/
def execRejoin (s : State) : Host.Outcome State Fault Refusal :=
  s.command 0x02 [] allRoles fun _ =>
    if s.life.state = .offLine ∧ s.started = true then s.enterJoining else s.answer .badState

/-- LEAVE holds execution (R180). -/
def State.holdLeave (s : State) : State := s.changePort fun p => { p with hold := some (.leave 0) }

/-- LEAVE in JOINING or ON_LINE: the leaving ANNOUNCE, or OFF_LINE at once where it is not queued (R22). -/
def State.leaveOnLine (s : State) : State :=
  let b := Body.announce s.payload s.trailer
  let s1 := (s.offer b true).holdLeave
  if s.accepts b then s1 else s1.enterOffLine

/-- LEAVE (R22). -/
def execLeave (s : State) : Host.Outcome State Fault Refusal :=
  s.command 0x03 [] allRoles fun _ =>
    match s.life.state with
    | .joining | .onLine => s.leaveOnLine
    | .listenOnly => s.holdLeave.enterOffLine
    | .offLine | .conflict => s.answer .badState

/-! ## STOP, RESUME -/

/-- STOP (R170). -/
def execStop (s : State) : Host.Outcome State Fault Refusal :=
  s.command 0x04 [] allRoles fun _ => if s.drives then (s.givePulse .command).answer .accepted else s.answer .badState

/-- A RESUME of this station is in the send queue. -/
def Body.isResume : Body → Bool
  | .resume _ => true
  | _ => false

/-- RESUME (R174). -/
def execResume (s : State) : Host.Outcome State Fault Refusal :=
  s.command 0x05 [] allRoles fun _ =>
    if !s.onLine || !s.stop.stopped then s.answer .badState
    else if s.stop.input then s.refuse .localStop
    else if s.stop.mark.isSome then s.refuse .staleSerial
    else if s.queued Body.isResume then s.answer .accepted
    else s.offerFor (.resume s.stop.highest)

/-! ## CONSENT -/

/-- CONSENT (R119). An ask whose window this station no longer holds, its own stop pulse having begun, is still open: the answer is ACCEPTED
and closes it, and a REFUSE casts no veto (DESIGN CHOICE, log 78). -/
def execConsent (s : State) : Host.Outcome State Fault Refusal :=
  s.command 0x06 [1, 1] allRoles fun b =>
    if 1 < natAt b 1 1 then s.answer .badArg 2
    else
      match s.openAsk with
      | some w =>
        if natAt b 0 1 = s.claims.ask then
          (s.closeAsk w (if natAt b 1 1 = 0 then .take else .veto .consentRefused)).answer .accepted
        else s.answer .tooLate
      | none => s.answer .tooLate

/-! ## ABANDON -/

/-- A PUSH_CLAIM. -/
def Body.isPushClaim : Body → Bool
  | .pushClaim _ _ _ => true
  | _ => false

/-- ABANDON for the OPEN claim (R129, checks 3 to 5). -/
def State.abandonClaim (s : State) : State :=
  match s.openClaim with
  | none => s.answer .badState
  | some c =>
    if s.role = .bank ∧ (s.ovenIndex c.oven).isNone = true then s.refuse .role
    else if s.queued (Body.isAbandonOf c.serial) then s.answer .accepted
    else s.offerFor (.pushAbandon c.oven c.serial AbandonCause.command.code)

/-- ABANDON (R129, R134). -/
def execAbandon (s : State) : Host.Outcome State Fault Refusal :=
  s.command 0x08 [] allRoles fun _ =>
    if s.onLine = false then s.answer .badState
    else if s.queuedPending Body.isPushClaim then (s.withdraw Body.isPushClaim).answer .accepted detailWithdrawn
    else if s.queuedInFlight Body.isPushClaim then s.changePort fun p => { p with hold := some (.abandon 0) }
    else s.abandonClaim

end Sys2Proof.Machine
end

