-- ==== Sys2Proof/Machine/StationEvents.lean ====
section
/-! DEFINITION. The rows of the stop state (10), of census, announce and LEAVE (02), and of the claim tracker's timers (05, 07). -/

namespace Sys2Proof.Machine

/-! ## Stop state -/

/-- UNNOTED_MARK_EXPIRY (R171): the mark clears 2000 ms after its stop run ended. -/
def execUnnotedMarkExpiry (s : State) : Host.Outcome State Fault Refusal :=
  s.event (s.stop.mark.join.map fun t => (s.elapseTo t Config.unnotedLimit).changeStop fun x => { x with mark := none })

/-- STOP_INPUT_ASSERTED (R170). -/
def execStopInputAsserted (s : State) : Host.Outcome State Fault Refusal :=
  s.event
    (onlyIf (!s.stop.input)
      (let s1 := s.changeStop fun x => { x with input := true }
       if s1.drives then s1.givePulse .stopInput else s1))

/-- STOP_INPUT_CLEAR (R170). -/
def execStopInputClear (s : State) : Host.Outcome State Fault Refusal :=
  s.event (onlyIf s.stop.input (s.changeStop fun x => { x with input := false }))

/-! ## Census, announce, LEAVE -/

/-- CENSUS_TIMER_EXPIRY (R25). -/
def execCensusTimerExpiry (s : State) : Host.Outcome State Fault Refusal :=
  s.event
    (s.life.census.map fun t =>
      ((s.elapseTo t (Config.censusPeriod s.straps.id)).changeLife fun l => { l with census := some 0 }).offer .census)

/-- ANNOUNCE_TIMER (R28): at 2000 ms whatever the content, from 200 ms where the content differs from the last queued. -/
def execAnnounceTimer (full : Bool) (s : State) : Host.Outcome State Fault Refusal :=
  s.event
    (s.life.announce.bind fun t =>
      if full then some (s.elapseTo t Config.announcePeriod).offerAnnounce
      else
        let s1 := s.elapseTo t Config.announceSpacing
        onlyIf (decide (s1.life.lastContent ≠ some s1.content)) s1.offerAnnounce)

/-- LEAVE_TIMEOUT (R22): 500 ms after the command. A station that CONFLICT has overtaken answers BAD_STATE (log 17). -/
def execLeaveTimeout (s : State) : Host.Outcome State Fault Refusal :=
  s.event
    (match s.port.hold with
      | some (.leave t) =>
        let s1 := s.elapseTo t Config.commandWait
        some (if s1.life.state = .conflict then s1.answerHeld .badState else s1.enterOffLine)
      | some (.abandon _) | none => none)

/-! ## Claim tracker -/

/-- PUSH_ABANDON (TIMEOUT) for the OPEN claim c (R128): none while one for c is queued; where the offer is not queued the retry
timer starts. -/
def State.offerTimeout (s : State) (c : Claim) : State :=
  let s1 := s.withClaims { s.claims with retry := none }
  if s1.queued (Body.isAbandonOf c.serial) then s1
  else
    let b := Body.pushAbandon c.oven c.serial AbandonCause.timeout.code
    let s2 := s1.offer b
    if s1.accepts b then s2 else s2.withClaims { s2.claims with retry := some 0 }

/-- CLAIM_TIMER_EXPIRY (R127, R128). While the retry timer runs, the claim's timeout has been seen. -/
def execClaimTimerExpiry (s : State) : Host.Outcome State Fault Refusal :=
  s.event
    (s.openClaim.bind fun c =>
      onlyIf (!s.stop.stopped && s.claims.retry.isNone)
        (let s1 := s.elapseTo c.timer s.pushLimit
         s1.offerTimeout ((s1.openClaim).getD c)))

/-- ABANDON_RETRY (R128). -/
def execAbandonRetry (s : State) : Host.Outcome State Fault Refusal :=
  s.event
    (s.claims.retry.map fun t =>
      let s1 := s.elapseTo t Config.retryLimit
      match s1.openClaim with
      | some c => s1.offerTimeout c
      | none => s1.withClaims { s1.claims with retry := none })

/-- ABANDON_WAIT_TIMEOUT (R134): 500 ms after the command the reply is BUSY. -/
def execAbandonWaitTimeout (s : State) : Host.Outcome State Fault Refusal :=
  s.event
    (match s.port.hold with
      | some (.abandon t) => some ((s.elapseTo t Config.commandWait).answerHeld .busy)
      | some (.leave _) | none => none)

/-- The reseal record of a slot, where it is open. -/
def State.resealSlot (s : State) (slot : Nat) : Option Reseal := (s.claims.reseals[slot]?).join.filter Reseal.isOpen

/-- RESEAL_RECORD_TIMER_EXPIRY (R90): the record ends GIVEN_UP; a door RESEALING under it leaves RESEALING as R94 gives. -/
def execResealRecordTimerExpiry (slot : Nat) (s : State) : Host.Outcome State Fault Refusal :=
  s.event
    ((s.resealSlot slot).bind fun r =>
      onlyIf (!s.stop.stopped)
        (let s1 := s.elapseTo r.timer Config.recordLimit
         let s2 := s1.setReseals (s1.claims.reseals.modify slot (Option.map fun x => { x with ending := .givenUp }))
         if (s2.resealingDoor r.oven r.side).isSome then s2.loseReseal r
         else s2.report (.resealEnded r.oven r.side r.serial .givenUp)))

end Sys2Proof.Machine
end

