-- ==== Sys2Proof/Machine/Dispatch.lean ====
section
/-! DEFINITION. The meaning of every row of spec/opcode_table.json: one arm per constructor of Instr. -/

namespace Sys2Proof.Machine

/-- The row i takes place at the station s: its effect on everything but the queue of rows. -/
def exec (i : Instr) (s : State) : Host.Outcome State Fault Refusal :=
  match i with
  | .hardwareReset a b c d e => Sys2Proof.Machine.execHardwareReset a b c d e s
  | .idleGapComplete => Sys2Proof.Machine.execIdleGapComplete s
  | .contend a => Sys2Proof.Machine.execContend a s
  | .otherStartBit => Sys2Proof.Machine.execOtherStartBit s
  | .idClash a => Sys2Proof.Machine.execIdClash a s
  | .voidFrame => Sys2Proof.Machine.execVoidFrame s
  | .frameEnd a => Sys2Proof.Machine.execFrameEnd a s
  | .consentTimeout => Sys2Proof.Machine.execConsentTimeout s
  | .holdTimeout => Sys2Proof.Machine.execHoldTimeout s
  | .settleOutcome a => Sys2Proof.Machine.execSettleOutcome a s
  | .lineBlocked => Sys2Proof.Machine.execLineBlocked s
  | .blockedCleared a => Sys2Proof.Machine.execBlockedCleared a s
  | .stopRunDetected => Sys2Proof.Machine.execStopRunDetected s
  | .stopRunEnd a => Sys2Proof.Machine.execStopRunEnd a s
  | .stuckLine => Sys2Proof.Machine.execStuckLine s
  | .unnotedMarkExpiry => Sys2Proof.Machine.execUnnotedMarkExpiry s
  | .stopInputAsserted => Sys2Proof.Machine.execStopInputAsserted s
  | .stopInputClear => Sys2Proof.Machine.execStopInputClear s
  | .censusTimerExpiry => Sys2Proof.Machine.execCensusTimerExpiry s
  | .announceTimer a => Sys2Proof.Machine.execAnnounceTimer a s
  | .leaveTimeout => Sys2Proof.Machine.execLeaveTimeout s
  | .ovenTick => Sys2Proof.Machine.execOvenTick s
  | .heldTimerExpiry a => Sys2Proof.Machine.execHeldTimerExpiry a s
  | .pressureSample a b => Sys2Proof.Machine.execPressureSample a b s
  | .sampleWatchExpiry a => Sys2Proof.Machine.execSampleWatchExpiry a s
  | .lostTimerExpiry a => Sys2Proof.Machine.execLostTimerExpiry a s
  | .mainSample a => Sys2Proof.Machine.execMainSample a s
  | .mainReportTimer => Sys2Proof.Machine.execMainReportTimer s
  | .chargeTimerExpiry a => Sys2Proof.Machine.execChargeTimerExpiry a s
  | .latchEvent a b => Sys2Proof.Machine.execLatchEvent a b s
  | .leakLevel a b => Sys2Proof.Machine.execLeakLevel a b s
  | .seatTimerExpiry a => Sys2Proof.Machine.execSeatTimerExpiry a s
  | .leakingTimerExpiry a => Sys2Proof.Machine.execLeakingTimerExpiry a s
  | .callTimerExpiry a => Sys2Proof.Machine.execCallTimerExpiry a s
  | .mismatchWatchExpiry a => Sys2Proof.Machine.execMismatchWatchExpiry a s
  | .resealTimerExpiry a => Sys2Proof.Machine.execResealTimerExpiry a s
  | .resealRecordTimerExpiry a => Sys2Proof.Machine.execResealRecordTimerExpiry a s
  | .planTimerExpiry => Sys2Proof.Machine.execPlanTimerExpiry s
  | .chainOpens => Sys2Proof.Machine.execChainOpens s
  | .chainClosed => Sys2Proof.Machine.execChainClosed s
  | .revokeRetryTimer => Sys2Proof.Machine.execRevokeRetryTimer s
  | .moveStart => Sys2Proof.Machine.execMoveStart s
  | .moveTimerExpiry => Sys2Proof.Machine.execMoveTimerExpiry s
  | .quenchTimeExpiry => Sys2Proof.Machine.execQuenchTimeExpiry s
  | .drainTimeExpiry => Sys2Proof.Machine.execDrainTimeExpiry s
  | .readyRetryTimer => Sys2Proof.Machine.execReadyRetryTimer s
  | .claimTimerExpiry => Sys2Proof.Machine.execClaimTimerExpiry s
  | .abandonRetry => Sys2Proof.Machine.execAbandonRetry s
  | .abandonWaitTimeout => Sys2Proof.Machine.execAbandonWaitTimeout s
  | .messageReceived a => Sys2Proof.Machine.execMessageReceived a s
  | .interByteGap => Sys2Proof.Machine.execInterByteGap s
  | .messageSent => Sys2Proof.Machine.execMessageSent s
  | .unassignedCommand => Sys2Proof.Machine.execUnassignedCommand s
  | .start a => Sys2Proof.Machine.execStart a s
  | .rejoin => Sys2Proof.Machine.execRejoin s
  | .leave => Sys2Proof.Machine.execLeave s
  | .stop => Sys2Proof.Machine.execStop s
  | .resume => Sys2Proof.Machine.execResume s
  | .consent => Sys2Proof.Machine.execConsent s
  | .pushRequest => Sys2Proof.Machine.execPushRequest s
  | .abandon => Sys2Proof.Machine.execAbandon s
  | .stage => Sys2Proof.Machine.execStage s
  | .machineAt => Sys2Proof.Machine.execMachineAt s
  | .levelDone => Sys2Proof.Machine.execLevelDone s
  | .resealStart => Sys2Proof.Machine.execResealStart s
  | .resealFinish => Sys2Proof.Machine.execResealFinish s
  | .carAt => Sys2Proof.Machine.execCarAt s
  | .loadSensed => Sys2Proof.Machine.execLoadSensed s
  | .gateClosed => Sys2Proof.Machine.execGateClosed s
  | .park => Sys2Proof.Machine.execPark s
  | .clearCar => Sys2Proof.Machine.execClearCar s
  | .setWallTemp => Sys2Proof.Machine.execSetWallTemp s
  | .restoreOven => Sys2Proof.Machine.execRestoreOven s
  | .setService => Sys2Proof.Machine.execSetService s
  | .setValve => Sys2Proof.Machine.execSetValve s
  | .clearFault => Sys2Proof.Machine.execClearFault s
  | .freeDoorLatch => Sys2Proof.Machine.execFreeDoorLatch s
  | .planChange => Sys2Proof.Machine.execPlanChange s
  | .readStatus => Sys2Proof.Machine.execReadStatus s
  | .readView => Sys2Proof.Machine.execReadView s
  | .readClaim => Sys2Proof.Machine.execReadClaim s
  | .readOven => Sys2Proof.Machine.execReadOven s
  | .readPlan => Sys2Proof.Machine.execReadPlan s
  | .readCar => Sys2Proof.Machine.execReadCar s
  | .holdOrVetoAssertedInIdle => Sys2Proof.Machine.execHoldOrVetoAssertedInIdle s
  | .minimumHoldElapsed => Sys2Proof.Machine.execMinimumHoldElapsed s
  | .dominantBitInSettle => Sys2Proof.Machine.execDominantBitInSettle s

end Sys2Proof.Machine
end

