-- ==== Sys2Proof/Machine/Step.lean ====
section
/-! DEFINITION. One step: the row at the front of the queue takes place; on an empty queue a millisecond passes (log 1). -/

namespace Sys2Proof.Machine

/-- A millisecond of the timebase passes and nothing else happens (log 1). -/
def State.idle (s : State) : State := s.elapse 1

/-- One step (95: each row is whole and indivisible). -/
def step (s : State) : Host.Outcome State Fault Refusal :=
  match s.pending with
  | i :: rest => exec i (s.withPending rest)
  | [] => .next s.idle

/-- The state with the command that a word spells at the front of its queue. The table gives no row any bits, so no word spells
one (log 26). -/
def State.withFetchWord (s : State) (nbits w : Nat) : State :=
  match decodeTableWord nbits w with
  | some i => s.withPending (i :: s.pending)
  | none => s

end Sys2Proof.Machine
end

