-- ==== Sys2Proof/Safety.lean ====
section
/-! DEFINITION. The words that statements use: which parts of the state a row leaves alone, when a command begins and when an outcome is
sampled, the ranges of a frame's fields, and what holds of the station whatever rows take place. -/

namespace Sys2Proof.Machine

/-! ## Frames of rows: what stays -/

/-- The parts of the state. -/
inductive Part where
  | straps | config | staged | life | time | line | queue | table | claims | stop | bank | plan | machine | car | out | port | free
  | pending
  deriving DecidableEq, Repr

/-- The part is the same in t as in s. -/
def Part.Same (s t : State) : Part → Prop
  | .straps => t.straps = s.straps
  | .config => t.config = s.config
  | .staged => t.staged = s.staged
  | .life => t.life = s.life
  | .time => t.time = s.time
  | .line => t.line = s.line
  | .queue => t.queue = s.queue
  | .table => t.table = s.table
  | .claims => t.claims = s.claims
  | .stop => t.stop = s.stop
  | .bank => t.bank = s.bank
  | .plan => t.plan = s.plan
  | .machine => t.machine = s.machine
  | .car => t.car = s.car
  | .out => t.out = s.out
  | .port => t.port = s.port
  | .free => t.free = s.free
  | .pending => t.pending = s.pending

/-- Every part but those listed is the same in t as in s. -/
def SameBut (parts : List Part) (s t : State) : Prop := ∀ p, p ∉ parts → p.Same s t

/-! ## Commands and outcomes -/

/-- The command of the kind and body stands at the head of the buffer, and execution is free (R180). -/
abbrev State.Begins (s : State) (kind : Byte) (body : List Byte) : Prop :=
  s.port.hold = none ∧ s.port.replies.length < Config.replyMax ∧ s.port.commands.head? = some ⟨kind, body⟩

/-- The port with the command at the head answered (R179, R180, R183). -/
def Port.answered (p : Port) (result : Result) (detail : Nat := 0) (values : List Byte := []) : Port :=
  match p.commands with
  | c :: rest => ({ p with commands := rest }).offerReply ⟨c.kind + 0x80#8, result, detail, values⟩
  | [] => p

/-- The row that executes a command, with the command's code, the widths of its fields and its roles (R179, R191). START, whose fields
depend on the role, is not among them. -/
structure CommandRow where
  row    : Instr
  code   : Byte
  widths : List Nat
  roles  : List Role
  deriving DecidableEq, Repr

/-- The commands of the table of R191 and section 11.3, but for START. -/
def commandRows : List CommandRow :=
  [⟨.rejoin, 0x02#8, [], allRoles⟩, ⟨.leave, 0x03#8, [], allRoles⟩, ⟨.stop, 0x04#8, [], allRoles⟩, ⟨.resume, 0x05#8, [], allRoles⟩,
    ⟨.consent, 0x06#8, [1, 1], allRoles⟩, ⟨.pushRequest, 0x07#8, [1, 1], [.pusher]⟩, ⟨.abandon, 0x08#8, [], allRoles⟩,
    ⟨.stage, 0x09#8, [1], machineRoles⟩, ⟨.machineAt, 0x0A#8, [1], machineRoles⟩, ⟨.levelDone, 0x0B#8, [1], [.pusher]⟩,
    ⟨.resealStart, 0x0C#8, [1], machineRoles⟩, ⟨.resealFinish, 0x0D#8, [], machineRoles⟩] ++
  [⟨.carAt, 0x0E#8, [1], [.quench]⟩, ⟨.loadSensed, 0x0F#8, [], [.quench]⟩, ⟨.gateClosed, 0x10#8, [], [.quench]⟩,
    ⟨.park, 0x11#8, [], [.quench]⟩, ⟨.clearCar, 0x12#8, [1], [.quench]⟩, ⟨.setWallTemp, 0x13#8, [1, 2], [.bank]⟩,
    ⟨.restoreOven, 0x14#8, [1, 1, 3, 2, 2], [.bank]⟩, ⟨.setService, 0x15#8, [1, 1], [.bank]⟩, ⟨.setValve, 0x16#8, [1, 1, 2], [.bank]⟩,
    ⟨.clearFault, 0x17#8, [1], [.bank]⟩, ⟨.freeDoorLatch, 0x18#8, [1], [.bank]⟩] ++
  [⟨.planChange, 0x19#8, [1, 1], [.pusher]⟩, ⟨.readStatus, 0x1A#8, [1], allRoles⟩, ⟨.readOven, 0x1B#8, [1, 1], [.bank]⟩,
    ⟨.readView, 0x1C#8, [1], allRoles⟩, ⟨.readPlan, 0x1D#8, [1], [.pusher]⟩, ⟨.readClaim, 0x1E#8, [1], allRoles⟩,
    ⟨.readCar, 0x1F#8, [1], [.quench]⟩]

/-- The line after a window without a reception fault: GAP, nothing held, the check streak of a driving station at 0, the clean run of a
listening one longer by one (R9, R13). -/
def State.lineAfterClean (s : State) : Line :=
  { s.line with
    state := .gap
    hld := false
    vto := false
    window := none
    sent := []
    checkStreak := if s.drives then 0 else s.line.checkStreak
    cleanRun := if s.drives then s.line.cleanRun else s.line.cleanRun + 1 }

/-- The window w is open, this station holds it no longer, and it is of the clean frame f of another station (R7 to R9). A listening
station is short of the clean run that ends its listening (R13). -/
abbrev State.Hears (s : State) (w : Window) (f : Frame) : Prop :=
  s.receives = true ∧ s.line.state = .settle ∧ s.line.window = some w ∧ s.line.hld = false ∧ w.frame = some f ∧ w.fault = false ∧
    w.malformed = false ∧ w.own = false ∧ w.sender = some f.sender ∧ f.sender ≠ s.straps.id ∧
    (s.life.state = .listenOnly → s.line.cleanRun < 31)

/-- The window w of this station's own frame, the entry at place k of the queue, is open, and this station holds it no longer (R14, R16).
No other entry is in flight. -/
def State.OwnWindow (s : State) (w : Window) (k : Nat) (e : QueueEntry) : Prop :=
  s.drives = true ∧ s.line.state = .settle ∧ s.line.window = some w ∧ s.line.hld = false ∧ w.own = true ∧ w.fault = false ∧
    w.malformed = false ∧ s.queue[k]? = some e ∧ e.inFlight = true ∧
    ∀ (i : Nat) (x : QueueEntry), s.queue[i]? = some x → x.inFlight = true → i = k

/-- The window w of the clean frame f ends, another station's or this station's own (R9, R16): `rest` is the send queue without the frame's own
entry. -/
def State.Ends (s : State) (w : Window) (f : Frame) (rest : List QueueEntry) : Prop :=
  (s.Hears w f ∧ rest = s.queue) ∨
    ∃ k e, s.OwnWindow w k e ∧ e.body = f.body ∧ w.frame = some f ∧ f.sender = s.straps.id ∧ rest = s.queue.eraseIdx k

/-- The station as the window of a TAKEN frame that is no ANNOUNCE and no CENSUS has ended, without what the blocks of its kind do: the line, the
sender's flags in the table, the send queue without the frame's own entry, and at a joining station the stopped condition of a sender that is not
joining (R9, R13, R16, R30, R34; the report of the latter only where the condition was clear, log 75). -/
def State.windowEnded (s : State) (f : Frame) (rest : List QueueEntry) : State :=
  let adopts : Bool := decide (s.life.state = .joining) && !f.joining && f.stopped && !s.stop.stopped
  { s with
    line := s.lineAfterClean
    queue := rest
    table := s.table.modify f.sender fun e => { e with joining := f.joining, attention := f.attention }
    stop := if adopts = true then { s.stop with stopped := true } else s.stop
    port := if adopts = true then s.port.offerReport (.stopped .adopted none none (some f.sender)) else s.port }

/-- The queue as the claim of the serial ends: its PENDING stage and abandon frames leave (R126, R131). -/
def queueAfterClaim (serial : Nat) (q : List QueueEntry) : List QueueEntry :=
  q.filter fun e => e.inFlight ||
    !(match e.body with | .pushStage _ k _ _ => decide (k = serial) | .pushAbandon _ k _ => decide (k = serial) | _ => false)

/-- The port as they leave: STAGE_LATE for each PENDING stage frame, and for each PENDING abandon ABANDON_LATE with its own cause, unless the claim
has ended by a taken abandon (R126, R131), in the order of the queue (log 12). -/
def Port.lateFrames (p : Port) (serial : Nat) (byAbandon : Bool) (q : List QueueEntry) : Port :=
  (q.filterMap fun e => match e.inFlight, e.body with
    | false, .pushStage n k x _ => if k = serial then some (Report.stageLate n k x) else none
    | false, .pushAbandon n k a => if k = serial ∧ byAbandon = false then some (Report.abandonLate n k (.ofCode a)) else none
    | _, _ => none).foldl Port.offerReport p

/-- A report of a bank on its ovens and doors. -/
def Report.ofBank : Report → Bool
  | .ovenState _ _ _ _ _ _ | .doorEvent _ _ _ _ _ | .attention _ _ _ _ => true
  | _ => false

/-- The door x where it enters SEATING if it is in OFF, its latch reads LATCHED and it `may` (R81, R83): a FREE event latch captures the change
(R86). -/
def Door.seatedIf (x : Door) (may : Bool) : Door :=
  if x.sealing = .off ∧ x.latch = .latched ∧ may = true then { x with
    sealing := .seating, ring := List.replicate 8 0, seat := some 0, leaking := none, call := none, called := false, reseal := none
    unlatched := false, held := true
    snapLatch := if x.held = true then x.snapLatch else x.latch
    snapSeal := if x.held = true then x.snapSeal else .seating }
  else x

/-- The door x at the end of a push claim on its oven (R82, R83, R85, R132), `on` and `off` where the frame that ends it is the door-on or
door-off stage of its side, and `seats` where its oven is not FAULTED then: an OFF_EXPECTED watch ends (at a closure log 66), a latched door in
OFF enters SEATING, and a FREE event latch captures the first change of the seal state (R86; of OFF and SEATING log 65). -/
def Door.atClaimEnd (x : Door) (on off seats : Bool) : Door :=
  let watch : Option Mismatch × Bool :=
    if on = true ∧ x.latch = .unlatched then (some ⟨.onExpected, 0⟩, false)
    else if (off = true ∧ x.latch = .latched) ∨ (x.mismatch.map Mismatch.kind = some .offExpected) then (none, false)
    else (x.mismatch, x.mismatched)
  let opened : Bool := off && decide (x.sealing ≠ .off)
  let y : Door :=
    if off then { x with
      sealing := .off, seat := none, leaking := none, call := none, called := false, reseal := none, unlatched := false
      held := x.held || opened
      snapLatch := if x.held = false ∧ opened = true then x.latch else x.snapLatch
      snapSeal := if x.held = false ∧ opened = true then .off else x.snapSeal }
    else x
  { y with mismatch := watch.1, mismatched := watch.2 }.seatedIf (on || seats)

/-- The station is OFF_LINE or in CONFLICT, its line is OFF and drives nothing, and its send queue, its claim records and its stopped
condition are empty (R17, R22, R23, R90, R111, R171). -/
def State.OffTheLine (t : State) : Prop :=
  t.queue = [] ∧ t.line.state = .off ∧ t.line.dat = .released ∧ t.line.hld = false ∧ t.line.vto = false ∧ t.line.window = none ∧
    t.life.census = none ∧ t.life.announce = none ∧ t.life.joinCount = 0 ∧ t.claims.record = none ∧ t.claims.highest = 0 ∧
    t.claims.reseals = List.replicate 4 none ∧ t.claims.highestReseal = 0 ∧ t.stop.stopped = false ∧ t.stop.highest = 0 ∧
    t.stop.note = none ∧ t.stop.mark = none

/-- The state t after LEAVE has taken the station s1 off the line (R22): OFF_LINE, off the line, the table cleared and the configuration kept;
the command is answered ACCEPTED after the reports. With no claim or reseal record open, or at a station that is no bank, these are the dropped
claim (R113) and a STATION_CHANGE for each entry that clearing the table changes (R24, R184), in the order of log 12. -/
def State.Leaves (s1 : State) (table : List Entry) (p : Port) (t : State) : Prop :=
  t.life.state = .offLine ∧ t.OffTheLine ∧ t.table = List.replicate 32 .reset ∧ t.port.hold = none ∧
    t.port.commands = s1.port.commands.tail ∧
    SameBut [.life, .line, .queue, .table, .claims, .stop, .bank, .plan, .machine, .car, .out, .port] s1 t ∧
    ∃ reports : List Report, t.port = { reports.foldl Port.offerReport p with hold := none }.answered .accepted ∧
      ((s1.openClaim = none ∧ s1.openReseals = []) ∨ s1.bankConfig = none →
        reports = (s1.openClaim.map fun c => Report.claimAbandoned c.oven c.serial .dropped c.stages).toList ++
          (List.range table.length).filterMap fun id => (table[id]?).bind fun e =>
            if e.presence = .absent ∧ e.role = none then none else some (.stationChange id .absent none))

/-- What an accepted START or REJOIN does beside holding the configuration, at a station whose table and queue are empty (R20, R24, R28,
R170): its own entry takes its role and range, it is JOINING and SEEKING, it reports and answers ACCEPTED, and one ANNOUNCE waits. With its
STOP input ASSERTED it gives a pulse, and a STOP_NOTE waits behind. The report of its own entry is log 40, the order log 12, and that the reports
stand before the reply log 63. -/
def State.Joins (s : State) (range : Option (Nat × Nat)) (t : State) : Prop :=
  t.life.state = .joining ∧ t.life.joinCount = 0 ∧ t.life.adopted = false ∧ t.life.census = some 0 ∧ t.life.announce = some 0 ∧
    t.line = { Line.reset with state := .seeking, dat := if s.stop.input = true then .stopPulse else .released } ∧
    t.free = (if s.stop.input = true then s.free + 1 else s.free) ∧
    t.table = s.table.modify s.straps.id (fun e => { e with role := some s.role, range := range }) ∧
    t.port = ((s.port.offerReport (.stationChange s.straps.id (s.entry s.straps.id).presence (some s.role))).offerReport
      (.lineState (.station .joining))).answered .accepted ∧
    ∃ payload trailer serial, payload.role = s.role ∧
      t.queue = ⟨.announce payload trailer, false, s.time, 0, false⟩ ::
        (if s.stop.input = true then [⟨.stopNote 1 serial, false, s.time, 0, false⟩] else [])

/-- The station holds no entry of its own role and no frame: what LEAVE and hardware reset leave. -/
abbrev State.OffLineClear (s : State) : Prop :=
  s.life.state = .offLine ∧ s.queue = [] ∧ s.straps.id < s.table.length ∧ (s.entry s.straps.id).role = none

/-- The widths of the fields of a part of START, its part byte the first (R191); none where the role has no such part. -/
def startFields (r : Role) (part : Byte) : Option (List Nat) :=
  match r with
  | .bank =>
    if part = 0#8 then some [1, 1, 2, 1, 1, 1, 2, 2, 2, 2, 2, 2, 2]
    else if part = 1#8 then some [1, 1, 1, 1, 2, 1, 2, 2, 2, 1, 1, 2, 2, 2] else none
  | .pusher => if part = 0#8 then some [1, 1, 2, 1, 1, 1, 1] else none
  | .guide => if part = 0#8 then some [1, 1, 2, 1] else none
  | .quench => if part = 0#8 then some [1, 1, 2, 1, 1, 1, 2] else none

/-- The bytes of the field at a place of a body, the first place 1 (R191). -/
def fieldAt (widths : List Nat) (body : List Byte) (place : Nat) : List Byte :=
  (body.drop (widths.take (place - 1)).sum).take (widths.getD (place - 1) 0)

/-- The field at a place of part 0 of START lies outside its range or breaks a condition written against it (R19, R20, R97): v gives the
fields as numbers, z as signed numbers. -/
def FirstPartFieldBad (r : Role) (v : Nat → Nat) (z : Nat → Int) (place : Nat) : Prop :=
  (place = 2 ∧ (v 2 < 1 ∨ 96 < v 2)) ∨ (place = 3 ∧ (v 3 < 300 ∨ 1800 < v 3)) ∨
  (place = 4 ∧ (7 < v 4 ∨ (r = .pusher ∧ (v 4).testBit 0 = true) ∨ (r ≠ .bank ∧ (v 4).testBit 1 = true))) ∨
  (match r with
    | .bank =>
      (place = 5 ∧ (v 5 < 1 ∨ v 2 < v 5 ∨ v 2 + 1 < v 5 + v 6)) ∨ (place = 6 ∧ (v 6 < 1 ∨ 8 < v 6)) ∨
      (place = 7 ∧ (v 7 < 600 ∨ 1800 < v 7)) ∨ (place = 8 ∧ (v 8 < 1000 ∨ 1400 < v 8)) ∨ (place = 9 ∧ 480 < v 9) ∨
      (place = 10 ∧ 600 < v 10) ∨ (place = 11 ∧ (z 11 < -200 ∨ (v 10 : Int) < z 11)) ∨ (place = 12 ∧ (z 12 < -600 ∨ 200 < z 12)) ∨
      (place = 13 ∧ (v 13 < 120 ∨ 900 < v 13))
    | .pusher =>
      (place = 5 ∧ (v 5 < 2 ∨ 12 < v 5 ∨ v 2 < v 5)) ∨ (place = 6 ∧ (v 6 < 1 ∨ v 5 ≤ v 6 ∨ Nat.gcd (v 6) (v 5) ≠ 1)) ∨
      (place = 7 ∧ 140 < v 7)
    | .guide => False
    | .quench =>
      (place = 5 ∧ (v 5 < 60 ∨ 150 < v 5)) ∨ (place = 6 ∧ (v 6 < 30 ∨ 120 < v 6)) ∨ (place = 7 ∧ (v 7 < 30 ∨ 600 < v 7)))

/-- The field at a place of a bank's part 1 of START lies outside its range or breaks a condition written against it (R19, R20). -/
def SecondPartFieldBad (v : Nat → Nat) (z : Nat → Int) (place : Nat) : Prop :=
  (place = 5 ∧ (z 5 < -3000 ∨ 0 < z 5)) ∨ (place = 6 ∧ 1 < v 6) ∨ (place = 7 ∧ 400 < v 7) ∨ (place = 8 ∧ 400 < v 8) ∨
  (place = 9 ∧ 400 < v 9) ∨ (place = 10 ∧ (v 10 < 1 ∨ 254 < v 10)) ∨ (place = 11 ∧ v 11 ≤ v 10) ∨
  (place = 12 ∧ (v 12 < 30 ∨ 300 < v 12)) ∨ (place = 13 ∧ (v 13 < 60 ∨ 900 < v 13)) ∨ (place = 14 ∧ (v 14 < 120 ∨ 1200 < v 14))

/-- The field at a place of a part of START lies outside its range or breaks a condition written against it. -/
def StartFieldBad (r : Role) (part : Byte) (v : Nat → Nat) (z : Nat → Int) (place : Nat) : Prop :=
  if part = 1#8 then SecondPartFieldBad v z place else FirstPartFieldBad r v z place

/-- The content is these values one after another, each in its width in bytes, low byte first and in two's complement (R191). -/
def Spells (content : List Byte) (fields : List (Nat × Int)) : Prop :=
  content = fields.flatMap fun x => (List.range x.1).map fun k => BitVec.ofInt 8 (x.2 / 256 ^ k)

/-- A field that may hold no value: its presence byte, and then the value or zeros (R191). -/
def optField (width : Nat) (v : Option Int) : List (Nat × Int) := [(1, if v.isSome then 1 else 0), (width, v.getD 0)]

/-- A timer that may be stopped (R191). -/
def optTimer (width : Nat) (t : Option Nat) : List (Nat × Int) := optField width (t.map fun x => (x : Int))

/-- A flag (R191). -/
def flagField (b : Bool) : Nat × Int := (1, if b then 1 else 0)

/-- A move of the car, by its code and its target as a marker (R155, R169). -/
def moveFields (m : Option Move) : List (Nat × Int) :=
  match m with
  | some x => [(1, 1), (1, (x.code : Int)), (1, (x.target : Int))]
  | none => [(1, 0), (2, 0)]

/-- The ready wish of the car x for the OPEN claim c (R162). -/
abbrev Car.wishesReady (x : Car) (c : Claim) : Prop :=
  c.stages.carLoaded = false ∧ x.marker = c.oven ∧ ((x.state = .spotted ∧ x.load = .none) ∨ x.state = .loading)

/-- The ready wish, as a truth value. -/
def Car.readyWish (x : Car) (c : Claim) : Bool := decide (x.wishesReady c)

/-- The ready wish for the OPEN claim c (R162). -/
abbrev State.wishesReady (s : State) (c : Claim) : Prop := s.car.wishesReady c

/-- A PUSH_STAGE for the serial, the stage code and the revoke flag. -/
def Body.ofStage (serial code : Nat) (revoke : Bool) : Body → Bool
  | .pushStage _ k x r => decide (k = serial ∧ x = code ∧ r = revoke)
  | _ => false

/-- A PUSH_ABANDON for the serial. -/
def Body.ofAbandon (serial : Nat) : Body → Bool
  | .pushAbandon _ k _ => decide (k = serial)
  | _ => false

/-- What stands after a row has changed the car: the car record, the send queue and the port. -/
structure CarOffers where
  car   : Car
  queue : List QueueEntry
  port  : Port
  deriving DecidableEq, Repr

/-- A frame that the car unit offers for the OPEN claim (R15): ON_LINE and with room in the send queue it is PENDING at its tail; else it is refused,
and `missed` becomes of the car. -/
def CarOffers.offer (x : CarOffers) (s : State) (b : Body) (missed : Car → Car) : CarOffers :=
  if s.life.state = .onLine ∧ x.queue.length < 8 then { x with queue := x.queue ++ [⟨b, false, s.time, 0, false⟩] }
  else { x with car := missed x.car, port := x.port.offerReport (.frameRefused b) }

/-- The ready wish compared with CAR_READY in the claim c (R126, R162): with a CAR_READY frame of the claim in the queue, a PENDING one opposite to
the wish leaves; else, where wish and record differ and CAR_LOADED is clear, the set or the revoke is offered, and with the station not ON_LINE,
or where the frame is not queued, the ready retry timer starts. -/
def CarOffers.wishing (x : CarOffers) (s : State) (c : Claim) (wish : Bool) : CarOffers :=
  if x.queue.any (fun e => e.body.ofStage c.serial 9 false || e.body.ofStage c.serial 9 true) then
    { x with queue := x.queue.filter fun e => e.inFlight || !e.body.ofStage c.serial 9 wish }
  else if wish = c.stages.carReady ∨ c.stages.carLoaded = true then x
  else if s.life.state = .onLine then
    x.offer s (.pushStage c.oven c.serial 9 (!wish)) fun car => { car with readyTimer := some 0 }
  else { x with car := { x.car with readyTimer := some 0 } }

/-- The car compares its wish with the OPEN claim of s, if there is one (R162). -/
def CarOffers.compared (x : CarOffers) (s : State) : CarOffers :=
  match s.openClaim with
  | none => x
  | some c => x.wishing s c (x.car.readyWish c)

/-- PUSH_ABANDON (CAR_FAULT) for the OPEN claim of s (R167), unless one for it is in the queue. -/
def CarOffers.abandoning (x : CarOffers) (s : State) : CarOffers :=
  match s.openClaim with
  | none => x
  | some c =>
    if x.queue.any (fun e => e.body.ofAbandon c.serial) then x
    else x.offer s (.pushAbandon c.oven c.serial 3) id

/-- A PUSH_STAGE that is TAKEN has made `out` of the OPEN claim r at a QUENCH station (R124): with the stage, the machine unit is m and the car
record, the send queue and the port are x; where it is the eighth permanent one, the claim then closes, with its report, and its PENDING frames
leave, late (R125, R126, R131). -/
def State.StageStands (s t : State) (r out : Claim) (x : CarOffers) (m : MachineUnit) : Prop :=
  SameBut [.queue, .claims, .machine, .car, .out, .port] s t ∧ t.car = x.car ∧
    if r.stages.complete = false ∧ out.stages.complete = true then
      t.claims = { s.claims with record := some { out with ending := .closed }, retry := none } ∧
        t.machine = { m with revokeOwed := none, revokeTimer := none, setWanted := none } ∧
        t.queue = queueAfterClaim out.serial x.queue ∧
        t.port = (x.port.offerReport (.claimClosed out.oven out.serial out.timer)).lateFrames out.serial false x.queue
    else t.claims = { s.claims with record := some out } ∧ t.machine = m ∧ t.queue = x.queue ∧ t.port = x.port

/-- In t the car record, the send queue and the port are x, the reply of a command last (log 63), and the rest is as in s. -/
def State.CarStands (s t : State) (x : CarOffers) (reply : Port → Port) : Prop :=
  SameBut [.queue, .car, .out, .port] s t ∧ t.car = x.car ∧ t.queue = x.queue ∧ t.port = reply x.port

/-- The car record becomes c and the port p, the wish is compared with CAR_READY (R162), a FRAME_REFUSED behind the reports of p (log 12) and a ready
retry timer that runs starting again (log 60), and the command, if one is executed, is answered. -/
def State.CarBecomes (s t : State) (c : Car) (p : Port) (reply : Port → Port := id) : Prop :=
  s.CarStands t (CarOffers.compared ⟨c, s.queue, p⟩ s) reply

/-- What stands after a guide has come to owe a revoke: its machine unit, the send queue and the port. -/
structure RevokeOffers where
  machine : MachineUnit
  queue   : List QueueEntry
  port    : Port
  deriving DecidableEq, Repr

/-- What the revoke that the machine unit m owes for the OPEN claim c makes of the send queue of s (R15, R126, R141, R143): a revoke stands, and a
set in flight is waited out; a PENDING set leaves and nothing is offered (log 79); with no GUIDE_SET frame of the claim there the revoke is
offered, and where the station is not ON_LINE or the queue is full it is refused and the retry timer starts. -/
def State.revokeOffers (s : State) (c : Claim) (m : MachineUnit) : RevokeOffers :=
  let revoke := Body.pushStage c.oven c.serial 8 true
  if s.queue.any fun e => e.body.ofStage c.serial 8 true || (e.inFlight && e.body.ofStage c.serial 8 false) then ⟨m, s.queue, s.port⟩
  else if s.queue.any fun e => e.body.ofStage c.serial 8 false then
    ⟨{ m with revokeTimer := some 0 }, s.queue.filter fun e => !e.body.ofStage c.serial 8 false, s.port⟩
  else if s.life.state = .onLine ∧ s.queue.length < 8 then
    ⟨{ m with revokeTimer := none }, s.queue ++ [⟨revoke, false, s.time, 0, false⟩], s.port⟩
  else ⟨{ m with revokeTimer := some 0 }, s.queue, s.port.offerReport (.frameRefused revoke)⟩

/-! ## Frames that keep their ranges -/

/-- A payload in range (R29, R187). -/
def Payload.InRange : Payload → Prop
  | .bank first sums => first < 256 ∧ 1 ≤ sums.length ∧ sums.length ≤ 8
  | .pusher next cycle pass pos => next < 256 ∧ cycle < 65536 ∧ pass < 256 ∧ pos < 256
  | .guide pos len oven side => pos < 256 ∧ len < 256 ∧ oven < 256 ∧ side < 256
  | .quench st marker load head => st < 256 ∧ marker < 256 ∧ load < 256 ∧ head < 256

/-- A body whose fields fit their bytes (R187). -/
def Body.InRange : Body → Prop
  | .census => True
  | .announce p t => p.InRange ∧ t.oven < 256 ∧ t.serial < 256
  | .mainPressure p q => -32768 ≤ p ∧ p < 32768 ∧ q < 256
  | .charged n => n < 256
  | .pushClaim n c _ => n < 256 ∧ c < 256
  | .pushStage n c x _ => n < 256 ∧ c < 256 ∧ x < 256
  | .pushAbandon n c a => n < 256 ∧ c < 256 ∧ a < 256
  | .resealCall n j => n < 256 ∧ j < 256
  | .resealClaim n j r => n < 256 ∧ j < 256 ∧ r < 256
  | .resealDone n j r o => n < 256 ∧ j < 256 ∧ r < 256 ∧ o < 256
  | .stopNote a r => a < 256 ∧ r < 256
  | .resume r => r < 256

/-- A frame whose fields fit their characters (R185). -/
def Frame.InRange (f : Frame) : Prop := f.priority < 8 ∧ f.sender < 32 ∧ f.body.InRange

/-- Characters as a receiver reads them without a framing error. -/
def asReceived (cs : List Byte) : List RxChar := cs.map fun c => ⟨c, false⟩

/-- The census field as DAT carries it: in each bit, dominant (0) where any station drives it dominant (R1, R4). Each station is given by
its id and whether its attention condition is raised. -/
def wiredCensus (stations : List (Nat × Bool)) : List Byte :=
  (List.range 8).map fun q => stations.foldl (fun c x => c &&& censusDrive x.1 x.2 q) (~~~0#8)

/-! ## What holds whatever rows take place -/

/-- The outputs are what R145, R146 and R154 give. -/
def State.OutputsSound (s : State) : Prop :=
  (s.out.ram = true ↔
    s.role = .pusher ∧ s.life.state = .onLine ∧ s.stop.stopped = false ∧ s.machine.chain = true ∧
      ∃ c, s.claims.record = some c ∧ c.ending = .opened ∧ c.oven = s.machine.position ∧ c.stages.isolated = true ∧
        c.stages.psDoorOff = true ∧ c.stages.csDoorOff = true ∧ c.stages.guideSet = true ∧ c.stages.carReady = true ∧
        c.stages.ramHome = false) ∧
  (s.out.extractor = true ↔
    ∃ j : Side, s.role = j.role ∧ s.life.state = .onLine ∧ s.stop.stopped = false ∧ s.machine.chain = true ∧
      ((∃ c, s.claims.record = some c ∧ c.ending = .opened ∧ c.oven = s.machine.position ∧ c.stages.isolated = true ∧
          c.stages.has j.doorOn = false) ∨
        ∃ r, some r ∈ s.claims.reseals ∧ r.ending = .opened ∧ r.oven = s.machine.position ∧ r.side = j)) ∧
  (s.out.travel = true ↔
    s.role = .quench ∧ s.config ≠ none ∧ s.car.state = .travelling ∧ s.stop.stopped = false ∧ s.car.chain = true) ∧
  (s.out.spray = true ↔ s.role = .quench ∧ s.config ≠ none ∧ s.car.state = .quenching) ∧
  (s.out.gate = true ↔
    s.role = .quench ∧ s.config ≠ none ∧ s.car.state = .dumping ∧ s.stop.stopped = false ∧ s.car.chain = true)

/-- R1, R3, R8, R10, R13, R18: what the line interface drives, and which line state goes with a window, a stop run and a sending drive. -/
def State.LineSound (s : State) : Prop :=
  (s.drives = false → s.line.dat = .released ∧ s.line.hld = false ∧ s.line.vto = false) ∧
  (s.line.state = .off ↔ s.life.state = .offLine ∨ s.life.state = .conflict) ∧
  (∀ w, s.line.window = some w → s.line.state = .settle ∨ s.line.state = .blocked ∨ s.line.state = .stopRun ∧ w.vetoRead = true) ∧
  (s.line.state = .settle → s.line.window ≠ none) ∧
  (s.line.run ≠ none ↔ s.line.state = .stopRun) ∧
  (s.line.dat = .frame → s.line.state = .sending) ∧
  (s.line.hld = true ∨ s.line.vto = true → s.line.window ≠ none) ∧
  s.line.checkStreak ≤ 8 ∧ s.line.cleanRun ≤ 32

/-- R14: the send queue. -/
def State.QueueSound (s : State) : Prop :=
  s.queue.length ≤ 8 ∧ (s.queue.filter QueueEntry.inFlight).length ≤ 1 ∧ (∀ e ∈ s.queue, e.retries ≤ 2) ∧
  ((∃ e ∈ s.queue, e.inFlight = true) → s.line.state = .sending ∨ ∃ w, s.line.window = some w ∧ w.own = true)

/-- R178, R179, R180, R182, R183: the local port. -/
def State.PortSound (s : State) : Prop :=
  s.port.commands.length ≤ 4 ∧ s.port.replies.length ≤ 8 ∧ s.port.reports.length ≤ 16 ∧
  (s.port.tx = none → s.port.replies = [] ∧ s.port.reports = []) ∧ (s.port.hold ≠ none → s.port.commands ≠ []) ∧
  (∀ k n got, s.port.rx = .body k n got → got.length ≤ n ∧ n ≤ 32)

/-- R24, R26, R90: the station table and the reseal claim records. -/
def State.TablesSound (s : State) : Prop :=
  s.table.length = 32 ∧ (∀ e ∈ s.table, e.missed ≤ 3 ∧ e.age ≤ 65535 ∧ (e.presence = .present → e.missed ≤ 2)) ∧
  s.claims.reseals.length = 4

/-- R35, R36, R37, R41, R45: an oven record. -/
def Oven.Sound (o : Oven) : Prop :=
  o.credit ≤ 16777215 ∧ o.minutes ≤ 4095 ∧ o.stamp ≤ 65535 ∧ o.tempAge ≤ 65535 ∧ (∀ t, o.temp = some t → 700 ≤ t ∧ t ≤ 1500) ∧
  (o.overcoked = true ↔ o.readiness = .overcoked) ∧ (o.faulted = true ↔ o.state = .faulted) ∧
  (o.state ≠ .coking → o.state ≠ .claimed → o.readiness = .notReady ∧ o.minutes = 4095) ∧
  (o.state = .empty ∨ o.state = .outOfService → o.credit = 0 ∧ o.stamp = 0) ∧ (o.held ≠ none → o.state = .held)

/-- R53, R56, R57, R64, R65, R68, R70, R73, R75: a regulating loop. -/
def Loop.Sound (l : Loop) : Prop :=
  l.ring.length = 4 ∧ (∀ x ∈ l.ring, -2500 ≤ x.value ∧ x.value ≤ 2498) ∧ -2500 ≤ l.pf ∧ l.pf ≤ 2498 ∧
  (∀ v, l.u = some v → 0 ≤ v ∧ v ≤ 1000) ∧ (∀ v, l.driven = some v → 0 ≤ v ∧ v ≤ 1000) ∧
  (∀ v, l.target = some v → 0 ≤ v ∧ v ≤ 1000) ∧ 0 ≤ l.a ∧ l.a ≤ 16000 ∧ l.zero ≤ 10 ∧ (l.mode = .isolating → l.zero ≤ 9) ∧
  (l.lost = true ↔ ∀ x ∈ l.ring, x.quality ≠ .good) ∧ (l.lostTimer ≠ none ↔ l.lost = true) ∧ (l.attention = true → l.lost = true) ∧
  (l.charge ≠ none ↔ l.mode = .charge) ∧ (l.target ≠ none ↔ l.mode = .manual) ∧
  (l.mode = .released → l.u = none ∧ l.driven = none ∧ l.a = 0) ∧ l.watch ≤ 150

/-- R77, R81, R84, R85, R88, R93: a door record. -/
def Door.Sound (x : Door) : Prop :=
  x.ring.length = 8 ∧ (∀ v ∈ x.ring, v ≤ 255) ∧ (x.seat ≠ none ↔ x.sealing = .seating ∧ x.latch = .latched) ∧
  (x.leaking ≠ none → x.sealing = .leaking ∧ x.latch = .latched) ∧ (x.call ≠ none → x.called = true) ∧
  (x.called = true → x.sealing = .leaking) ∧ (x.reseal ≠ none ↔ x.sealing = .resealing) ∧
  (x.unlatched = true ↔ x.sealing = .unlatchedUnexpected) ∧ (x.mismatched = true → x.mismatch ≠ none)

/-- The records of a bank. -/
def State.BankSound (s : State) : Prop :=
  (∀ o ∈ s.bank.ovens, o.Sound) ∧ (∀ l ∈ s.bank.loops, l.Sound) ∧ (∀ x ∈ s.bank.doors, x.Sound) ∧ s.bank.mainAge ≤ 65535

/-- R97 to R103: the plan record. -/
def Plan.Sound (p : Plan) : Prop :=
  strideOk p.ovens p.stride = true ∧ stepOk p.stride p.step = true ∧
  (∀ a b, p.staged = some (a, b) → strideOk p.ovens a = true ∧ stepOk a b = true) ∧ p.cycle ≤ 65535 ∧ p.pass < p.stride ∧
  p.cursor ≤ p.ovens ∧ p.marks.length = p.ovens ∧ p.deferred.length ≤ 8 ∧ p.deferred.Nodup ∧
  (∀ o ∈ p.deferred, 1 ≤ o ∧ o ≤ p.ovens ∧ p.mark o = .unpushed) ∧ p.shown ≤ p.ovens

/-- The plan record, where one is held. -/
def State.PlanSound (s : State) : Prop := ∀ p, s.plan = some p → p.Sound

/-- R89, R141, R142: the machine unit. A guide that owes a revoke wants no set. -/
def State.MachineSound (s : State) : Prop :=
  s.machine.queue.length ≤ 4 ∧ s.machine.queue.Nodup ∧ (s.machine.revokeTimer ≠ none → s.machine.revokeOwed ≠ none) ∧
    (s.machine.revokeOwed ≠ none → s.machine.setWanted = none)

/-- R153 to R155, R160, R165: the car record. -/
def Car.Sound (c : Car) : Prop :=
  (c.queue.map Move.code).Nodup ∧ c.queue.length ≤ 4 ∧ (c.moveTimer ≠ none ↔ c.state = .travelling) ∧
  (c.state = .travelling → c.move ≠ none) ∧ (c.phase ≠ none ↔ c.state = .quenching ∨ c.state = .draining) ∧
  (c.fault = true ↔ c.state = .fault) ∧ c.loads ≤ 65535

end Sys2Proof.Machine
end

