-- ==== Sys2Proof/Certificates/Slice0/Obligations.lean ====
section
/-! DEFINITION. The statements for the provers, rule by rule. A row's result is stated as the state that `exec` answers; where a row
lets a timer run out, it is stated against the state in which the remaining time has passed (log 2). `OutputsSound` stands as a premise
where the outputs stay as they are. -/

open Sys2Proof Sys2Proof.Machine

/-! ## The whole machine -/

/-- 95: every row of the table is one whole step. The row at the front of the queue takes place on the station with the rest of the
queue. -/
def Obligations.StepRunsFrontRow : Prop :=
  ∀ (c : Instr) (rest : List Instr) (s : State), step { s with pending := c :: rest } = exec c { s with pending := rest }

/-- The model's choice (log 1): on an empty queue one millisecond of the timebase passes. Ages saturate (R24, R60) and a running timer
stands at its limit until its expiry is run (log 4): R10, R11, R25, R28, R41, R44, R55, R57, R61, R68, R81, R85, R88, R103, R128, R141, R162,
R165, R171, R176, R180. What a battery stop pauses stands still (R90, R96, R127, R160). A stop pulse of its own is over (R18, log 49), and
what the model keeps of an owed RESEAL_DONE is log 32. -/
def Obligations.EmptyQueuePassesOneMillisecond : Prop :=
  ∀ (s : State) (run : Nat → Option Nat → Option Nat), s.pending = [] → (∀ limit, run limit none = none) →
    (∀ limit x, run limit (some x) = some (min (x + 1) limit)) →
    ∃ t, step s = .next t ∧
      SameBut [.life, .time, .line, .table, .claims, .stop, .bank, .plan, .machine, .car, .port] s t ∧
      t.time = (s.time + 1) % 4294967296 ∧
      t.life = { s.life with census := run (1000 + 10 * s.straps.id) s.life.census, announce := run 2000 s.life.announce } ∧
      t.table = s.table.map (fun e => { e with age := min (e.age + 1) 65535 }) ∧
      t.line = { s.line with
        dat := if s.line.dat = .stopPulse then .released else s.line.dat
        window := s.line.window.map fun w => { w with timer := min (w.timer + 1) 100 }
        run := run 1000 s.line.run } ∧
      t.stop = { s.stop with mark := s.stop.mark.map (run 2000) } ∧
      t.plan = s.plan.map (fun p => { p with timer := run 500 p.timer }) ∧
      t.machine = { s.machine with revokeTimer := run 1000 s.machine.revokeTimer } ∧
      t.port = { s.port with
        hold := s.port.hold.map fun h => match h with
          | .leave x => .leave (min (x + 1) 500)
          | .abandon x => .abandon (min (x + 1) 500) } ∧
      t.claims = { s.claims with
        retry := run 1000 s.claims.retry
        record := s.claims.record.map fun c =>
          if s.stop.stopped = false ∧ c.ending = .opened then { c with timer := min (c.timer + 1) s.pushLimit } else c
        reseals := s.claims.reseals.map (Option.map fun r =>
          if s.stop.stopped = true then r
          else { r with
            timer := if r.ending = .opened then min (r.timer + 1) 2400000 else r.timer, owed := run s.resealLimit r.owed }) } ∧
      (∀ p0 p1 n limit m, s.config = some ⟨n, limit, m, .bank p0 p1⟩ →
        t.bank = { s.bank with
          ovens := s.bank.ovens.map fun o => { o with held := run (1000 * p1.seat) o.held }
          loops := s.bank.loops.map fun l => { l with
            watch := min (l.watch + 1) 150, lostTimer := run 30000 l.lostTimer, charge := run (1000 * p0.chargeTime) l.charge }
          doors := s.bank.doors.map fun x => { x with
            seat := run (1000 * p1.seat) x.seat
            leaking := run (1000 * p1.leakDelay) x.leaking
            call := run 600000 x.call
            reseal := if s.stop.stopped = true then x.reseal else run (1000 * p1.resealLimit) x.reseal
            mismatch := x.mismatch.map fun w => { w with timer := min (w.timer + 1) 10000 } }
          mainAge := min (s.bank.mainAge + 1) 65535
          mainTimer := run 1000 s.bank.mainTimer
          tick := run 60000 s.bank.tick }) ∧
      (s.bankConfig = none → t.bank = s.bank) ∧
      (∀ quench drain move n limit m, s.config = some ⟨n, limit, m, .quench ⟨quench, drain, move⟩⟩ →
        t.car = { s.car with
          moveTimer := if s.stop.stopped = true then s.car.moveTimer else run (1000 * move) s.car.moveTimer
          phase := run (1000 * (if s.car.state = .quenching then quench else drain)) s.car.phase
          readyTimer := run 1000 s.car.readyTimer }) ∧
      (s.carConfig = none → t.car = s.car)

/-- 95: each row leads to a next state, and none touches the queue of rows. The straps are read at hardware reset only (R19), and a
configuration once held stands until it (R20). -/
def Obligations.EveryRowAnswersAndKeepsConfiguration : Prop :=
  (∀ (i : Instr) (s : State), ∃ t, exec i s = .next t ∧ t.pending = s.pending) ∧
    ∀ (i : Instr) (s t : State), (∀ id role line port input, i ≠ .hardwareReset id role line port input) → exec i s = .next t →
      t.straps = s.straps ∧ ∀ c, s.config = some c → t.config = some c

/-- R19, R24, R138, R153, R171, R184: HARDWARE_RESET reads the straps once, with the role by its code, and every other field takes its
reset value. The model's own choices: the clock returns to zero with the rest (log 5), the draw counter of the free values stays (log 13), and
so do the rows that wait (log 1). -/
def Obligations.HardwareResetValues : Prop :=
  (∀ (id : BitVec 5) (role line port : BitVec 2) (input : Bool) (s : State),
    exec (.hardwareReset id role line port input) s =
      .next { State.reset with
        straps := ⟨id.toNat, Role.ofStrap role, line.toNat, port.toNat⟩
        stop := { input := input, stopped := false, highest := 0, note := none, mark := none }
        free := s.free
        pending := s.pending }) ∧
    Role.ofStrap 0#2 = .bank ∧ Role.ofStrap 1#2 = .pusher ∧ Role.ofStrap 2#2 = .guide ∧ Role.ofStrap 3#2 = .quench ∧
    State.reset.config = none ∧ State.reset.life.state = .offLine ∧ State.reset.line.state = .off ∧
    State.reset.line.dat = .released ∧ State.reset.line.hld = false ∧ State.reset.line.vto = false ∧ State.reset.queue = [] ∧
    State.reset.table = List.replicate 32 ⟨.absent, none, 0, false, none, 65535, none, false⟩ ∧
    State.reset.claims.record = none ∧ State.reset.claims.highest = 0 ∧ State.reset.claims.reseals = List.replicate 4 none ∧
    State.reset.claims.highestReseal = 0 ∧ State.reset.claims.veto = none ∧ State.reset.bank.ovens = [] ∧ State.reset.bank.loops = [] ∧
    State.reset.bank.doors = [] ∧ State.reset.bank.main = none ∧ State.reset.plan = none ∧
    State.reset.machine = ⟨0, false, [], none, none, none, none⟩ ∧
    State.reset.car = ⟨.idle, 0, .none, none, none, none, 0, [], false, 0, none, false⟩ ∧
    State.reset.out = ⟨false, false, false, false, false⟩ ∧ State.reset.port = ⟨.hunt, [], [], [], false, none, none⟩

/-- The state after reset meets every invariant that the rows keep. -/
def Obligations.ResetMeetsInvariants : Prop :=
  State.reset.OutputsSound ∧ State.reset.LineSound ∧ State.reset.QueueSound ∧ State.reset.PortSound ∧ State.reset.TablesSound ∧
    State.reset.BankSound ∧ State.reset.PlanSound ∧ State.reset.MachineSound ∧ State.reset.car.Sound

/-- R144 to R146, R154: whatever rows take place, each permit and output stands exactly while its conditions hold. -/
def Obligations.OutputsStaySound : Prop := ∀ s t : State, s.OutputsSound → step s = .next t → t.OutputsSound

/-- R1, R3, R8, R10, R13, R18: a station that is not JOINING or ON_LINE drives nothing; the line is OFF exactly in OFF_LINE and CONFLICT;
a window stands in SETTLE and BLOCKED, and in a stop run once its outcome is sampled (log 48); HLD and VTO are driven in a window only; the fault
counters keep their limits. R14, R16: the send queue keeps at most eight entries, at most one of them in flight and only while its frame is
being sent or in its window, and no retry count passes two. -/
def Obligations.LineAndSendQueueStaySound : Prop :=
  (∀ s t : State, s.LineSound → step s = .next t → t.LineSound) ∧
    ∀ s t : State, s.LineSound → s.QueueSound → step s = .next t → t.QueueSound

/-- R178 to R183: the local port's queues keep their sizes, a free transmitter leaves no message waiting, and the command that holds
execution stands in the buffer. -/
def Obligations.PortStaysSound : Prop := ∀ s t : State, s.PortSound → step s = .next t → t.PortSound

/-- R24, R26, R90: the station table keeps its 32 entries with their ranges, and the tracker its four reseal records. R35 to R48, R53 to
R75, R77 to R93: the oven records, the loops (valve outputs in 0..1000, integral in 0..16000, filtered pressure in −2500..2498) and the
door records keep their ranges and the relations between their fields. -/
def Obligations.TablesAndBankStaySound : Prop :=
  (∀ s t : State, s.TablesSound → step s = .next t → t.TablesSound) ∧ ∀ s t : State, s.BankSound → step s = .next t → t.BankSound

/-- R97 to R103: the plan record keeps its ranges: a stride and pass step that the rules allow, a cursor on an oven, at most eight deferred ovens,
each of them UNPUSHED and listed once. R89, R141, R142: the reseal queue keeps four ovens at most, each once, the revoke retry timer runs only for
an owed revoke, and a guide that owes a revoke wants no set (how long it wants one is log 80). R153, R155, R160, R165: the car's move queue holds
each kind of move at most once, its timers run exactly in their states, and CAR_FAULT stands exactly in FAULT. -/
def Obligations.PlanMachineAndCarStaySound : Prop :=
  (∀ s t : State, s.PlanSound → step s = .next t → t.PlanSound) ∧ (∀ s t : State, s.MachineSound → step s = .next t → t.MachineSound) ∧
    ∀ s t : State, s.car.Sound → step s = .next t → t.car.Sound

/-! ## Characters and messages -/

/-- R2, R4, R26, R185 to R188, R190: the characters of a frame, received without a framing error, are received cleanly and spell that frame; for
a CENSUS frame, with a census field whose two copies agree. On DAT a character takes ten bits, a dominant start bit, the data bits least
significant first (in the contention character most significant first) and a recessive stop bit; read back they are the characters, and
ten bits in a row are never all dominant. One wrong bit in any one character is a reception fault, whatever frame it is. In
the census field that DAT carries, the slot of an id reads PRESENT exactly where some station with the id drives it, and ATTENTION exactly where
one of them has its attention condition raised. -/
def Obligations.LineCodingReadsBack : Prop :=
  (∀ (f : Frame) (field : List Byte), f.InRange → (f.body = .census → field.length = 8) →
    Frame.ofChars f.chars = some f ∧ f.chars.length ≤ 20 ∧
      receptionFault ⟨asReceived f.chars, asReceived (if f.body = .census then field ++ field else []), false⟩ = false) ∧
  (∀ (first : Byte) (rest : List Byte) (bits : List Bool),
    bits = false :: ([first.getLsbD 7, first.getLsbD 6, first.getLsbD 5, first.getLsbD 4,
        first.getLsbD 3, first.getLsbD 2, first.getLsbD 1, first.getLsbD 0, true] ++
      rest.flatMap fun c => [false, c.getLsbD 0, c.getLsbD 1, c.getLsbD 2, c.getLsbD 3, c.getLsbD 4, c.getLsbD 5,
        c.getLsbD 6, c.getLsbD 7, true]) →
    lineBits (first :: rest) = bits ∧ readChars (rest.length + 1) true bits = asReceived (first :: rest) ∧
      ∀ k, k + 10 ≤ bits.length → true ∈ (bits.drop k).take 10) ∧
  (∀ (contention : Bool) (bits : List Bool), bits.length = 10 → ((readChar contention bits).framing = true ↔ bits.getLast? = some false)) ∧
  (∀ (f : Frame) (k bit : Nat) (h : k < f.chars.length), f.InRange → bit < 8 →
    receptionFault ⟨asReceived (f.chars.set k (f.chars[k] ^^^ (1#8 <<< bit))), [], false⟩ = true) ∧
  ∀ (stations : List (Nat × Bool)) (id : Nat), (∀ x ∈ stations, x.1 < 32) → id < 32 →
    (slotPresent (wiredCensus stations) id = true ↔ ∃ a, (id, a) ∈ stations) ∧
      (slotAttention (wiredCensus stations) id = true ↔ (id, true) ∈ stations)

/-- R190, whole: the CRC-8 starts at 0 and takes each character by an exclusive-or and eight shift steps with 0x07; the contention
character's value is priority × 32 + id; the value after the last character is the check character, and a receiver whose own result differs
from the received one has a reception fault. Worked out: the check character of C0 00 00 is 8D; a CENSUS of station 0 that is JOINING begins C0
80 00; a PUSH_STAGE of station 2 begins 22 25 04 (R185); READ_STATUS part 0 is C5 1A 01 00 E5 (R191). -/
def Obligations.CheckCharacterRule : Prop :=
  crc8 [] = 0#8 ∧
    (∀ (cs : List Byte) (x : Byte), ∃ v : Nat → Byte, v 0 = crc8 cs ^^^ x ∧
      (∀ k, k < 8 → v (k + 1) = (v k <<< 1) ^^^ (if 128 ≤ (v k).toNat then 0x07#8 else 0x00#8)) ∧ crc8 (cs ++ [x]) = v 8) ∧
    (∀ f : Frame, f.chars = f.head ++ [crc8 f.head] ∧ f.head.head? = some (byte (f.priority * 32 + f.sender))) ∧
    (∀ (rx : Reception) (cs : List Byte) (check : Byte), rx.chars.map RxChar.value = cs ++ [check] → check ≠ crc8 cs →
      receptionFault rx = true) ∧
    crc8 [0xC0#8, 0x00#8, 0x00#8] = 0x8D#8 ∧
    (⟨6, 0, false, false, false, true, .census⟩ : Frame).head = [0xC0#8, 0x80#8, 0x00#8] ∧
    (⟨1, 2, false, true, false, false, .pushStage 3 9 3 false⟩ : Frame).head = [0x22#8, 0x25#8, 0x04#8, 0x03#8, 0x09#8, 0x03#8, 0x00#8] ∧
    messageBytes 0x1A#8 [0x00#8] = [0xC5#8, 0x1A#8, 0x01#8, 0x00#8, 0xE5#8]

/-! ## The battery line -/

/-- R3, R7, R9, R11: the idle gap, a wire asserted in IDLE, another station's start bit and a void frame move the line state and nothing else. HLD
or VTO asserted for 100 ms blocks a line in GAP or IDLE, and a SETTLE window with its frame stays with the blocked line: where HOLD_TIMEOUT has
not come before, a station that still holds gives it on the way, and at any other HLD came free earlier: the outcome will be VETOED, and the
station frees its own VTO; on the BLOCKED line it samples so as HLD comes free. When both wires read free the line is in GAP again, with the
frame's outcome handed on. Both are reported as LINE_STATE. In a window the remaining time passes first (log 2); in GAP and IDLE the 100 ms are
not counted, nor are the bit times of the idle gap and of a void frame (log 6); that a row without HOLD_TIMEOUT before it tells that HLD came
free, and the outcome sampled then, is log 48; the station's own VTO drive counts (log 7). Of the HOLD_TIMEOUT that comes on the way: it is
recorded and reported as VTO is asserted (log 10), also over a veto cast before, whose verdict the window keeps (log 11); kind, sender and oven 0
of a faulty frame are log 30, and that an ANNOUNCE and a malformed frame without a body name no oven is log 67. That a verdict which the station's
own stop pulse kept from being cast is reported as its cause is log 78. -/
def Obligations.IdleAndBlockedLineRows : Prop :=
  (∀ s : State, s.OutputsSound →
    (s.line.dat = .released → s.line.state = .seeking ∨ s.line.state = .gap →
      exec .idleGapComplete s = .next { s with line := { s.line with state := .idle } }) ∧
    (s.line.state = .idle → exec .holdOrVetoAssertedInIdle s = .next { s with line := { s.line with state := .gap } }) ∧
    (s.line.dat = .released → s.line.state = .gap ∨ s.line.state = .idle →
      exec .otherStartBit s = .next { s with line := { s.line with state := .receiving } }) ∧
    (s.line.state = .receiving → exec .voidFrame s = .next { s with line := { s.line with state := .idle } })) ∧
  ∀ s : State,
    (s.OutputsSound → s.line.state = .gap ∨ s.line.state = .idle →
      exec .lineBlocked s = .next { s with
        line := { s.line with state := .blocked }
        port := s.port.offerReport (.lineState .blocked) }) ∧
    (∀ w s1, s.line.state = .settle → s.line.window = some w → w.timer ≤ 100 → s1 = s.elapse (100 - w.timer) →
      (w.timedOut = true →
        ∃ t, exec .lineBlocked s = .next t ∧ SameBut [.line, .out, .port] s1 t ∧
          t.line = { s1.line with state := .blocked, window := some { w with timer := 100 } } ∧
          t.port = s1.port.offerReport (.lineState .blocked)) ∧
      (w.timedOut = false → s.line.hld = false →
        ∃ t, exec .lineBlocked s = .next t ∧ SameBut [.line, .out, .port] s1 t ∧
          t.line = { s1.line with state := .blocked, vto := false, window := some { w with timer := 100, vetoRead := true } } ∧
          t.port = s1.port.offerReport (.lineState .blocked)) ∧
      (∀ v, w.timedOut = false → s.line.hld = true → s.drives = true → w.timer ≤ 25 →
        v = ⟨w.kind, w.sender, .holdTimeout, (w.frame.map fun f => f.body.oven).getD 0, (s.elapse (25 - w.timer)).time⟩ →
        ∃ t, exec .lineBlocked s = .next t ∧ SameBut [.line, .claims, .out, .port] s1 t ∧
          t.line = { s1.line with
            state := .blocked
            hld := false
            vto := true
            window := some { w with
              timer := 100, verdict := if w.cast = true then w.verdict else .veto .holdTimeout, cast := true, holdDone := true
              timedOut := true } } ∧
          t.claims = { s1.claims with veto := some v } ∧
          t.port = (s1.port.offerReport (.vetoGiven v)).offerReport (.lineState .blocked))) ∧
    (∀ w vto, s.OutputsSound → s.line.state = .blocked → s.line.window = some w → w.vetoRead = false → s.line.hld = false →
      (vto = true ∨ s.line.vto = true →
        exec (.settleOutcome vto) s = .next { s with
          line := { s.line with vto := false, window := some { w with vetoRead := true } } }) ∧
      (vto = false → s.line.vto = false → exec (.settleOutcome vto) s = .next s)) ∧
    (∀ vto, s.OutputsSound → s.line.state = .blocked → s.line.window = none →
      exec (.blockedCleared vto) s = .next { s with
        line := { s.line with state := .gap }
        port := s.port.offerReport (.lineState (.station s.life.state)) }) ∧
    (∀ w f vto, s.OutputsSound → s.receives = true → s.line.state = .blocked → s.line.window = some w → w.frame = some f →
      w.fault = false → w.malformed = false → w.own = false → w.sender = some f.sender → f.sender ≠ s.straps.id →
      (s.life.state = .listenOnly → s.line.cleanRun < 31) → vto = true ∨ s.line.vto = true ∨ w.vetoRead = true →
      exec (.blockedCleared vto) s = .next { s with
        line := s.lineAfterClean
        port := (match f.body with
          | .pushClaim n c forced =>
            s.port.offerReport (.pushOutcome n c forced .vetoed (some f.sender)
              (match w.verdict with | .veto x => some x | _ => none))
          | _ => s.port).offerReport (.lineState (.station s.life.state)) })

/-- R5, R14, R22, R134, R170: in IDLE the first PENDING entry by priority, and of one priority the oldest, contends, whatever command holds
execution, the leaving ANNOUNCE of a waiting LEAVE too. Its frame carries the flags of that moment, and a STOP_NOTE the serial after the highest
seen. It wins unless a rival's value, priority × 32 + id, is lower; then it stays PENDING with its age and retry count, but a PUSH_CLAIM for which
an ABANDON waits is withdrawn, and the ABANDON is answered ACCEPTED (WITHDRAWN).
The rivals' characters are the row's operand (log 8); no CLAIM_OUTCOME is reported for the withdrawn claim (log 18), and a reply that finds the
reply queue full is lost (log 16). -/
def Obligations.ContendSendsHeadOrYields : Prop :=
  ∀ (s : State) (rivals : List Byte) (k : Nat) (e : QueueEntry) (b : Body), s.OutputsSound → s.drives = true → s.line.state = .idle →
    s.line.dat = .released → s.straps.id < 32 → s.queue[k]? = some e →
    (∀ x ∈ s.queue, x.inFlight = false) →
    (∀ (i : Nat) (x : QueueEntry), s.queue[i]? = some x →
      e.body.kind.priority < x.body.kind.priority ∨ (e.body.kind.priority = x.body.kind.priority ∧ k ≤ i)) →
    (b = match e.body with | .stopNote a _ => .stopNote a (s.stop.highest % 255 + 1) | x => x) →
    ((∀ r ∈ rivals, e.body.kind.priority * 32 + s.straps.id ≤ r.toNat) →
      exec (.contend rivals) s = .next { s with
        queue := s.queue.set k { e with body := b, inFlight := true }
        line := { s.line with
          state := .sending
          dat := .frame
          sent := Frame.chars ⟨e.body.kind.priority, s.straps.id, s.stop.stopped, s.attention, e.leaving,
            decide (s.life.state = .joining), b⟩ } }) ∧
    ((∃ r ∈ rivals, r.toNat < e.body.kind.priority * 32 + s.straps.id) →
      (e.body.kind ≠ .pushClaim ∨ (∀ x, s.port.hold ≠ some (.abandon x)) →
        exec (.contend rivals) s = .next { s with
          queue := s.queue.set k { e with body := b }
          line := { s.line with state := .receiving } }) ∧
      ∀ x, e.body.kind = .pushClaim → s.port.hold = some (.abandon x) →
        exec (.contend rivals) s = .next { s with
          queue := s.queue.eraseIdx k
          line := { s.line with state := .receiving }
          port := { s.port with hold := none }.answered .accepted 1 })

/-- R6, R17, R23, R113, R134: a mismatch that was the start of a stop pulse ends the station's drive; one after which DAT returns recessive is an
id clash, and so is the end of the window of another's cleanly received frame that carries the station's own id, whatever its outcome: the station
reports LINE_STATE (CONFLICT) and enters CONFLICT, off the line, with its configuration kept. Its OPEN claim is dropped (R113), and an ABANDON
that waited is answered (R134). The level of DAT after the jam is the row's operand (log 7). LINE_STATE stands on the port before CLAIM_ABANDONED,
and no late report of the frames that leave the queue follows (log 12); both come before the reply of the ABANDON (log 63), which is lost where
the reply queue is full (log 16). -/
def Obligations.IdClashEntersConflict : Prop :=
  ∀ (s : State) (clash : Port → Port),
    (∀ p, clash p = match s.openClaim with
      | some c => (p.offerReport (.lineState (.conflict .idClash))).offerReport (.claimAbandoned c.oven c.serial .dropped c.stages)
      | none => p.offerReport (.lineState (.conflict .idClash))) →
    (s.line.state = .sending → s.line.dat = .frame →
      (s.OutputsSound → exec (.idClash false) s = .next { s with line := { s.line with dat := .released } }) ∧
      ∃ t, exec (.idClash true) s = .next t ∧ t.life.state = .conflict ∧ t.life.conflict = some .idClash ∧ t.OffTheLine ∧
        SameBut [.life, .line, .queue, .claims, .stop, .bank, .plan, .machine, .car, .out, .port] s t ∧
        (s.bankConfig = none ∨ (s.openClaim = none ∧ s.openReseals = []) →
          (s.port.hold = none → t.port = clash s.port) ∧
          ∀ x, s.port.hold = some (.abandon x) → t.port = { clash s.port with hold := none }.answered .accepted 1)) ∧
    ∀ (w : Window) (vto : Bool), s.drives = true → s.line.state = .settle → s.line.window = some w → s.line.hld = false → w.own = false →
      w.fault = false → w.sender = some s.straps.id → w.frame.map Frame.sender = w.sender ∨ w.malformed = true →
      ∃ t, exec (.settleOutcome vto) s = .next t ∧ t.life.state = .conflict ∧ t.life.conflict = some .idClash ∧ t.OffTheLine ∧
        SameBut [.life, .line, .queue, .table, .claims, .stop, .bank, .plan, .machine, .car, .out, .port] s t ∧
        (w.malformed = true ∨ (vto = true ∧ ∀ n c g, w.frame.map Frame.body ≠ some (.pushClaim n c g)) → s.port.hold = none →
          s.bankConfig = none → t.port = clash s.port)

/-- R1, R4, R7, R8, R12, R29, R186, R187, R188: at the frame end of a frame received cleanly the station enters SETTLE and holds, and its window
carries the frame and the judgement of its blocks; a frame with a reception fault is judged CHECK and one that breaks the frame rules MALFORMED:
a priority that is not the kind's, an oven outside 1..N (0 in the fields that may name none excepted), an unassigned kind, or a length that is
not the kind's or the announced role's (R29, R186, R187). A station in LISTEN_ONLY drives nothing and judges nothing. The sender enters its
window with its own frame, holding, and its DAT drive ends. After a
CENSUS every station in JOINING or ON_LINE drives its own slot in both copies of the census field, and reads the field as DAT carries it.
The model's choices: the kind and sender of a faulty frame are those that came, and so the sender clause of every received frame (logs 9, 30);
the row's operand brings the field as the other stations drive it (log 47). -/
def Obligations.FrameEndOpensWindow : Prop :=
  ∀ (s : State) (own : List Byte), s.OutputsSound →
    own = (if s.drives = true then
      (List.range 8).map (censusDrive s.straps.id s.attention) ++ (List.range 8).map (censusDrive s.straps.id s.attention) else []) →
    (∀ (f : Frame) (field onDat : List Byte) (rx : Reception) (w : Window) (l : Line), s.line.state = .receiving → f.InRange →
      (f.body = .census → field.length = 8 ∧
        onDat = if s.drives = true then List.zipWith (fun a b => a &&& b) (field ++ field) own else field ++ field) →
      (f.body ≠ .census → onDat = []) →
      rx = ⟨asReceived f.chars, asReceived (if f.body = .census then field ++ field else []), false⟩ →
      w = ⟨some f, onDat, false, false, some f.body.kind.code, some f.sender, false, .take, false, false, false, 0,
        if f.body = .census then own else [], false⟩ →
      l = { s.line with state := .settle, hld := s.drives, vto := false, dat := if s.line.dat = .stopPulse then .stopPulse else .released } →
      (breaksRules s.ovenCount (some f) = false →
        (s.judge false f = .take → exec (.frameEnd rx) s = .next { s with line := { l with window := some w } }) ∧
        (∀ c, s.judge false f = .veto c →
          exec (.frameEnd rx) s = .next { s with line := { l with window := some { w with verdict := .veto c } } }) ∧
        (s.judge false f = .ask →
          exec (.frameEnd rx) s = .next { s with
            line := { l with window := some { w with verdict := .asking } }
            claims := { s.claims with ask := (s.claims.ask + 1) % 256 }
            port := s.port.offerAsk (.consentAsk ((s.claims.ask + 1) % 256) f) })) ∧
      (breaksRules s.ovenCount (some f) = true →
        exec (.frameEnd rx) s = .next { s with
          line := { l with
            window := some { w with malformed := true, verdict := if s.drives = true then .veto .malformed else .take } } })) ∧
    (∀ (f : Frame) (ovens orNone : List Nat),
      ovens = (match f.body with
        | .charged o | .pushClaim o _ _ | .pushStage o _ _ _ | .pushAbandon o _ _ | .resealCall o _ | .resealClaim o _ _
        | .resealDone o _ _ _ => [o]
        | .announce (.bank first _) _ => [first]
        | _ => []) →
      orNone = (match f.body with
        | .announce p tr => tr.oven :: (match p with | .pusher next _ _ pos => [next, pos] | .guide pos _ oven _ => [pos, oven] | _ => [])
        | _ => []) →
      (breaksRules s.ovenCount (some f) = true ↔
        f.priority ≠ (match f.body.kind with
          | .stopNote | .resume => 0 | .pushStage | .pushAbandon => 1 | .pushClaim | .resealDone => 2 | .resealClaim | .charged => 3
          | .resealCall | .mainPressure => 4 | .announce => 5 | .census => 6) ∨
        0 ∈ ovens ∨ ∃ o ∈ ovens ++ orNone, s.ovenCount < o)) ∧
    (∀ (c1 c2 : Byte) (k : Nat) (body cs : List Byte), s.line.state = .receiving → k = c2.toNat % 16 → body.length ≤ 16 →
      cs = [c1, c2, BitVec.ofNat 8 body.length] ++ body →
      12 ≤ k ∨ (2 ≤ k ∧ some body.length ≠ [3, 1, 3, 4, 3, 2, 3, 4, 2, 1][k - 2]?) ∨
        (k = 1 ∧ ¬((body.head? = some 0#8 ∧ ∃ x, body[2]? = some x ∧ 1 ≤ x.toNat ∧ x.toNat ≤ 8 ∧ body.length = 7 + x.toNat) ∨
          (body.head? = some 1#8 ∧ body.length = 10) ∨ (body.head? = some 2#8 ∧ body.length = 9) ∨
          (body.head? = some 3#8 ∧ body.length = 9))) →
      exec (.frameEnd ⟨asReceived (cs ++ [crc8 cs]), [], false⟩) s = .next { s with
        line := { s.line with
          state := .settle, hld := s.drives, vto := false, dat := if s.line.dat = .stopPulse then .stopPulse else .released
          window := some ⟨none, [], false, true, some k, some (c1.toNat % 32), false,
            if s.drives = true then .veto .malformed else .take, false, false, false, 0, [], false⟩ } }) ∧
    (∀ (rx : Reception) (driven : List Byte) (l : Line), s.line.state = .receiving →
      driven = (if (rx.chars[1]?).any (fun c => decide (c.value.toNat % 16 = 0)) = true then own.take rx.census.length else []) →
      receptionFault { rx with census := wireCensus driven rx.census } = true →
      l = { s.line with state := .settle, hld := s.drives, vto := false, dat := if s.line.dat = .stopPulse then .stopPulse else .released } →
      exec (.frameEnd rx) s = .next { s with
        line := { l with
          window := some ⟨none, (wireCensus driven rx.census).map RxChar.value, true, false,
            rx.chars[1]?.map (fun c => c.value.toNat % 16), rx.chars[0]?.map (fun c => c.value.toNat % 32), false,
            if s.drives = true then .veto .check else .take, false, false, false, 0, driven, false⟩ } }) ∧
    ∀ (f : Frame) (rx : Reception) (w : Window) (l : Line), s.line.state = .sending → s.line.dat = .frame → s.drives = true →
      f.InRange → s.line.sent = f.chars → l = { s.line with state := .settle, dat := .released, hld := true, vto := false } →
      w = ⟨some f, rx.census.map RxChar.value, false, false, some f.body.kind.code, some s.straps.id, true, .take, false, false, false, 0, [],
        false⟩ →
      (f.body ≠ .census → breaksRules s.ovenCount (some f) = false →
        (s.judge true f = .take → exec (.frameEnd rx) s = .next { s with line := { l with window := some w } }) ∧
        ∀ c, s.judge true f = .veto c →
          exec (.frameEnd rx) s = .next { s with line := { l with window := some { w with verdict := .veto c } } }) ∧
      (f.body = .census → f.priority = 6 →
        (∀ field : List Byte, field.length = 8 → rx.census = asReceived (field ++ field) →
          exec (.frameEnd rx) s = .next { s with
            line := { l with
              window := some { w with census := List.zipWith (fun a b => a &&& b) (field ++ field) own, driven := own } } }) ∧
        (censusCopies (wireCensus (own.take rx.census.length) rx.census) = false →
          exec (.frameEnd rx) s = .next { s with
            line := { l with
              window := some { w with
                frame := none, fault := true, verdict := .veto .check, driven := own.take rx.census.length
                census := (wireCensus (own.take rx.census.length) rx.census).map RxChar.value } } }))

/-- R7, R8, R10, R118, R120: when the minimum hold is over, a station that takes the frame releases HLD; one that vetoes asserts VTO, releases HLD
and records the veto, and reports it for a cause other than CHECK and MALFORMED; one that waits for consent goes on holding. A dominant bit that
it reads while it holds is a reception fault, judged CHECK whatever it had judged. 15 ms after the frame end an open ask ends with a veto,
CONSENT_TIMEOUT, and 25 ms after it a driving station that has cast no veto asserts VTO and gives up its hold with HOLD_TIMEOUT. Each records and
reports its veto. A listening station drives nothing. The model's choices: a veto is recorded and reported as VTO is asserted, with the time of
that row (log 10); kind, sender and oven of a faulty frame are log 30; the remaining time passes first (log 2), and the 12 bit times of the
minimum hold are not counted (log 6); that an ANNOUNCE and a malformed frame without a body name no oven is log 67, and that the consent timeout
casts no veto where the station's own stop pulse has released HLD log 78. -/
def Obligations.HoldAndTimeoutsCastVerdicts : Prop :=
  (∀ (s : State) (w : Window) (c : Cause) (v : Veto), s.OutputsSound → s.line.state = .settle → s.line.window = some w →
    s.line.hld = true → w.holdDone = false →
    v = ⟨w.kind, w.sender, c, (w.frame.map fun f => f.body.oven).getD 0, s.time⟩ →
    (w.verdict = .take →
      exec .minimumHoldElapsed s = .next { s with
        line := { s.line with hld := false, window := some { w with holdDone := true } } }) ∧
    (w.verdict = .asking →
      exec .minimumHoldElapsed s = .next { s with line := { s.line with window := some { w with holdDone := true } } }) ∧
    (w.verdict = .veto c →
      exec .minimumHoldElapsed s = .next { s with
        line := { s.line with hld := false, vto := true, window := some { w with holdDone := true, cast := true } }
        claims := { s.claims with veto := some v }
        port := if c = .check ∨ c = .malformed then s.port else s.port.offerReport (.vetoGiven v) }) ∧
    exec .dominantBitInSettle s = .next { s with
      line := { s.line with window := some { w with fault := true, verdict := .veto .check } } }) ∧
  ∀ (s s1 : State) (w : Window) (v : Veto), s.line.window = some w →
    (s.line.state = .settle → s.line.hld = true → w.holdDone = true → w.verdict = .asking → w.timer ≤ 15 →
      s1 = s.elapse (15 - w.timer) →
      v = ⟨w.kind, w.sender, .consentTimeout, (w.frame.map fun f => f.body.oven).getD 0, s1.time⟩ →
      ∃ t, exec .consentTimeout s = .next t ∧ SameBut [.line, .claims, .out, .port] s1 t ∧
        t.line = { s1.line with
          hld := false, vto := true, window := some { w with timer := 15, verdict := .veto .consentTimeout, cast := true } } ∧
        t.claims = { s1.claims with veto := some v } ∧ t.port = s1.port.offerReport (.vetoGiven v)) ∧
    (s.line.state = .settle → s.line.hld = false → w.verdict = .asking → w.timer ≤ 15 → s1 = s.elapse (15 - w.timer) →
      ∃ t, exec .consentTimeout s = .next t ∧ SameBut [.line, .out] s1 t ∧
        t.line = { s1.line with window := some { w with timer := 15, verdict := .veto .consentTimeout } }) ∧
    (s.line.state = .settle → s.drives = true → w.timedOut = false → w.cast = false → w.timer ≤ 25 → s1 = s.elapse (25 - w.timer) →
      v = ⟨w.kind, w.sender, .holdTimeout, (w.frame.map fun f => f.body.oven).getD 0, s1.time⟩ →
      ∃ t, exec .holdTimeout s = .next t ∧ SameBut [.line, .claims, .out, .port] s1 t ∧
        t.line = { s1.line with
          hld := false
          vto := true
          window := some { w with timer := 25, verdict := .veto .holdTimeout, cast := true, holdDone := true, timedOut := true } } ∧
        t.claims = { s1.claims with veto := some v } ∧ t.port = s1.port.offerReport (.vetoGiven v)) ∧
    (s.line.state = .settle → s.drives = false → w.timedOut = false → w.timer ≤ 25 → s1 = s.elapse (25 - w.timer) →
      ∃ t, exec .holdTimeout s = .next t ∧ SameBut [.line, .out] s1 t ∧
        t.line = { s1.line with window := some { w with timer := 25, timedOut := true } })

/-- R9, R13, R117: a frame of another station found VETOED changes no block: the window closes to GAP, the fault counter counts a clean
window, and only a PUSH_CLAIM is reported, with this station's own veto cause if it vetoed.
That a verdict which the station's own stop pulse kept from being cast counts as its veto there is log 78. -/
def Obligations.VetoedFrameChangesNoBlock : Prop :=
  ∀ (s : State) (w : Window) (f : Frame), s.OutputsSound → s.Hears w f →
    exec (.settleOutcome true) s = .next { s with
      line := s.lineAfterClean
      port := match f.body with
        | .pushClaim n c forced =>
          s.port.offerReport (.pushOutcome n c forced .vetoed (some f.sender)
            (match w.verdict with | .veto x => some x | _ => none))
        | _ => s.port }

/-- R16, R70, R126, R128, R131, R134, R141, R143, R162: an own frame found VETOED. CHARGED, RESEAL_DONE, STOP_NOTE and RESUME return to PENDING at
their age with the retry count raised, and leave with FRAME_REFUSED after the third veto; CENSUS, MAIN_PRESSURE, RESEAL_CALL and an ordinary
ANNOUNCE leave; a PUSH_CLAIM or RESEAL_CLAIM leaves and is reported to its producer as vetoed, or an ABANDON that waits for it is answered
WITHDRAWN. A PUSH_STAGE or PUSH_ABANDON of the OPEN claim is retried likewise, and after the third veto also STAGE_LATE or ABANDON_LATE is
reported and its producer goes on by its own rule; of a claim no longer OPEN here it leaves at once, late; before its third veto a stage that
its producer wants no longer leaves without a report: the set of GUIDE_SET that the guide has moved away from, the revoke over which it has
reported GUIDE_SET, a CAR_READY frame opposite to the wish. That a set is wanted no longer as its revoke leaves after the third veto is log 80.
That a dropped abandon of any cause starts the retry timer where the claim has timed out is log 19, and
that a ready retry timer which runs already starts again log 60,
the timers of R128 and R141 log 69. No CLAIM_OUTCOME is reported for the claim withdrawn with an ABANDON (log 18), whose reply is lost where the
reply queue is full (log 16). -/
def Obligations.OwnVetoedFrameRetriesOrLeaves : Prop :=
  ∀ (s : State) (w : Window) (k : Nat) (e : QueueEntry) (retried dropped : State), s.OutputsSound → s.OwnWindow w k e →
    retried = { s with
      line := s.lineAfterClean, queue := s.queue.set k { e with inFlight := false, retries := e.retries + 1 } } →
    dropped = { s with line := s.lineAfterClean, queue := s.queue.eraseIdx k } →
    (e.body.kind = .charged ∨ e.body.kind = .resealDone ∨ e.body.kind = .stopNote ∨ e.body.kind = .resume →
      (e.retries < 2 → exec (.settleOutcome true) s = .next retried) ∧
      (2 ≤ e.retries → exec (.settleOutcome true) s = .next { dropped with port := s.port.offerReport (.frameRefused e.body) })) ∧
    (e.body.kind = .census ∨ e.body.kind = .mainPressure ∨ e.body.kind = .resealCall ∨
        (e.body.kind = .announce ∧ e.leaving = false) →
      exec (.settleOutcome true) s = .next dropped) ∧
    (∀ n c forced, e.body = .pushClaim n c forced →
      ((∀ x, s.port.hold ≠ some (.abandon x)) →
        exec (.settleOutcome true) s = .next { dropped with
          port := s.port.offerReport (.pushOutcome n c forced .vetoed none none) }) ∧
      ∀ x, s.port.hold = some (.abandon x) →
        exec (.settleOutcome true) s = .next { dropped with port := { s.port with hold := none }.answered .accepted 1 }) ∧
    (∀ n j r, e.body = .resealClaim n j r →
      exec (.settleOutcome true) s = .next { dropped with port := s.port.offerReport (.resealOutcome n j r .vetoed) }) ∧
    (∀ n c x revoke, e.body = .pushStage n c x revoke →
      ((∀ r, s.claims.record = some r → r.ending = .opened → r.oven = n → r.serial ≠ c) →
        exec (.settleOutcome true) s = .next { dropped with port := s.port.offerReport (.stageLate n c x) }) ∧
      ∀ r, s.claims.record = some r → r.ending = .opened → r.oven = n → r.serial = c →
        (e.retries < 2 →
          (x = 8 → revoke = false → s.machine.revokeOwed = some c →
            exec (.settleOutcome true) s = .next { dropped with
              machine := { s.machine with revokeOwed := none, revokeTimer := none } }) ∧
          (x = 8 → revoke = true → s.machine.setWanted = some c →
            exec (.settleOutcome true) s = .next { dropped with machine := { s.machine with setWanted := none } }) ∧
          ((x = 8 → revoke = false → s.machine.revokeOwed ≠ some c) → (x = 8 → revoke = true → s.machine.setWanted ≠ some c) →
            (x ≠ 9 ∨ s.role ≠ .quench → exec (.settleOutcome true) s = .next retried) ∧
            (x = 9 → s.role = .quench → (∀ i z, s.queue[i]? = some z → i ≠ k → ∀ m q, z.body ≠ .pushStage m c 9 q) →
              ((s.wishesReady r ↔ revoke = false) → exec (.settleOutcome true) s = .next retried) ∧
              ((s.wishesReady r ↔ revoke = true) → exec (.settleOutcome true) s = .next dropped)))) ∧
        (2 ≤ e.retries →
          exec (.settleOutcome true) s = .next { dropped with
            port := (s.port.offerReport (.frameRefused e.body)).offerReport (.stageLate n c x)
            bank := if x = 0 then (match s.ovenIndex n with
              | some i => { s.bank with loops := s.bank.loops.modify i fun l => { l with owed := false } }
              | none => s.bank) else s.bank
            machine := if x = 8 ∧ revoke = true then { s.machine with
                revokeTimer := if s.machine.revokeOwed = some c then some 0 else s.machine.revokeTimer
                setWanted := if s.machine.setWanted = some c then none else s.machine.setWanted }
              else if x = 8 ∧ s.machine.revokeOwed = some c then { s.machine with revokeOwed := none, revokeTimer := none }
              else s.machine
            car := if x = 9 ∧ r.stages.carLoaded = false ∧ (s.readyWish ≠ r.stages.carReady) then { s.car with readyTimer := some 0 }
              else s.car })) ∧
    (∀ n c a (cause : AbandonCause), e.body = .pushAbandon n c a →
      (a = 1 ∧ cause = .timeout) ∨ (a = 2 ∧ cause = .command) ∨ (a = 3 ∧ cause = .carFault) →
      ((∀ r, s.claims.record = some r → r.ending = .opened → r.oven = n → r.serial ≠ c) →
        exec (.settleOutcome true) s = .next { dropped with port := s.port.offerReport (.abandonLate n c cause) }) ∧
      ∀ r, s.claims.record = some r → r.ending = .opened → r.oven = n → r.serial = c →
        (e.retries < 2 → exec (.settleOutcome true) s = .next retried) ∧
        (2 ≤ e.retries →
          exec (.settleOutcome true) s = .next { dropped with
            port := (s.port.offerReport (.frameRefused e.body)).offerReport (.abandonLate n c cause)
            claims := if a = 1 ∨ s.pushLimit ≤ r.timer then { s.claims with retry := some 0 } else s.claims }))

/-- R16, R17, R25, R26, R30, R88, R95, R126, R131, R134, R148, R151: an own frame found TAKEN at a station that is ON_LINE leaves the queue and
its producer is told. CHARGED is the last charged record with the moment of the outcome; RESEAL_CLAIM is reported as taken, with the record and
the reseal queue as at any station; a RESEAL_CALL as called; a PUSH_CLAIM that an ABANDON waits for is followed by its PUSH_ABANDON (LOCAL); the
set of GUIDE_SET that the guide has moved away from by its revoke (every other own PUSH_STAGE: `Obligations.StageTaken`,
`Obligations.QuenchFollowsFrames`; an own PUSH_ABANDON at a bank: `Obligations.AbandonTaken`); CENSUS, an ordinary ANNOUNCE, PUSH_ABANDON,
RESEAL_DONE, MAIN_PRESSURE, STOP_NOTE and RESUME by nothing more than the outcome that every station applies: the table counted, the own entry
filled, the claim ended and its frames withdrawn, the reseal ended and an owed RESEAL_DONE settled (log 32). That the lowest of several empty
slots takes the new record is log 23, that each of several open records of one serial ends log 56, that the serial alone names the record log 77,
and the order of the reports log 12; that a running revoke retry timer stops as the revoke is queued is log 69. That CLAIM_OUTCOME stands on the
port before the reply of the ABANDON is log 63, and that this reply is lost where the reply queue is full log 16. -/
def Obligations.OwnTakenFrameLeavesAndIsTold : Prop :=
  ∀ (s : State) (w : Window) (k : Nat) (e : QueueEntry) (f : Frame) (table : List Entry), s.OwnWindow w k e → w.frame = some f →
    f.body = e.body → f.sender = s.straps.id → s.line.vto = false → s.life.state = .onLine →
    table = s.table.modify f.sender (fun x => { x with joining := f.joining, attention := f.attention }) →
    (∀ n, e.body = .charged n → s.role = .pusher → s.bankConfig = none →
      ∃ t, exec (.settleOutcome false) s = .next t ∧ SameBut [.line, .queue, .table, .machine, .out] s t ∧ t.line = s.lineAfterClean ∧
        t.table = table ∧ t.queue = s.queue.eraseIdx k ∧ t.machine = { s.machine with charged := some (n, s.time) }) ∧
    (∀ n j r slot, e.body = .resealClaim n (Side.code j) r → s.role = j.role → s.bankConfig = none →
      s.claims.reseals.findIdx? Option.isNone = some slot →
      ∃ t, exec (.settleOutcome false) s = .next t ∧ SameBut [.line, .queue, .table, .claims, .machine, .out, .port] s t ∧
        t.line = s.lineAfterClean ∧ t.table = table ∧ t.queue = s.queue.eraseIdx k ∧
        t.claims = { s.claims with
          highestReseal := r
          reseals := s.claims.reseals.set slot (some ⟨n, j, r, s.straps.id, s.time, 0, .opened, none⟩) } ∧
        t.machine = { s.machine with queue := s.machine.queue.filter fun x => decide (x ≠ n) } ∧
        t.port = s.port.offerReport (.resealOutcome n j.code r .taken)) ∧
    (∀ n j, s.OutputsSound → e.body = .resealCall n (Side.code j) → s.side? = none →
      exec (.settleOutcome false) s = .next { s with
        line := s.lineAfterClean, table := table, queue := s.queue.eraseIdx k
        port := s.port.offerReport (.resealCalled n j false) }) ∧
    (∀ n c forced x p, e.body = .pushClaim n c forced → s.openClaim = none → s.role = .pusher → s.bankConfig = none → s.plan = some p →
      s.port.hold = some (.abandon x) → s.queue.length ≤ 8 →
      ∃ t, exec (.settleOutcome false) s = .next t ∧ SameBut [.line, .queue, .table, .claims, .plan, .out, .port] s t ∧
        t.claims = { s.claims with
          record := some ⟨n, c, some s.straps.id, forced,
            ⟨false, false, false, false, false, false, false, false, false, false⟩, s.time, 0, .opened⟩
          highest := c, retry := none } ∧
        t.queue = s.queue.eraseIdx k ++ [⟨.pushAbandon n c 2, false, s.time, 0, false⟩] ∧
        t.port = { s.port.offerReport (.pushOutcome n c forced .taken none none) with hold := none }.answered .accepted) ∧
    (∀ n c r, e.body = .pushStage n c 8 false → s.role = .guide → s.claims.record = some r → r.ending = .opened → r.oven = n →
      r.serial = c → r.stages.ramHome = false → s.machine.revokeOwed = some c → s.bankConfig = none → s.plan = none →
      (∀ i z, s.queue[i]? = some z → i ≠ k → ∀ m q, z.body ≠ .pushStage m c 8 q) → s.queue.length ≤ 8 →
      ∃ t, exec (.settleOutcome false) s = .next t ∧ SameBut [.line, .queue, .table, .claims, .machine, .out, .port] s t ∧
        t.claims = { s.claims with record := some { r with stages := { r.stages with guideSet := true } } } ∧
        t.machine = { s.machine with revokeTimer := none } ∧
        t.queue = s.queue.eraseIdx k ++ [⟨.pushStage n c 8 true, false, s.time, 0, false⟩] ∧
        t.port = s.port.offerReport (.stageSeen n c .guideSet false)) ∧
    (e.body = .census →
      ∃ t, exec (.settleOutcome false) s = .next t ∧ SameBut [.life, .line, .queue, .table, .out, .port] s t ∧
        t.line = s.lineAfterClean ∧ t.life = { s.life with census := some 0 } ∧
        t.queue = (s.queue.eraseIdx k).filter (fun y => decide (y.body ≠ .census)) ∧
        t.table = table.mapIdx (fun id y => { y with
          attention := slotAttention w.census id
          missed := if slotPresent w.census id = true then 0 else if y.presence = .present then y.missed + 1 else y.missed
          presence := if slotPresent w.census id = true then .present
            else if y.presence = .present ∧ 2 ≤ y.missed then .lost else y.presence }) ∧
        t.port = ((List.range table.length).filterMap fun id => match table[id]?, t.table[id]? with
          | some a, some b => if a.presence = b.presence then none else some (Report.stationChange id b.presence b.role)
          | _, _ => none).foldl Port.offerReport s.port) ∧
    (∀ p tr, s.OutputsSound → e.body = .announce p tr → e.leaving = false → f.leaving = false → p.role = s.role →
      exec (.settleOutcome false) s = .next { s with
        line := s.lineAfterClean
        table := s.table.modify s.straps.id fun y => { y with
          role := some p.role
          range := match p with | .bank first sums => some (first, sums.length) | _ => none
          payload := some (p, tr), age := 0, joining := f.joining }
        queue := s.queue.eraseIdx k
        port := if (s.entry s.straps.id).role = some p.role then s.port
          else s.port.offerReport (.stationChange s.straps.id (s.entry s.straps.id).presence (some p.role)) }) ∧
    (∀ n c a (cause : AbandonCause) r, e.body = .pushAbandon n c a →
      (a = 1 ∧ cause = .timeout) ∨ (a = 2 ∧ cause = .command) ∨ (a = 3 ∧ cause = .carFault) → s.claims.record = some r →
      r.ending = .opened → r.oven = n → r.serial = c → s.bankConfig = none →
      ∃ t, exec (.settleOutcome false) s = .next t ∧ SameBut [.line, .queue, .table, .claims, .plan, .machine, .car, .out, .port] s t ∧
        t.line = s.lineAfterClean ∧ t.table = table ∧
        t.claims = { s.claims with record := some { r with ending := .abandoned cause }, retry := none } ∧
        t.machine = { s.machine with revokeOwed := none, revokeTimer := none, setWanted := none } ∧
        t.queue = (s.queue.eraseIdx k).filter (fun y =>
          !(match y.body with | .pushStage _ q _ _ => decide (q = c) | .pushAbandon _ q _ => decide (q = c) | _ => false)) ∧
        t.port = ((s.queue.eraseIdx k).filterMap fun y => match y.body with
            | .pushStage m q x _ => if q = c then some (Report.stageLate m q x) else none
            | _ => none).foldl Port.offerReport (s.port.offerReport (.claimAbandoned n c cause r.stages))) ∧
    (∀ n j r o rest, e.body = .resealDone n j r o →
      rest = (s.queue.eraseIdx k).filter (fun y => !(match y.body with | .resealDone _ _ q _ => decide (q = r) | _ => false)) →
      (s.OutputsSound → (∀ y ∈ s.openReseals, y.serial ≠ r) →
        exec (.settleOutcome false) s = .next { s with
          line := s.lineAfterClean, table := table, queue := rest
          claims := { s.claims with
            highestReseal := if s.claims.highestReseal = 0 then r else s.claims.highestReseal
            reseals := s.claims.reseals.map (Option.map fun y => if y.serial = r then { y with owed := none } else y) } }) ∧
      ∀ ended, o < 2 → s.bankConfig = none → ended = s.openReseals.filter (fun y => decide (y.serial = r)) →
        ∃ t how, exec (.settleOutcome false) s = .next t ∧ SameBut [.line, .queue, .table, .claims, .out, .port] s t ∧
          t.line = s.lineAfterClean ∧ t.table = table ∧ t.queue = rest ∧ how = (if o = 0 then ResealEnd.done else .givenUp) ∧
          t.claims = { s.claims with
            highestReseal := if s.claims.highestReseal = 0 then r else s.claims.highestReseal
            reseals := s.claims.reseals.map (Option.map fun y =>
              if y.serial = r then { y with owed := none, ending := if y.ending = .opened then how else y.ending } else y) } ∧
          t.port = ended.foldl (fun p x => p.offerReport (.resealEnded x.oven x.side r how)) s.port) ∧
    (∀ pr q, s.OutputsSound → e.body = .mainPressure pr q → (∀ p0 p1, s.bankConfig = some (p0, p1) → p1.mainSensor = true) →
      exec (.settleOutcome false) s = .next { s with
        line := s.lineAfterClean, table := table, queue := s.queue.eraseIdx k }) ∧
    (∀ a r, s.OutputsSound → e.body = .stopNote a r → a < 2 →
      exec (.settleOutcome false) s = .next { s with
        line := s.lineAfterClean, table := table, queue := s.queue.eraseIdx k
        stop := { s.stop with
          highest := r, note := some ⟨r, if a = 0 then .command else .stopInput, s.straps.id⟩, mark := none }
        port := s.port.offerReport (.stopped .note (some r) (some (if a = 0 then .command else .stopInput)) (some s.straps.id)) }) ∧
    (∀ r, e.body = .resume r →
      ∃ t, exec (.settleOutcome false) s = .next t ∧ SameBut [.line, .queue, .table, .stop, .out, .port] s t ∧
        t.queue = s.queue.eraseIdx k ∧ t.stop = { s.stop with stopped := false } ∧
        t.port = s.port.offerReport (.resumed r s.straps.id))

/-- R13, R17, R28, R117, R148, R170: a window with a reception fault raises the check streak of a driving station and ends the clean run of a
listening one; a malformed frame counts as received cleanly. The eighth window in a row with a reception fault turns a driving station to
LISTEN_ONLY: nothing is driven, every entry leaves the queue, and the reports are LINE_STATE and then for each entry what its kind gives. The
thirty-second clean one in a row, malformed, VETOED or TAKEN, returns a listening station to JOINING with its counters and its joining count at
0, and it offers its first ANNOUNCE and, with its STOP input ASSERTED, gives a pulse.
The producers that offer a dropped frame again start their retry timers then (log 19); the order of the reports is log 12; a STOP_NOTE's serial
before its contention is the model's free value (log 13);
that a malformed frame is handed on nowhere at a listening station is log 64, that a retry timer which runs already starts again logs 60
and 69, and that a GUIDE_SET reported over a revoke in flight is wanted no longer log 80. -/
def Obligations.FaultCountersChangeLife : Prop :=
  ∀ (s : State) (w : Window) (vto : Bool), s.line.state = .settle → s.line.window = some w → s.line.hld = false →
    (∀ closed : Line, s.OutputsSound → w.own = false →
      closed = { s.line with state := .gap, vto := false, window := none, sent := [] } →
      (w.fault = true → s.drives = true → s.line.checkStreak < 7 →
        exec (.settleOutcome vto) s = .next { s with line := { closed with checkStreak := s.line.checkStreak + 1 } }) ∧
      (w.fault = true → s.life.state = .listenOnly →
        exec (.settleOutcome vto) s = .next { s with line := { closed with cleanRun := 0 } }) ∧
      (w.fault = false → w.malformed = true → s.receives = true → w.sender ≠ some s.straps.id →
        (s.life.state = .listenOnly → s.line.cleanRun < 31) →
        exec (.settleOutcome vto) s = .next { s with line := s.lineAfterClean })) ∧
    (s.drives = true → w.fault = true → s.line.checkStreak = 7 →
      (w.own = true → ∀ e ∈ s.queue, e.inFlight = true → e.body = .census) →
      ∃ t, exec (.settleOutcome vto) s = .next t ∧ t.life = { s.life with state := .listenOnly } ∧ t.queue = [] ∧
        t.line.state = .gap ∧ t.line.dat = .released ∧ t.line.hld = false ∧ t.line.vto = false ∧ t.line.window = none ∧
        SameBut [.life, .line, .queue, .claims, .machine, .car, .plan, .out, .port] s t ∧
        t.plan = s.plan.map (fun p => { p with shown := 0, timer := none }) ∧
        t.port = (s.queue.filterMap fun e => match e.body with
            | .pushClaim n c g => some (.pushOutcome n c g .listenOnly none none)
            | .resealClaim n j r => some (.resealOutcome n j r .listenOnly)
            | .census => none
            | .announce _ _ => none
            | .mainPressure _ _ => none
            | .resealCall _ _ => none
            | b => some (.frameRefused b)).foldl Port.offerReport (s.port.offerReport (.lineState (.station .listenOnly))) ∧
        ((∃ e ∈ s.queue, ∃ c a, s.openClaim = some c ∧ e.body = .pushAbandon c.oven c.serial a ∧ (a = 1 ∨ s.pushLimit ≤ c.timer)) →
          t.claims = { s.claims with retry := some 0 }) ∧
        ((∀ e ∈ s.queue, ∀ c a, s.openClaim = some c → e.body = .pushAbandon c.oven c.serial a → a ≠ 1 ∧ c.timer < s.pushLimit) →
          t.claims = s.claims) ∧
        ((∃ e ∈ s.queue, ∃ n c, e.body = .pushStage n c 8 true ∧ s.machine.revokeOwed = some c) →
          t.machine = { s.machine with revokeTimer := some 0, setWanted := none }) ∧
        ((∀ e ∈ s.queue, ∀ n c, e.body = .pushStage n c 8 true → s.machine.revokeOwed ≠ some c) →
          t.machine = { s.machine with setWanted := none }) ∧
        ((∃ e ∈ s.queue, ∃ n c q, e.body = .pushStage n c 9 q) → t.car = { s.car with readyTimer := some 0 }) ∧
        ((∀ e ∈ s.queue, ∀ n c q, e.body ≠ .pushStage n c 9 q) → t.car = s.car)) ∧
    (s.life.state = .listenOnly → w.own = false → w.fault = false → w.sender ≠ some s.straps.id → s.line.cleanRun = 31 →
      (∃ t, exec (.settleOutcome vto) s = .next t ∧ t.life.state = .joining ∧ t.life.joinCount = 0 ∧ t.life.census = some 0 ∧
        ((∀ e ∈ s.queue, e.leaving = false) → t.life.announce = some 0) ∧ t.life.adopted = false ∧ t.line.state = .gap ∧
        t.line.checkStreak = 0 ∧ t.line.cleanRun = 0 ∧ t.line.window = none ∧ t.straps = s.straps ∧ t.config = s.config ∧
        t.time = s.time) ∧
      ∀ (kept : List QueueEntry) (p : Port),
        w.malformed = true ∨ vto = true ∨ w.frame = none →
        p = (if w.malformed = true then s.port else match w.frame with
          | some f => (match f.body with
            | .pushClaim n c g => s.port.offerReport (.pushOutcome n c g .vetoed (some f.sender)
              (match w.verdict with | .veto x => some x | _ => none))
            | _ => s.port)
          | none => s.port) →
        kept = s.queue.filter (fun e => e.inFlight || decide (e.body.kind ≠ .announce)) → (∀ e ∈ s.queue, e.leaving = false) →
        kept.length < 7 →
        ∃ t r, exec (.settleOutcome vto) s = .next t ∧
          SameBut [.life, .line, .queue, .free, .out, .port] s t ∧ t.port = p.offerReport (.lineState (.station .joining)) ∧
          t.free = (if s.stop.input = true ∧ s.line.dat ≠ .stopPulse then s.free + 1 else s.free) ∧
          t.line.dat = (if s.stop.input = true then .stopPulse else s.line.dat) ∧
          ∃ payload trailer, payload.role = s.role ∧
            t.queue = kept ++ [⟨.announce payload trailer, false, s.time, 0, false⟩] ++
              (if s.stop.input = true ∧ s.line.dat ≠ .stopPulse then [⟨.stopNote 1 r, false, s.time, 0, false⟩] else []))

/-- R11, R16, R18, R117, R134, R148, R171, R176: a stop run that is detected stops the battery at the station, sets the unnoted mark with its
timer stopped, cuts a window whose outcome is not sampled, and returns a retriable frame in flight to PENDING at its age; one of another kind
leaves the queue, and the producer of a PUSH_CLAIM or RESEAL_CLAIM is told CUT, but an ABANDON that waits for the PUSH_CLAIM is answered ACCEPTED
(WITHDRAWN) in its place. A window of a BLOCKED line whose outcome is sampled stands, with its frame in flight. Every permit drops, the spray
stays. After 1000 ms the run is reported as STUCK_LINE, once. When it ends the line is in GAP, or BLOCKED again, and the mark's timer starts; a
BLOCKED line whose wires are free by then comes free as at BLOCKED_CLEARED. The 1000 ms pass first (log 2), and the 20 bit times of the run are
not counted (log 6); what a BLOCKED line does whose run ends with both wires free is read from R11 (log 37), and which windows are sampled is log
48; that a frame which its producer no longer wants is returned like the others is log 53, and that no giver is named log 62. That STOPPED stands
on the port before CLAIM_OUTCOME or RESEAL_OUTCOME (CUT) is log 12, and before the reply of the ABANDON log 63; that no CLAIM_OUTCOME is reported
beside that reply is log 18, and that it is lost where the reply queue is full log 16. -/
def Obligations.StopRunStopsBattery : Prop :=
  ∀ s : State, s.OutputsSound →
    (∀ stoppedNow : State, s.receives = true → s.line.state ≠ .off → s.line.state ≠ .stopRun →
      stoppedNow = { s with
        line := { s.line with
          state := .stopRun
          dat := if s.line.dat = .stopPulse then .stopPulse else .released
          hld := false
          vto := false
          sent := []
          window := s.line.window.filter fun w => w.vetoRead
          run := some 0
          stuck := false
          wasBlocked := decide (s.line.state = .blocked) }
        stop := { s.stop with stopped := true, mark := some none }
        port := s.port.offerReport (.stopped .pulse none none none)
        out := ⟨false, false, false, s.out.spray, false⟩ } →
      (∀ w, s.line.window = some w → w.vetoRead = true → exec .stopRunDetected s = .next stoppedNow) ∧
      ((∀ w, s.line.window = some w → w.vetoRead = false) → (∀ e ∈ s.queue, e.inFlight = true → e.body.kind.retriable = true) →
        exec .stopRunDetected s = .next { stoppedNow with queue := s.queue.map fun e => { e with inFlight := false } }) ∧
      ∀ (k : Nat) (e : QueueEntry), (∀ w, s.line.window = some w → w.vetoRead = false) → s.queue[k]? = some e → e.inFlight = true →
        (∀ (i : Nat) (x : QueueEntry), s.queue[i]? = some x → x.inFlight = true → i = k) →
        (e.body.kind = .census ∨ e.body.kind = .mainPressure ∨ e.body.kind = .resealCall ∨ (e.body.kind = .announce ∧ e.leaving = false) →
          exec .stopRunDetected s = .next { stoppedNow with queue := s.queue.eraseIdx k }) ∧
        (∀ n c g, e.body = .pushClaim n c g →
          ((∀ x, s.port.hold ≠ some (.abandon x)) →
            exec .stopRunDetected s = .next { stoppedNow with
              queue := s.queue.eraseIdx k, port := stoppedNow.port.offerReport (.pushOutcome n c g .cut none none) }) ∧
          ∀ x, s.port.hold = some (.abandon x) →
            exec .stopRunDetected s = .next { stoppedNow with
              queue := s.queue.eraseIdx k, port := { stoppedNow.port with hold := none }.answered .accepted 1 }) ∧
        (∀ n j r, e.body = .resealClaim n j r →
          exec .stopRunDetected s = .next { stoppedNow with
            queue := s.queue.eraseIdx k, port := stoppedNow.port.offerReport (.resealOutcome n j r .cut) })) ∧
    (∀ (asserted : Bool) (ended : State), s.line.state = .stopRun →
      ended = { s with
        line := { s.line with
          state := if s.line.wasBlocked = true then .blocked else .gap
          dat := .released
          run := none
          stuck := false
          wasBlocked := false }
        stop := { s.stop with mark := s.stop.mark.map fun _ => some 0 } } →
      (s.line.wasBlocked = false ∨ asserted = true → exec (.stopRunEnd asserted) s = .next ended) ∧
      (s.line.wasBlocked = true → exec (.stopRunEnd false) s = exec (.blockedCleared false) ended ∧
        (s.line.window = none →
          exec (.stopRunEnd false) s = .next { ended with
            line := { ended.line with state := .gap }
            port := s.port.offerReport (.lineState (.station s.life.state)) }))) ∧
    (∀ r, s.line.run = some r → s.line.stuck = false →
      ∃ t, exec .stuckLine s = .next t ∧ SameBut [.line, .out, .port] (s.elapse (1000 - r)) t ∧
        t.line = { (s.elapse (1000 - r)).line with stuck := true } ∧
        t.port = (s.elapse (1000 - r)).port.offerReport (.stopped .stuckLine none none none))

/-- R15, R18, R170, R171: a STOP input that comes to read ASSERTED makes a driving station give a pulse and queue a STOP_NOTE (STOP_INPUT),
whose serial is not fixed before it is sent; the command STOP does so for cause LOCAL and is ACCEPTED, and BAD_STATE off the line. With
a full queue the pulse is given and the note dropped with FRAME_REFUSED; a pulse of its own that is still driven gets no second one. The unnoted
mark clears 2000 ms after its run.
The remaining time passes first (log 2), and the 50 ms of a clear STOP input are not counted (log 6); the serial is the model's free value until
the frame is sent (log 13);
that FRAME_REFUSED comes on the port before the reply is log 63. -/
def Obligations.StopInputsAndMark : Prop :=
  ∀ s : State, s.OutputsSound →
    (∀ x, s.stop.mark = some (some x) →
      ∃ t, exec .unnotedMarkExpiry s = .next t ∧ SameBut [.stop, .out] (s.elapse (2000 - x)) t ∧
        t.stop = { s.stop with mark := none }) ∧
    (s.stop.input = true → exec .stopInputClear s = .next { s with stop := { s.stop with input := false } }) ∧
    (s.stop.input = false → s.drives = false →
      exec .stopInputAsserted s = .next { s with stop := { s.stop with input := true } }) ∧
    (s.stop.input = false → s.drives = true → s.line.dat ≠ .stopPulse → s.queue.length < 8 →
      ∃ r, exec .stopInputAsserted s = .next { s with
        stop := { s.stop with input := true }
        line := { s.line with dat := .stopPulse, hld := false, vto := false }
        free := s.free + 1
        queue := s.queue ++ [⟨.stopNote 1 r, false, s.time, 0, false⟩] }) ∧
    (s.Begins 0x04#8 [] → s.drives = true → s.line.dat ≠ .stopPulse → s.queue.length < 8 →
      ∃ r, exec .stop s = .next { s with
        line := { s.line with dat := .stopPulse, hld := false, vto := false }
        free := s.free + 1
        queue := s.queue ++ [⟨.stopNote 0 r, false, s.time, 0, false⟩]
        port := s.port.answered .accepted }) ∧
    (s.drives = true → s.line.dat ≠ .stopPulse → 8 ≤ s.queue.length →
      (s.stop.input = false →
        ∃ r, exec .stopInputAsserted s = .next { s with
          stop := { s.stop with input := true }
          line := { s.line with dat := .stopPulse, hld := false, vto := false }
          free := s.free + 1
          port := s.port.offerReport (.frameRefused (.stopNote 1 r)) }) ∧
      (s.Begins 0x04#8 [] →
        ∃ r, exec .stop s = .next { s with
          line := { s.line with dat := .stopPulse, hld := false, vto := false }
          free := s.free + 1
          port := (s.port.offerReport (.frameRefused (.stopNote 0 r))).answered .accepted })) ∧
    (s.drives = true → s.line.dat = .stopPulse →
      (s.stop.input = false → exec .stopInputAsserted s = .next { s with stop := { s.stop with input := true } }) ∧
      (s.Begins 0x04#8 [] → exec .stop s = .next { s with port := s.port.answered .accepted })) ∧
    (s.Begins 0x04#8 [] → s.drives = false → exec .stop s = .next { s with port := s.port.answered .badState })

/-! ## Joining, census and announce -/

/-- R25, R28, R29, R49, R50, R110, R152, R169: at the end of its period of 1000 ms + 10 ms × id the station queues a CENSUS, and skips it in
LISTEN_ONLY; the timer restarts.
An ANNOUNCE, whose body is what the station announces at that moment, takes the place of a PENDING one 2000 ms after the last offering, and
already after 200 ms where the content differs from the last queued; where the queue is full the timer restarts and the content last queued
stays. What it announces is the payload of its role, a bank the summary byte of each oven, and the claim trailer: oven, serial and stages of the
OPEN claim, else 0 and the highest serial seen.
The remaining time passes first (log 2); which of several open reseal records of side CS a guide announces is log 70. -/
def Obligations.CensusAndAnnounceTimers : Prop :=
  ∀ s : State,
    s.trailer = (match s.claims.record with
      | some c => if c.ending = .opened then ⟨c.oven, c.serial, c.stages⟩
        else ⟨0, s.claims.highest, ⟨false, false, false, false, false, false, false, false, false, false⟩⟩
      | none => ⟨0, s.claims.highest, ⟨false, false, false, false, false, false, false, false, false, false⟩⟩) ∧
    (∀ (p0 : BankPart0) (p1 : BankPart1) (shows : Oven → Nat × Nat), s.role = .bank → s.bankConfig = some (p0, p1) →
      (∀ o : Oven, shows o = match o.state with
        | .unknown => (0, 15)
        | .empty => (1, 15)
        | .coking => (match o.readiness with
          | .notReady => (2, min ((o.minutes + 9) / 10) 15)
          | .ready => (3, 0)
          | .overcoked => (4, 0))
        | .claimed => (5, min ((o.minutes + 9) / 10) 15)
        | .pushing => (6, 15)
        | .held => (7, 15)
        | .faulted => (8, 15)
        | .outOfService => (9, 15)) →
      s.payload = .bank p0.first (s.bank.ovens.map fun o => BitVec.ofNat 8 (16 * (shows o).1 + (shows o).2))) ∧
    (∀ p, s.role = .pusher → s.plan = some p → s.payload = .pusher p.shown p.cycle p.pass s.machine.position) ∧
    (s.role = .guide →
      ((∀ r ∈ s.openReseals, r.side ≠ .cs) → s.payload = .guide s.machine.position s.machine.queue.length 0 2) ∧
      ∀ r, s.openReseals.find? (fun x => decide (x.side = .cs)) = some r →
        s.payload = .guide s.machine.position s.machine.queue.length r.oven 1) ∧
    (s.role = .quench →
      s.payload = .quench
        (match s.car.state with
          | .idle => 0 | .travelling => 1 | .spotted => 2 | .loading => 3 | .loaded => 4 | .quenching => 5 | .draining => 6 | .dumping => 7
          | .fault => 8)
        s.car.marker (match s.car.load with | .none => 0 | .hot => 1 | .quenched => 2)
        (match s.car.queue.head? with
          | none => 0 | some (.spot n) => n | some .tower => 200 | some .wharf => 201 | some .park => 202)) ∧
    (∀ x s1, s.life.census = some x → s1 = s.elapse (1000 + 10 * s.straps.id - x) →
      (s.drives = true → s.queue.length < 8 →
        ∃ t, exec .censusTimerExpiry s = .next t ∧ SameBut [.life, .queue, .out] s1 t ∧ t.life = { s1.life with census := some 0 } ∧
          t.queue = s.queue ++ [⟨.census, false, s1.time, 0, false⟩]) ∧
      (s.life.state = .listenOnly →
        ∃ t, exec .censusTimerExpiry s = .next t ∧ SameBut [.life, .out] s1 t ∧ t.life = { s1.life with census := some 0 })) ∧
    (∀ x s1 kept full, s.life.announce = some x → s.drives = true → (∀ e ∈ s.queue, e.leaving = false) →
      kept = s.queue.filter (fun e => e.inFlight || decide (e.body.kind ≠ .announce)) →
      s1 = s.elapse ((if full = true then 2000 else 200) - x) → (full = true ∨ s1.life.lastContent ≠ some s1.content) →
      (kept.length < 8 →
        ∃ t, exec (.announceTimer full) s = .next t ∧ SameBut [.life, .queue, .out] s1 t ∧
          t.life = { s1.life with announce := some 0, lastContent := some s1.content } ∧
          t.queue = kept ++ [⟨.announce s1.payload s1.trailer, false, s1.time, 0, false⟩]) ∧
      (8 ≤ kept.length →
        ∃ t, exec (.announceTimer full) s = .next t ∧ SameBut [.life, .out] s1 t ∧ t.life = { s1.life with announce := some 0 }))

/-- R19 to R21, R24, R28, R170, R191: START with the fields of a GUIDE, PUSHER or QUENCH station in their ranges is held and the station joins,
its plan record or car as its chapter gives it; START is BAD_STATE once a configuration is held, and REFUSED (STRAP) under an unassigned rate
strap. REJOIN joins with the configuration held, and is BAD_STATE without one. STATION_CHANGE for the own entry is log 40, the order of the
reports log 12, and that they stand on the port before the reply log 63; the serial of the STOP_NOTE that waits is the model's free value (log
13), and that the straps are checked before the station state is log 34. -/
def Obligations.StartAndRejoinJoin : Prop :=
  ∀ (s : State) (inputs : BitVec 16) (n limit mask a b c : Nat) (common : List Byte),
    common = 0#8 :: (field1 n ++ field2 limit ++ field1 mask) →
    (s.OffLineClear → s.config = none → s.straps.lineRate ≠ 3 → s.straps.portRate ≠ 3 → 1 ≤ n → n ≤ 96 → 300 ≤ limit → limit ≤ 1800 →
      (s.role = .guide → mask = 0 ∨ mask = 1 ∨ mask = 4 ∨ mask = 5 → s.Begins 0x01#8 common →
        ∃ t, exec (.start inputs) s = .next t ∧ s.Joins none t ∧
          t.config = some ⟨n, limit, ⟨mask.testBit 0, mask.testBit 1, mask.testBit 2⟩, .guide⟩ ∧
          SameBut [.config, .staged, .life, .line, .queue, .table, .free, .out, .port] s t) ∧
      (s.role = .pusher → mask = 0 ∨ mask = 4 → 2 ≤ a → a ≤ 12 → a ≤ n → 1 ≤ b → b < a → Nat.gcd b a = 1 → c ≤ 140 →
        s.Begins 0x01#8 (common ++ field1 a ++ field1 b ++ field1 c) →
        ∃ t, exec (.start inputs) s = .next t ∧ s.Joins none t ∧
          t.config = some ⟨n, limit, ⟨false, false, mask.testBit 2⟩, .pusher ⟨a, b, c⟩⟩ ∧
          t.plan = some ⟨n, a, b, c, 0, 0, 0, List.replicate n .unpushed, [], none, none, 0, none⟩ ∧
          SameBut [.config, .staged, .life, .line, .queue, .table, .plan, .free, .out, .port] s t) ∧
      (s.role = .quench → mask = 0 ∨ mask = 1 ∨ mask = 4 ∨ mask = 5 → 60 ≤ a → a ≤ 150 → 30 ≤ b → b ≤ 120 → 30 ≤ c → c ≤ 600 →
        s.Begins 0x01#8 (common ++ field1 a ++ field1 b ++ field2 c) →
        ∃ t, exec (.start inputs) s = .next t ∧ s.Joins none t ∧
          t.config = some ⟨n, limit, ⟨mask.testBit 0, mask.testBit 1, mask.testBit 2⟩, .quench ⟨a, b, c⟩⟩ ∧
          SameBut [.config, .staged, .life, .line, .queue, .table, .free, .out, .port] s t)) ∧
    (s.OutputsSound → s.role = .guide → s.Begins 0x01#8 common →
      ((s.straps.lineRate = 3 ∨ s.straps.portRate = 3) →
        exec (.start inputs) s = .next { s with port := s.port.answered .refused 20 }) ∧
      (s.straps.lineRate ≠ 3 → s.straps.portRate ≠ 3 → s.config ≠ none →
        exec (.start inputs) s = .next { s with port := s.port.answered .badState })) ∧
    (s.Begins 0x02#8 [] →
      (s.OffLineClear → s.config ≠ none →
        ∃ t, exec .rejoin s = .next t ∧ s.Joins (s.bankConfig.map fun x => (x.1.first, x.1.count)) t ∧
          SameBut [.life, .line, .queue, .table, .free, .out, .port] s t) ∧
      (s.OutputsSound → s.config = none ∨ s.life.state ≠ .offLine →
        exec .rejoin s = .next { s with port := s.port.answered .badState }))

/-- R20, R35, R44, R53, R77, R84, R191: a BANK's part 0 is staged and answered PART_HELD; part 1 then completes START. The ovens are
UNKNOWN with no credit, the loops RELEASED with no GOOD entry, and the tick runs from 0. A door whose latch reads LATCHED is SEATING with its
seat timer running; one whose latch reads UNLATCHED is at once UNLATCHED_UNEXPECTED with attention, its event latch holding the change, and
each is reported as DOOR_EVENT and ATTENTION before the reports of joining.
The latch inputs are the row's operand (log 28), the reports' order is log 12, that they stand on the port before the reply log 63, and
STATION_CHANGE for the own entry log 40; the serial of a STOP_NOTE that waits is the model's free value (log 13). -/
def Obligations.BankStartsInTwoParts : Prop :=
  ∀ (s : State) (p : BankPart0) (q : BankPart1) (mask rw rl rr : Nat),
    s.role = .bank → s.config = none → s.life.state = .offLine → s.straps.lineRate ≠ 3 → s.straps.portRate ≠ 3 →
    1 ≤ p.ovens → p.ovens ≤ 96 → 300 ≤ p.pushLimit → p.pushLimit ≤ 1800 → mask < 8 →
    p.consent = ⟨mask.testBit 0, mask.testBit 1, mask.testBit 2⟩ → 1 ≤ p.first → 1 ≤ p.count → p.count ≤ 8 →
    p.first + p.count ≤ p.ovens + 1 → 600 ≤ p.target → p.target ≤ 1800 → 1000 ≤ p.nominal → p.nominal ≤ 1400 → p.allowance ≤ 480 →
    0 ≤ p.base → p.base ≤ 600 → -200 ≤ p.floor → p.floor ≤ p.base → -600 ≤ p.chargeSp → p.chargeSp ≤ 200 → 120 ≤ p.chargeTime →
    p.chargeTime ≤ 900 →
    (s.OutputsSound →
      s.Begins 0x01#8 (0#8 :: (field1 p.ovens ++ field2 p.pushLimit ++ field1 mask ++ field1 p.first ++ field1 p.count ++ field2 p.target ++
        field2 p.nominal ++ field2 p.allowance ++ field2 p.base ++ field2 p.floor ++ field2 p.chargeSp ++ field2 p.chargeTime)) →
      ∀ inputs, exec (.start inputs) s = .next { s with staged := some p, port := s.port.answered .accepted 3 }) ∧
    (s.OffLineClear → s.staged = some p → q.kp < 256 → q.ki < 256 → q.kf < 256 → -3000 ≤ q.pnom → q.pnom ≤ 0 →
      q.rw = rw → q.rl = rl → q.rr = rr → rw ≤ 400 → rl ≤ 400 → rr ≤ 400 → 1 ≤ q.weeping → q.weeping < q.leaking → q.leaking ≤ 255 →
      30 ≤ q.seat → q.seat ≤ 300 → 60 ≤ q.leakDelay → q.leakDelay ≤ 900 → 120 ≤ q.resealLimit → q.resealLimit ≤ 1200 →
      s.Begins 0x01#8 (1#8 :: (field1 q.kp ++ field1 q.ki ++ field1 q.kf ++ field2 q.pnom ++ fieldFlag q.mainSensor ++ field2 rw ++
        field2 rl ++ field2 rr ++ field1 q.weeping ++ field1 q.leaking ++ field2 q.seat ++ field2 q.leakDelay ++ field2 q.resealLimit)) →
      ∀ (inputs : BitVec 16) (ports : Nat → Port), ports 0 = s.port →
        (∀ d, d < 2 * p.count → ports (d + 1) = if inputs.getLsbD d = true then
          ((ports d).offerReport (.doorEvent (p.first + d / 2) (doorSide d) .unlatched .unlatchedUnexpected 0)).offerReport
            (.attention (some (p.first + d / 2)) (some (doorSide d)) .unlatchedUnexpected true) else ports d) →
        ∃ t, exec (.start inputs) s = .next t ∧ { s with port := ports (2 * p.count) }.Joins (some (p.first, p.count)) t ∧
          t.staged = none ∧ t.config = some ⟨p.ovens, p.pushLimit, p.consent, .bank p q⟩ ∧
          t.bank.ovens = List.replicate p.count ⟨.unknown, 0, .notReady, 4095, none, 0, true, 0, none, false, false⟩ ∧
          (∀ l ∈ t.bank.loops, l.mode = .released ∧ l.ring = List.replicate 4 ⟨0, .missing⟩ ∧ l.lost = true ∧ l.lostTimer = some 0 ∧
            l.u = none ∧ l.driven = none) ∧ t.bank.loops.length = p.count ∧
          t.bank.doors = (List.range (2 * p.count)).map (fun d => if inputs.getLsbD d = true then
            ⟨.unlatched, .unlatchedUnexpected, List.replicate 8 0, none, none, false, none, none, none, true, false, true, .unlatched,
              .unlatchedUnexpected⟩
            else ⟨.latched, .seating, List.replicate 8 0, some 0, none, false, none, none, none, false, false, false, .latched, .seating⟩) ∧
          t.bank.main = none ∧ t.bank.mainAge = 65535 ∧ t.bank.mainTimer = (if q.mainSensor = true then some 0 else none) ∧
          t.bank.tick = some 0 ∧ SameBut [.config, .staged, .life, .line, .queue, .table, .bank, .free, .out, .port] s t)

/-- R19, R20, R97, R191: what START refuses. Any field outside its range, or one that breaks a condition written against it, is BAD_ARG
with its place, the first such field of the part in table order, and nothing changes; a consent mask that selects what the role may not is
BAD_ARG with its place; a body that lacks a field is BAD_ARG with the place of the first it lacks, a longer one BAD_ARG with place 0. A part 1
without a part 0 is BAD_STATE, and a refused part 1 discards the staged part. An unassigned strap and a station that is not OFF_LINE without
a configuration stand before the fields.
The order of these checks, and that a part 1 refused for any reason discards the staged part, are log 34; that a refused part 0 leaves it is
log 76; a part that the role does not have is BAD_ARG with place 1 after the first two (log 15). -/
def Obligations.StartRefusesBadFields : Prop :=
  ∀ (s : State) (inputs : BitVec 16), s.OutputsSound →
    (s.Begins 0x01#8 [] → exec (.start inputs) s = .next { s with port := s.port.answered .badArg 1 }) ∧
    (∀ (part : Byte) (rest : List Byte), s.Begins 0x01#8 (part :: rest) → startFields s.role part = none →
      (s.straps.lineRate = 3 ∨ s.straps.portRate = 3 → exec (.start inputs) s = .next { s with port := s.port.answered .refused 20 }) ∧
      (s.straps.lineRate ≠ 3 → s.straps.portRate ≠ 3 →
        (s.life.state ≠ .offLine ∨ s.config ≠ none → exec (.start inputs) s = .next { s with port := s.port.answered .badState }) ∧
        (s.life.state = .offLine → s.config = none → exec (.start inputs) s = .next { s with port := s.port.answered .badArg 1 }))) ∧
    ∀ (part : Byte) (rest body : List Byte) (widths : List Nat) (bad : Nat → Prop) (refused : State), body = part :: rest →
      s.Begins 0x01#8 body → startFields s.role part = some widths →
      bad = StartFieldBad s.role part (fun k => natLow (fieldAt widths body k)) (fun k => intLow (fieldAt widths body k)) →
      refused = (if part = 1#8 then { s with staged := none } else s) →
      (∀ place, 1 ≤ place → place ≤ widths.length → (widths.take (place - 1)).sum ≤ body.length →
        body.length < (widths.take place).sum →
        exec (.start inputs) s = .next { refused with port := s.port.answered .badArg place }) ∧
      (widths.sum < body.length → exec (.start inputs) s = .next { refused with port := s.port.answered .badArg 0 }) ∧
      (body.length = widths.sum →
        (s.straps.lineRate = 3 ∨ s.straps.portRate = 3 →
          exec (.start inputs) s = .next { refused with port := s.port.answered .refused 20 }) ∧
        (s.straps.lineRate ≠ 3 → s.straps.portRate ≠ 3 →
          (s.life.state ≠ .offLine ∨ s.config ≠ none →
            exec (.start inputs) s = .next { refused with port := s.port.answered .badState }) ∧
          (s.life.state = .offLine → s.config = none →
            (part = 1#8 → s.staged = none → exec (.start inputs) s = .next { refused with port := s.port.answered .badState }) ∧
            ∀ place, (part = 1#8 → s.staged ≠ none) → 2 ≤ place → place ≤ widths.length → bad place →
              (∀ earlier, 2 ≤ earlier → earlier < place → ¬bad earlier) →
              exec (.start inputs) s = .next { refused with port := s.port.answered .badArg place })))

/-- R16, R17, R18, R22, R24, R113, R184: LEAVE in JOINING or ON_LINE queues a leaving ANNOUNCE in place of a PENDING one and holds execution. In
LISTEN_ONLY, where the queue is full, when the announce is TAKEN, VETOED or cut by a stop run, and 500 ms after the command, the station is
OFF_LINE, off the line, its table cleared and its configuration kept; an OPEN claim is reported as dropped and every entry that the clearing
changes as ABSENT, and then the command is answered ACCEPTED. In OFF_LINE and CONFLICT it is BAD_STATE.
At the timeout the remaining time passes first (log 2); the order of the reports is log 12. A station that has entered CONFLICT since answers
BAD_STATE at the timeout (log 17). That the first report is sent before the reply is log 63, that the reply is lost where the reply queue is full
log 16, that the STOPPED of the run that cuts the announce names no giver log 62, and which windows such a run leaves uncut log 48. Which reports
stand among these at a bank with an open claim or reseal is left open (`State.Leaves`). -/
def Obligations.LeaveTakesStationOffLine : Prop :=
  ∀ s : State,
    (s.Begins 0x03#8 [] →
      (∀ kept, s.drives = true → kept = s.queue.filter (fun e => e.inFlight || decide (e.body.kind ≠ .announce)) →
        (s.OutputsSound → kept.length < 8 →
          exec .leave s = .next { s with
            queue := kept ++ [⟨.announce s.payload s.trailer, true, s.time, 0, false⟩]
            port := { s.port with hold := some (.leave 0) } }) ∧
        (8 ≤ kept.length → ∃ t, exec .leave s = .next t ∧ s.Leaves s.table s.port t)) ∧
      (s.life.state = .listenOnly → ∃ t, exec .leave s = .next t ∧ s.Leaves s.table s.port t) ∧
      (s.OutputsSound → s.life.state = .offLine ∨ s.life.state = .conflict →
        exec .leave s = .next { s with port := s.port.answered .badState })) ∧
    ∀ x s1, s.port.hold = some (.leave x) → s1 = s.elapse (500 - x) →
      (s.life.state ≠ .conflict → ∃ t, exec .leaveTimeout s = .next t ∧ s1.Leaves s1.table s1.port t) ∧
      (s.life.state = .conflict →
        ∃ t, exec .leaveTimeout s = .next t ∧ SameBut [.out, .port] s1 t ∧ t.port = { s1.port with hold := none }.answered .badState) ∧
      ∀ (k : Nat) (e : QueueEntry), s.queue[k]? = some e → e.leaving = true → e.body.kind = .announce →
        (∀ w, s.OwnWindow w k e →
          (∃ t, exec (.settleOutcome true) s = .next t ∧ s.Leaves s.table s.port t) ∧
          ∀ f, w.frame = some f → f.body = e.body → f.leaving = true → f.sender = s.straps.id → s.line.vto = false →
            (s.life.state = .joining → f.joining = true) →
            ∃ t, exec (.settleOutcome false) s = .next t ∧
              s.Leaves (s.table.modify s.straps.id fun _ => .reset) (s.port.offerReport (.stationChange s.straps.id .absent none)) t) ∧
        (e.inFlight = true → (∀ (i : Nat) (y : QueueEntry), s.queue[i]? = some y → y.inFlight = true → i = k) → s.receives = true →
          s.line.state ≠ .off → s.line.state ≠ .stopRun → (∀ w, s.line.window = some w → w.vetoRead = false) →
          ∃ t, exec .stopRunDetected s = .next t ∧ s.Leaves s.table (s.port.offerReport (.stopped .pulse none none none)) t)

/-- R15, R25, R26, R27, R70, R103, R141, R162: a CENSUS of another station that is TAKEN counts every entry by its slot, copies the ATTENTION
bits, restarts the census timer and withdraws a PENDING CENSUS. In JOINING a census that carries the station's own slot raises the joining
count, one that does not returns it to 0, and at 3 the station is ON_LINE: it reports LINE_STATE after the changed presences (log 12), starts
its plan timer, and offers what it owes, a bank the ISOLATED stage of a loop whose flag still fits the OPEN claim (any other flag clears), a
guide its revoke, and the quench station the CAR_READY that its wish asks for; with a full queue the frame is refused, and the flag clears or
the retry timer starts.
That a ready retry timer which runs already starts again is log 60, and what becomes of a running revoke
retry timer log 69. -/
def Obligations.TakenCensusCountsStations : Prop :=
  ∀ (s : State) (w : Window) (f : Frame), s.Hears w f → s.line.vto = false → f.body = .census →
    (s.life.state = .joining → f.stopped = false) →
    ∃ (t : State) (changes : List Report) (kept : List QueueEntry) (online : Port),
      exec (.settleOutcome false) s = .next t ∧ t.line = s.lineAfterClean ∧ t.table.length = s.table.length ∧
      changes = ((List.range s.table.length).filterMap fun id => match s.table[id]?, t.table[id]? with
        | some a, some b => if a.presence = b.presence then none else some (.stationChange id b.presence b.role)
        | _, _ => none) ∧
      kept = s.queue.filter (fun e => e.inFlight || decide (e.body ≠ .census)) ∧
      online = (changes.foldl Port.offerReport s.port).offerReport (.lineState (.station .onLine)) ∧
      (∀ (id : Nat) (e : Entry), s.table[id]? = some e →
        ∃ x, t.table[id]? = some x ∧ x.attention = slotAttention w.census id ∧ x.role = e.role ∧ x.range = e.range ∧ x.age = e.age ∧
          x.payload = e.payload ∧ x.joining = (if id = f.sender then f.joining else e.joining) ∧
          (slotPresent w.census id = true → x.presence = .present ∧ x.missed = 0) ∧
          (slotPresent w.census id = false → e.presence ≠ .present → x.presence = e.presence ∧ x.missed = e.missed) ∧
          (slotPresent w.census id = false → e.presence = .present →
            x.missed = e.missed + 1 ∧ x.presence = if e.missed < 2 then .present else .lost)) ∧
      (s.life.state ≠ .joining →
        t.life = { s.life with census := some 0 } ∧ t.queue = kept ∧ t.port = changes.foldl Port.offerReport s.port ∧
          SameBut [.life, .line, .queue, .table, .out, .port] s t) ∧
      (s.life.state = .joining →
        (slotPresent w.census s.straps.id = false ∨ s.life.joinCount < 2 → t.queue = kept ∧ t.port = changes.foldl Port.offerReport s.port) ∧
        (slotPresent w.census s.straps.id = false →
          t.life = { s.life with census := some 0, joinCount := 0 } ∧ SameBut [.life, .line, .queue, .table, .out, .port] s t) ∧
        (slotPresent w.census s.straps.id = true → s.life.joinCount < 2 →
          t.life = { s.life with census := some 0, joinCount := s.life.joinCount + 1 } ∧
            SameBut [.life, .line, .queue, .table, .out, .port] s t) ∧
        (slotPresent w.census s.straps.id = true → 2 ≤ s.life.joinCount →
          t.life = { s.life with state := .onLine, census := some 0, joinCount := s.life.joinCount + 1 } ∧
            t.plan = s.plan.map (fun p => { p with timer := some 0 }) ∧
            ((∀ l ∈ s.bank.loops, l.owed = false) → s.machine.revokeOwed = none → s.role ≠ .quench ∨ s.openClaim = none →
              t.queue = kept ∧ t.port = online ∧ SameBut [.life, .line, .queue, .table, .plan, .out, .port] s t) ∧
            (let fits : Nat → Bool := fun i => s.openClaim.any fun c => decide (c.oven = s.ovenAt i ∧ c.stages.isolated = false)
            s.role ≠ .quench → s.machine.revokeOwed = none →
              t.bank = { s.bank with
                loops := s.bank.loops.mapIdx fun i l => { l with owed := l.owed && fits i && decide (kept.length < 8) } } ∧
              ((∀ i l, s.bank.loops[i]? = some l → l.owed = true → fits i = false) → t.queue = kept ∧ t.port = online) ∧
              ∀ i l c, s.bank.loops[i]? = some l → l.owed = true → fits i = true → s.openClaim = some c →
                (kept.length < 8 →
                  t.queue = kept ++ [⟨.pushStage c.oven c.serial 0 false, false, s.time, 0, false⟩] ∧ t.port = online) ∧
                (8 ≤ kept.length →
                  t.queue = kept ∧ t.port = online.offerReport (.frameRefused (.pushStage c.oven c.serial 0 false)))) ∧
            (∀ k, (∀ l ∈ s.bank.loops, l.owed = false) → s.role ≠ .quench → s.machine.revokeOwed = some k →
              ((∀ c, s.openClaim = some c → c.serial ≠ k) → t.queue = kept ∧ t.port = online ∧ t.machine = s.machine) ∧
              ∀ c, s.openClaim = some c → c.serial = k → (∀ e ∈ s.queue, ∀ m q, e.body ≠ .pushStage m k 8 q) →
                (kept.length < 8 →
                  t.queue = kept ++ [⟨.pushStage c.oven k 8 true, false, s.time, 0, false⟩] ∧ t.port = online ∧
                    t.machine = { s.machine with revokeTimer := none }) ∧
                (8 ≤ kept.length →
                  t.queue = kept ∧ t.port = online.offerReport (.frameRefused (.pushStage c.oven k 8 true)) ∧
                    t.machine = { s.machine with revokeTimer := some 0 })) ∧
            (∀ (c : Claim) (revoke : Bool), (∀ l ∈ s.bank.loops, l.owed = false) → s.machine.revokeOwed = none → s.role = .quench →
              s.openClaim = some c → (∀ e ∈ s.queue, ∀ m q, e.body ≠ .pushStage m c.serial 9 q) → (revoke = false ↔ s.wishesReady c) →
              (c.stages.carLoaded = true ∨ c.stages.carReady = !revoke → t.queue = kept ∧ t.port = online ∧ t.car = s.car) ∧
              (c.stages.carLoaded = false → c.stages.carReady = revoke →
                (kept.length < 8 →
                  t.queue = kept ++ [⟨.pushStage c.oven c.serial 9 revoke, false, s.time, 0, false⟩] ∧ t.port = online ∧ t.car = s.car) ∧
                (8 ≤ kept.length →
                  t.queue = kept ∧ t.port = online.offerReport (.frameRefused (.pushStage c.oven c.serial 9 revoke)) ∧
                    t.car = { s.car with readyTimer := some 0 })))))

/-- R30, R31, R33: an ANNOUNCE of another station that is TAKEN fills the sender's entry, and a leaving one clears it; where it shows no
duplicate, and to a station that listens only, nothing more follows (a QUENCH that hears a PUSHER follows its next oven, R156, elsewhere). A
JOINING or ON_LINE PUSHER, GUIDE or QUENCH finds a duplicate role in its own role, a BANK a range of ovens that overlaps its own: the station with
the higher id enters CONFLICT, and the other reports DUPLICATE_SEEN with the sender and the cause, and carries on. A joining GUIDE adopts the
claim of the first announce whose sender is not joining. That the claimant of an adopted claim is the lowest id recorded as PUSHER is log 42, and
that the reports of the table and the duplicate come before those of the adoption log 12. -/
def Obligations.TakenAnnounceFillsEntry : Prop :=
  ∀ (s : State) (w : Window) (f : Frame) (p : Payload) (tr : Trailer) (table : List Entry) (changed : Port) (duplicate : Cause → Prop),
    s.Hears w f → s.line.vto = false → f.body = .announce p tr →
    table = s.table.modify f.sender (fun e => { e with
      role := some p.role
      range := match p with | .bank first sums => some (first, sums.length) | _ => none
      payload := some (p, tr), age := 0, joining := f.joining }) →
    changed = (if (s.entry f.sender).role = some p.role then s.port
      else s.port.offerReport (.stationChange f.sender (s.entry f.sender).presence (some p.role))) →
    (∀ c, duplicate c ↔
      (c = .roleDuplicate ∧ s.role ≠ .bank ∧ p.role = s.role) ∨
      (c = .rangeOverlap ∧ s.role = .bank ∧ ∃ first sums n lim m b q, p = .bank first sums ∧ s.config = some ⟨n, lim, m, .bank b q⟩ ∧
        first < b.first + b.count ∧ b.first < first + sums.length)) →
    (s.OutputsSound → f.leaving = false → (s.life.state = .joining → f.joining = true) → (s.role = .quench → p.role ≠ .pusher) →
      s.life.state = .listenOnly ∨ (∀ c, ¬duplicate c) →
      exec (.settleOutcome false) s = .next { s with line := s.lineAfterClean, table := table, port := changed }) ∧
    (s.OutputsSound → f.leaving = true → (s.life.state = .joining → f.joining = true) →
      exec (.settleOutcome false) s = .next { s with
        line := s.lineAfterClean
        table := s.table.modify f.sender fun _ => .reset
        port := s.port.offerReport (.stationChange f.sender .absent none) }) ∧
    (∀ c, f.leaving = false → s.drives = true → duplicate c →
      (f.sender < s.straps.id →
        ∃ t, exec (.settleOutcome false) s = .next t ∧ t.life.state = .conflict ∧ t.life.conflict = some c ∧ t.OffTheLine ∧ t.table = table ∧
          SameBut [.life, .line, .queue, .table, .claims, .stop, .bank, .plan, .machine, .car, .out, .port] s t) ∧
      (s.straps.id < f.sender →
        (s.OutputsSound → (s.life.state = .joining → f.joining = true) →
          exec (.settleOutcome false) s = .next { s with
            line := s.lineAfterClean
            table := table
            port := changed.offerReport (.duplicateSeen f.sender c) }) ∧
        (s.life.state = .joining → f.joining = false → f.stopped = false →
          ∃ t reports, exec (.settleOutcome false) s = .next t ∧ t.life = { s.life with adopted := true } ∧ t.table = table ∧
            t.line = s.lineAfterClean ∧
            t.port = List.foldl Port.offerReport (changed.offerReport (.duplicateSeen f.sender c)) reports ∧
            SameBut [.life, .line, .queue, .table, .claims, .bank, .plan, .machine, .car, .out, .port] s t))) ∧
    (f.leaving = false → f.joining = false → f.stopped = false → s.life.state = .joining → s.life.adopted = false → s.role = .guide →
      s.bankConfig = none → s.plan = none → (p.role = .guide → s.straps.id < f.sender) → s.openClaim = none →
      ∃ t, exec (.settleOutcome false) s = .next t ∧ t.life = { s.life with adopted := true } ∧ t.table = table ∧
        t.port = (if p.role = .guide then changed.offerReport (.duplicateSeen f.sender .roleDuplicate) else changed) ∧
        t.line = s.lineAfterClean ∧
        t.claims = { s.claims with
          record := if tr.oven = 0 then none else some ⟨tr.oven, tr.serial, t.stationOf .pusher, false, tr.stages, s.time, 0, .opened⟩
          highest := tr.serial, retry := none } ∧
        SameBut [.life, .line, .table, .claims, .machine, .out, .port] s t)

/-! ## Claims -/

/-- R90, R94 to R96, R127, R128, R134: when the claim timer of the OPEN claim stands at the push limit the station offers PUSH_ABANDON
(TIMEOUT), unless one for the serial is in its queue; where the offer is not queued, a station that is not ON_LINE tries again after 1000 ms.
A reseal record whose timer has run 2,400,000 ms ends GIVEN_UP with RESEAL_ENDED, and at its bank a door RESEALING under it leaves it. An
ABANDON that has waited 500 ms is answered BUSY. A reseal timer at the reseal limit restarts, and the bank offers RESEAL_DONE (GIVEN_UP) for the
claim it runs from, the door RESEALING as before; one that it owes since it gave a reseal up is offered again likewise.
What is left of each wait passes first (log 2); the owed RESEAL_DONE is log 32, two open records that name one door log 46, and a door that is
RESEALING again while another is owed log 54. The reply of an ABANDON that finds the reply queue full is lost (log 16). -/
def Obligations.ClaimAndResealWaitsRunOut : Prop :=
  (∀ (s s1 : State) (c : Claim), s.claims.record = some c → c.ending = .opened →
    (s.stop.stopped = false → s.claims.retry = none → c.timer ≤ s.pushLimit → s1 = s.elapse (s.pushLimit - c.timer) →
      (s.life.state = .onLine → s.queue.length < 8 → (∀ e ∈ s.queue, ∀ n a, e.body ≠ .pushAbandon n c.serial a) →
        ∃ t, exec .claimTimerExpiry s = .next t ∧ SameBut [.queue, .out] s1 t ∧
          t.claims.record = some { c with timer := s.pushLimit } ∧
          t.queue = s.queue ++ [⟨.pushAbandon c.oven c.serial 1, false, s1.time, 0, false⟩]) ∧
      ((∃ e ∈ s.queue, ∃ n a, e.body = .pushAbandon n c.serial a) →
        ∃ t, exec .claimTimerExpiry s = .next t ∧ SameBut [.out] s1 t) ∧
      (s.life.state ≠ .onLine → s.queue = [] →
        ∃ t, exec .claimTimerExpiry s = .next t ∧ SameBut [.claims, .out, .port] s1 t ∧
          t.claims = { s1.claims with retry := some 0 } ∧
          t.port = s1.port.offerReport (.frameRefused (.pushAbandon c.oven c.serial 1)))) ∧
    (∀ x, s.claims.retry = some x → s1 = s.elapse (1000 - x) → s.life.state = .onLine → s.queue.length < 8 →
      (∀ e ∈ s.queue, ∀ n a, e.body ≠ .pushAbandon n c.serial a) →
      ∃ t, exec .abandonRetry s = .next t ∧ SameBut [.claims, .queue, .out] s1 t ∧ t.claims = { s1.claims with retry := none } ∧
        t.queue = s.queue ++ [⟨.pushAbandon c.oven c.serial 1, false, s1.time, 0, false⟩])) ∧
  ∀ s : State,
    (∀ slot r s1, s.claims.reseals[slot]? = some (some r) → r.ending = .opened → s.stop.stopped = false → r.timer ≤ 2400000 →
      s1 = s.elapse (2400000 - r.timer) →
      ∃ t, exec (.resealRecordTimerExpiry slot) s = .next t ∧
        t.claims = { s1.claims with
          reseals := s1.claims.reseals.set slot (some { r with
            timer := 2400000, ending := .givenUp, owed := r.owed.map fun x => min (x + (2400000 - r.timer)) s.resealLimit }) } ∧
        (s.bankConfig = none →
          SameBut [.claims, .out, .port] s1 t ∧ t.port = s1.port.offerReport (.resealEnded r.oven r.side r.serial .givenUp)) ∧
        (∀ i x, s.ovenIndex r.oven = some i → s1.bank.doors[doorIndex i r.side]? = some x → x.sealing = .resealing →
          SameBut [.claims, .bank, .out, .port] s1 t ∧ t.bank.ovens = s1.bank.ovens ∧ t.bank.loops = s1.bank.loops ∧
            ∃ y, t.bank.doors = s1.bank.doors.set (doorIndex i r.side) y ∧ y.reseal = none ∧ y.latch = x.latch ∧
              (x.latch = .latched → y.sealing = .seating ∧ y.seat = some 0 ∧ y.ring = List.replicate 8 0) ∧
              (x.latch = .unlatched → y.sealing = .unlatchedUnexpected ∧ y.unlatched = true ∧ y.seat = none))) ∧
    (∀ x, s.port.hold = some (.abandon x) →
      ∃ t, exec .abandonWaitTimeout s = .next t ∧ SameBut [.out, .port] (s.elapse (500 - x)) t ∧
        t.port = { (s.elapse (500 - x)).port with hold := none }.answered .busy) ∧
    ∀ d x slot r p0 p1 n lim m k s1 bank done, s.config = some ⟨n, lim, m, .bank p0 p1⟩ → s.bank.doors[d]? = some x →
      s.stop.stopped = false → s1 = s.elapse (1000 * p1.resealLimit - k) → s.claims.reseals[slot]? = some (some r) →
      r.oven = p0.first + d / 2 → r.side = doorSide d → done = .resealDone r.oven r.side.code r.serial 1 →
      (x.reseal = some k → r.ending = .opened →
        (∀ i y, s.claims.reseals[i]? = some (some y) → y.ending = .opened → y.oven = r.oven → y.side = r.side → i ≠ slot →
          (s1.time + 4294967296 - r.taken) % 4294967296 < (s1.time + 4294967296 - y.taken) % 4294967296) →
        bank = { s1.bank with doors := s1.bank.doors.modify d fun y => { y with reseal := some 0 } } →
        (s.life.state = .onLine → s.queue.length < 8 →
          ∃ t, exec (.resealTimerExpiry d) s = .next t ∧ SameBut [.queue, .bank, .out] s1 t ∧ t.bank = bank ∧
            t.queue = s.queue ++ [⟨done, false, s1.time, 0, false⟩]) ∧
        (s.life.state ≠ .onLine ∨ 8 ≤ s.queue.length →
          ∃ t, exec (.resealTimerExpiry d) s = .next t ∧ SameBut [.bank, .out, .port] s1 t ∧ t.bank = bank ∧
            t.port = s1.port.offerReport (.frameRefused done))) ∧
      (x.reseal = none → r.ending = .givenUp → r.owed = some k →
        (∀ i y, s.claims.reseals[i]? = some (some y) → y.owed ≠ none → (y.oven = r.oven ∧ y.side = r.side) ∨ y.serial = r.serial →
          i = slot) →
        ∃ t, exec (.resealTimerExpiry d) s = .next t ∧ SameBut [.queue, .claims, .out, .port] s1 t ∧
          t.claims = { s1.claims with reseals := s1.claims.reseals.set slot (some { r with owed := some 0 }) } ∧
          (s.life.state = .onLine → s.queue.length < 8 →
            t.port = s1.port ∧ t.queue = s.queue ++ [⟨done, false, s1.time, 0, false⟩]) ∧
          (s.life.state ≠ .onLine ∨ 8 ≤ s.queue.length →
            t.queue = s.queue ∧ t.port = s1.port.offerReport (.frameRefused done)))

/-- R15, R119, R129, R134, R174: ABANDON off the line is BAD_STATE. A PENDING PUSH_CLAIM of this station is withdrawn, one in flight is waited
for. For the OPEN claim a PUSH_ABANDON (LOCAL) is queued unless one for the serial is already there; a BANK whose range does not cover the oven is
refused with ROLE; without an OPEN claim the answer is BAD_STATE. CONSENT with an answer that is none is BAD_ARG; one that names the open ask
takes the frame or vetoes it with CONSENT_REFUSED, and any other is TOO_LATE; before the minimum hold is over the answer is kept with the window,
and the hold goes on (R8). RESUME is BAD_STATE unless the station is ON_LINE and stopped, is refused while the STOP input reads ASSERTED or a
pulse is unnoted, and otherwise queues a RESUME with the highest stop serial seen, once. A frame that finds the queue full is BUSY with
FRAME_REFUSED. That the reports of a row come on the port before its reply is log 63, and that an ANNOUNCE names no oven in a veto log 67; that a
veto is recorded as VTO is asserted is log 10, and that an answer is ACCEPTED and kept, but casts no veto, where the station's own stop pulse has
released HLD log 78. -/
def Obligations.AbandonConsentAndResumeCommands : Prop :=
  (∀ s : State, s.OutputsSound → s.Begins 0x08#8 [] →
    (s.life.state ≠ .onLine → exec .abandon s = .next { s with port := s.port.answered .badState }) ∧
    (s.life.state = .onLine → (∃ e ∈ s.queue, e.inFlight = false ∧ e.body.kind = .pushClaim) →
      exec .abandon s = .next { s with
        queue := s.queue.filter fun e => e.inFlight || decide (e.body.kind ≠ .pushClaim)
        port := s.port.answered .accepted 1 }) ∧
    (s.life.state = .onLine → (∀ e ∈ s.queue, e.body.kind = .pushClaim → e.inFlight = true) →
      (∃ e ∈ s.queue, e.body.kind = .pushClaim) →
      exec .abandon s = .next { s with port := { s.port with hold := some (.abandon 0) } }) ∧
    (s.life.state = .onLine → (∀ e ∈ s.queue, e.body.kind ≠ .pushClaim) →
      (s.openClaim = none → exec .abandon s = .next { s with port := s.port.answered .badState }) ∧
      (∀ c, s.claims.record = some c → c.ending = .opened →
        (s.role = .bank → s.ovenIndex c.oven = none → exec .abandon s = .next { s with port := s.port.answered .refused 5 }) ∧
        ((s.role = .bank → s.ovenIndex c.oven ≠ none) → (∃ e ∈ s.queue, ∃ n a, e.body = .pushAbandon n c.serial a) →
          exec .abandon s = .next { s with port := s.port.answered .accepted }) ∧
        ((s.role = .bank → s.ovenIndex c.oven ≠ none) → (∀ e ∈ s.queue, ∀ n a, e.body ≠ .pushAbandon n c.serial a) →
          s.queue.length < 8 →
          exec .abandon s = .next { s with
            queue := s.queue ++ [⟨.pushAbandon c.oven c.serial 2, false, s.time, 0, false⟩]
            port := s.port.answered .accepted }) ∧
        ((s.role = .bank → s.ovenIndex c.oven ≠ none) → (∀ e ∈ s.queue, ∀ n a, e.body ≠ .pushAbandon n c.serial a) →
          8 ≤ s.queue.length →
          exec .abandon s = .next { s with
            port := (s.port.offerReport (.frameRefused (.pushAbandon c.oven c.serial 2))).answered .busy })))) ∧
  ∀ (s : State), s.OutputsSound →
    (∀ (ask answer : Byte), s.Begins 0x06#8 [ask, answer] →
      (2 ≤ answer.toNat → exec .consent s = .next { s with port := s.port.answered .badArg 2 }) ∧
      (answer.toNat < 2 → (s.openAsk = none ∨ ask.toNat ≠ s.claims.ask) →
        exec .consent s = .next { s with port := s.port.answered .tooLate }) ∧
      (∀ w v, s.line.window = some w → w.verdict = .asking → s.line.hld = true → w.holdDone = true → ask.toNat = s.claims.ask →
        v = ⟨w.kind, w.sender, .consentRefused, (w.frame.map fun f => f.body.oven).getD 0, s.time⟩ →
        (answer = 0#8 →
          exec .consent s = .next { s with
            line := { s.line with hld := false, window := some { w with verdict := .take } }
            port := s.port.answered .accepted }) ∧
        (answer = 1#8 →
          exec .consent s = .next { s with
            line := { s.line with
              hld := false, vto := true, window := some { w with verdict := .veto .consentRefused, cast := true } }
            claims := { s.claims with veto := some v }
            port := (s.port.offerReport (.vetoGiven v)).answered .accepted })) ∧
      ∀ (w : Window) (verdict : Verdict), s.line.window = some w → w.verdict = .asking → s.line.hld = false ∨ w.holdDone = false →
        ask.toNat = s.claims.ask → (answer = 0#8 ∧ verdict = .take) ∨ (answer = 1#8 ∧ verdict = .veto .consentRefused) →
        exec .consent s = .next { s with
          line := { s.line with window := some { w with verdict := verdict } }
          port := s.port.answered .accepted }) ∧
    (s.Begins 0x05#8 [] →
      (s.life.state ≠ .onLine ∨ s.stop.stopped = false → exec .resume s = .next { s with port := s.port.answered .badState }) ∧
      (s.life.state = .onLine → s.stop.stopped = true →
        (s.stop.input = true → exec .resume s = .next { s with port := s.port.answered .refused 19 }) ∧
        (s.stop.input = false → s.stop.mark ≠ none → exec .resume s = .next { s with port := s.port.answered .refused 6 }) ∧
        (s.stop.input = false → s.stop.mark = none → (∃ e ∈ s.queue, e.body.kind = .resume) →
          exec .resume s = .next { s with port := s.port.answered .accepted }) ∧
        (s.stop.input = false → s.stop.mark = none → (∀ e ∈ s.queue, e.body.kind ≠ .resume) → s.queue.length < 8 →
          exec .resume s = .next { s with
            queue := s.queue ++ [⟨.resume s.stop.highest, false, s.time, 0, false⟩]
            port := s.port.answered .accepted }) ∧
        (s.stop.input = false → s.stop.mark = none → (∀ e ∈ s.queue, e.body.kind ≠ .resume) → 8 ≤ s.queue.length →
          exec .resume s = .next { s with
            port := (s.port.offerReport (.frameRefused (.resume s.stop.highest))).answered .busy })))

/-- R32, R114 to R116, R118, R172: how a station that did not send it judges a PUSH_CLAIM, check by check in the rules' order. -/
def Obligations.PushClaimJudged : Prop :=
  ∀ (s : State) (f : Frame) (n c : Nat) (forced : Bool), f.body = .pushClaim n c forced →
    (s.life.state = .joining → s.judge false f = if s.ovenIndex n = none then .take else .veto .ownerJoining) ∧
    (s.life.state = .listenOnly → s.judge false f = .take) ∧
    (s.life.state = .onLine →
      (s.stop.stopped = true → s.judge false f = .veto .stopped) ∧
      (s.stop.stopped = false →
        ((s.entry f.sender).role ≠ some .pusher → s.judge false f = .veto .role) ∧
        ((s.entry f.sender).role = some .pusher →
          (s.claims.highest ≠ 0 → c ≠ s.claims.highest % 255 + 1 → s.judge false f = .veto .staleSerial) ∧
          ((s.claims.highest = 0 ∨ c = s.claims.highest % 255 + 1) →
            (∀ r, s.claims.record = some r → r.ending = .opened → s.judge false f = .veto .claimBusy) ∧
            ((∀ r, s.claims.record = some r → r.ending ≠ .opened) →
              (∀ r, some r ∈ s.claims.reseals → r.ending = .opened → r.oven = n → s.judge false f = .veto .resealOpen) ∧
              ((∀ r, some r ∈ s.claims.reseals → r.ending = .opened → r.oven ≠ n) →
                (s.role = .pusher → s.judge false f = .take) ∧
                (s.role = .bank → s.ovenIndex n = none → s.judge false f = .take) ∧
                (∀ p0 p1 cfgN lim m i o x y l need, s.role = .bank → s.config = some ⟨cfgN, lim, m, .bank p0 p1⟩ →
                  s.ovenIndex n = some i → s.bank.ovens[i]? = some o → s.bank.doors[2 * i]? = some x → s.bank.doors[2 * i + 1]? = some y →
                  s.bank.loops[i]? = some l → need = (if forced = true then 64 * p0.target - 3840 else 64 * p0.target) →
                  s.judge false f =
                    if o.state ≠ .coking ∨ o.credit < need then .veto .notReady
                    else if x.latch = .unlatched ∨ y.latch = .unlatched ∨ x.sealing ∉ [.tight, .weeping, .leaking] ∨
                        y.sealing ∉ [.tight, .weeping, .leaking] then .veto .doorState
                    else if l.mode = .manual ∨ l.mode = .released ∨ l.lost = true then .veto .regulator
                    else if m.pushClaim = true then .ask else .take) ∧
                (s.role = .guide →
                  s.judge false f =
                    if s.machine.position ≠ n then .veto .position
                    else if (s.openReseals.any fun r => decide (r.side = .cs)) = true then .veto .resealOpen
                    else if s.owner? n = none then .veto .ownerAbsent
                    else if s.consent.pushClaim = true then .ask else .take) ∧
                (s.role = .quench →
                  s.judge false f =
                    if s.car.state ≠ .spotted ∨ s.car.marker ≠ n ∨ s.car.load ≠ .none then .veto .car
                    else if s.owner? n = none then .veto .ownerAbsent
                    else if s.consent.pushClaim = true then .ask else .take)))))))

/-- R122, R123, R130: how an ON_LINE station, the sender included, judges a PUSH_STAGE and a PUSH_ABANDON against its claim record. -/
def Obligations.StageAndAbandonJudged : Prop :=
  ∀ (s : State) (own : Bool) (f : Frame) (n c : Nat), s.life.state = .onLine →
    ((∀ r, s.claims.record = some r → r.ending = .opened → r.oven = n → r.serial ≠ c) →
      (∀ x revoke, f.body = .pushStage n c x revoke → s.judge own f = .veto .staleSerial) ∧
      ∀ a, f.body = .pushAbandon n c a → s.judge own f = .veto .staleSerial) ∧
    (∀ r (t : StageSet), s.claims.record = some r → r.ending = .opened → r.oven = n → r.serial = c → t = r.stages →
      (∀ x revoke, f.body = .pushStage n c x revoke →
        let pusher := (s.entry f.sender).role = some .pusher
        let guide := (s.entry f.sender).role = some .guide
        let quench := (s.entry f.sender).role = some .quench
        let allowed : Prop :=
          if revoke = true then
            (x = 8 ∧ guide ∧ t.guideSet = true ∧ t.ramHome = false) ∨ (x = 9 ∧ quench ∧ t.carReady = true ∧ t.carLoaded = false)
          else
            (x = 0 ∧ (s.entry f.sender).covers n = true ∧ t.isolated = false) ∨
            (x = 1 ∧ pusher ∧ t.isolated = true ∧ t.psDoorOff = false) ∨
            (x = 2 ∧ guide ∧ t.isolated = true ∧ t.csDoorOff = false) ∨
            (x = 8 ∧ guide ∧ t.ramHome = false ∧ t.guideSet = false) ∨
            (x = 9 ∧ quench ∧ t.carLoaded = false ∧ t.carReady = false) ∨
            (x = 3 ∧ pusher ∧ t.isolated = true ∧ t.psDoorOff = true ∧ t.csDoorOff = true ∧ t.guideSet = true ∧ t.carReady = true ∧
              t.ramOut = false) ∨
            (x = 4 ∧ quench ∧ t.ramOut = true ∧ t.carReady = true ∧ t.carLoaded = false) ∨
            (x = 5 ∧ pusher ∧ t.ramOut = true ∧ t.ramHome = false) ∨
            (x = 6 ∧ pusher ∧ t.ramHome = true ∧ t.psDoorOn = false) ∨
            (x = 7 ∧ guide ∧ t.ramHome = true ∧ t.csDoorOn = false)
        (allowed → s.judge own f = .take) ∧ (¬allowed → s.judge own f = .veto .order)) ∧
      ∀ a, f.body = .pushAbandon n c a →
        let role := (s.entry f.sender).role
        let allowed : Prop :=
          a = 1 ∨ (a = 2 ∧ (role = some .pusher ∨ role = some .guide ∨ role = some .quench ∨ (s.entry f.sender).covers n = true)) ∨
            (a = 3 ∧ role = some .quench)
        (allowed → s.judge own f = .take) ∧ (¬allowed → s.judge own f = .veto .role))

/-- R32, R51, R62, R91, R92, R95, R172, R173, R175: how a station judges the other frames, check by check in the rules' order. CENSUS,
ANNOUNCE, MAIN_PRESSURE, RESEAL_CALL and STOP_NOTE are never vetoed; RESEAL_CLAIM, RESEAL_DONE, CHARGED and RESUME by their rules; a joining
station judges claims on its own ovens and RESUME alone, and a listening one nothing.
That a station does not judge its own RESEAL_DONE is log 51, and that CHARGED is taken from any entry that shows the role PUSHER log 42. -/
def Obligations.OtherFramesJudged : Prop :=
  ∀ (s : State) (own : Bool) (f : Frame),
    (f.body.kind ∈ [.census, .announce, .mainPressure, .resealCall, .stopNote] → s.judge own f = .take) ∧
    (s.life.state = .listenOnly → s.judge own f = .take) ∧
    (s.life.state = .joining →
      (f.body.kind ∈ [.pushStage, .pushAbandon, .resealDone, .charged] → s.judge own f = .take) ∧
      ∀ n j r, f.body = .resealClaim n j r → s.judge false f = if s.ovenIndex n = none then .take else .veto .ownerJoining) ∧
    (∀ n j r, f.body = .resealClaim n (Side.code j) r → s.life.state = .onLine → s.judge true f = .take ∧
      s.judge false f =
        if s.stop.stopped = true then .veto .stopped
        else if (s.entry f.sender).role ≠ some j.role then .veto .role
        else if s.claims.highestReseal ≠ 0 ∧ r ≠ s.claims.highestReseal % 255 + 1 then .veto .staleSerial
        else if (s.openReseals.any fun y => decide (y.oven = n ∧ y.side = j)) = true ∨ 4 ≤ s.openReseals.length then .veto .resealOpen
        else if (s.claims.record.any fun c => decide (c.ending = .opened ∧ c.oven = n)) = true then .veto .claimBusy
        else if s.owner? n = none then .veto .ownerAbsent
        else match s.ovenIndex n with
          | none => .take
          | some i =>
            if ((s.bank.ovens[i]?).any fun o => decide (o.state ∈ [.unknown, .claimed, .pushing, .held])) = true ∨
                ((s.bank.doors[doorIndex i j]?).any fun x => decide (x.sealing ∈ [.off, .resealing, .seating])) = true then
              .veto .doorState
            else if s.consent.resealClaim = true then .ask else .take) ∧
    (∀ n j r, f.body = .resealClaim n j r → 2 ≤ j → s.life.state = .onLine →
      s.judge false f = if s.stop.stopped = true then .veto .stopped else .veto .role) ∧
    (∀ n j r o, f.body = .resealDone n j r o → s.judge true f = .take) ∧
    (∀ n j r o, f.body = .resealDone n (Side.code j) r o → s.life.state = .onLine →
      s.judge false f =
        if ¬((o = 0 ∧ (s.entry f.sender).role = some j.role) ∨ (o = 1 ∧ (s.entry f.sender).covers n = true)) then .veto .role
        else if (s.claims.reseals.any fun y => y.any fun z =>
          decide (z.serial = r ∧ (z.ending ≠ .opened ∨ z.oven ≠ n ∨ z.side ≠ j))) = true then .veto .staleSerial
        else .take) ∧
    (∀ n j r o, f.body = .resealDone n j r o → 2 ≤ j → s.life.state = .onLine → s.judge false f = .veto .role) ∧
    (∀ n, f.body = .charged n → s.life.state = .onLine →
      s.judge own f =
        if s.stop.stopped = true then .veto .stopped
        else match s.ovenIndex n with
          | none => .take
          | some i =>
            if (s.entry f.sender).role ≠ some .pusher then .veto .role
            else if ((s.bank.ovens[i]?).any fun o => decide (o.state = .empty)) = false then .veto .notReady
            else if ([doorIndex i .ps, doorIndex i .cs].any fun d => (s.bank.doors[d]?).any fun x =>
              decide (x.latch = .unlatched ∨ x.sealing ∈ [.off, .resealing, .unlatchedUnexpected])) = true then .veto .doorState
            else .take) ∧
    ∀ r, f.body = .resume r → s.life.state = .onLine ∨ s.life.state = .joining → s.judge true f = .take ∧
      s.judge false f =
        if s.life.state = .onLine ∧ (s.stop.mark ≠ none ∨ (s.stop.highest ≠ 0 ∧ r ≠ s.stop.highest)) then .veto .staleSerial
        else if s.stop.input = true then .veto .localStop
        else if s.consent.resume = true then .ask else .take

/-- R30, R36, R69, R108, R117, R121: a PUSH_CLAIM that is TAKEN fills the claim record and makes its serial the highest seen, ON_LINE, JOINING and
LISTEN_ONLY alike. At the GUIDE, and at a bank of other ovens, nothing else changes but the sender's flags and the report; at its bank an oven in
COKING becomes CLAIMED, which is reported, and its loop ISOLATING, and one in another state is left as it is, its state reported as old and new;
at the PUSHER, which sent it, the frame leaves the queue and the plan unit notes oven and cycle. That OVEN_STATE stands before CLAIM_OUTCOME on
the port, and a cause of attention that changes before OVEN_STATE, is log 12. That a joining station reports STOPPED (ADOPTED) only where the
condition was clear is log 75. -/
def Obligations.PushClaimTaken : Prop :=
  ∀ (s : State) (w : Window) (f : Frame) (n c : Nat) (forced : Bool) (sender : Nat) (record : Claim),
    f.body = .pushClaim n c forced → s.openClaim = none → s.line.vto = false →
    record = ⟨n, c, some sender, forced, ⟨false, false, false, false, false, false, false, false, false, false⟩, s.time, 0, .opened⟩ →
    (∀ s1, s.Hears w f → sender = f.sender → w.verdict = .take → s.plan = none → s1 = s.windowEnded f s.queue →
      (s.role ≠ .quench → s.ovenIndex n = none →
        ∃ t, exec (.settleOutcome false) s = .next t ∧ SameBut [.claims, .out, .port] s1 t ∧
          t.claims = { s.claims with record := some record, highest := c, retry := none } ∧
          t.port = s1.port.offerReport (.pushOutcome n c forced .taken (some f.sender) none)) ∧
      (∀ p0 p1 cfgN lim m i o l x y, s.role = .bank → s.config = some ⟨cfgN, lim, m, .bank p0 p1⟩ →
        s.ovenIndex n = some i → s.bank.ovens[i]? = some o → s.bank.loops[i]? = some l → s.bank.doors[2 * i]? = some x →
        s.bank.doors[2 * i + 1]? = some y → x.sealing ≠ .resealing → y.sealing ≠ .resealing → x.sealing ≠ .off → y.sealing ≠ .off →
        (o.state = .coking →
          ∃ t o1, exec (.settleOutcome false) s = .next t ∧ SameBut [.claims, .bank, .out, .port] s1 t ∧
            t.claims = { s.claims with record := some record, highest := c, retry := none } ∧
            t.bank = { s.bank with
              ovens := s.bank.ovens.set i o1
              loops := s.bank.loops.set i { l with mode := .isolating, a := 0, zero := 0, charge := none, target := none } } ∧
            o1.state = .claimed ∧ o1.credit = o.credit ∧ o1.stamp = o.stamp ∧ o1.temp = o.temp ∧ o1.held = none ∧
            t.port =
              (let p1 := if o1.overcoked = o.overcoked then s1.port
                else s1.port.offerReport (.attention (some n) none .overcoked o1.overcoked)
               let p2 := if o1.faulted = o.faulted then p1 else p1.offerReport (.attention (some n) none .faulted o1.faulted)
               (p2.offerReport (.ovenState n .coking .claimed o.credit o1.readiness o.stamp)).offerReport
                (.pushOutcome n c forced .taken (some f.sender) none))) ∧
        (o.state ≠ .coking →
          ∃ t, exec (.settleOutcome false) s = .next t ∧ SameBut [.claims, .out, .port] s1 t ∧
            t.claims = { s.claims with record := some record, highest := c, retry := none } ∧
            t.port = (s1.port.offerReport (.ovenState n o.state o.state o.credit o.readiness o.stamp)).offerReport
              (.pushOutcome n c forced .taken (some f.sender) none)))) ∧
    (∀ k e p, s.OwnWindow w k e → s.life.state = .onLine → e.body = f.body → w.frame = some f → f.sender = s.straps.id →
      sender = s.straps.id → s.role = .pusher → s.bankConfig = none → s.port.hold = none → s.plan = some p →
      ∃ t p1, exec (.settleOutcome false) s = .next t ∧ SameBut [.line, .queue, .table, .claims, .plan, .out, .port] s t ∧
        t.queue = s.queue.eraseIdx k ∧ t.claims = { s.claims with record := some record, highest := c, retry := none } ∧
        t.plan = some p1 ∧ p1.note = some (n, p.cycle) ∧ t.port = s.port.offerReport (.pushOutcome n c forced .taken none none))

/-- R33, R70, R71, R83, R85, R111, R124 to R126, R131, R141, R143: a PUSH_STAGE that is TAKEN for the OPEN claim, another station's or this
station's own, ON_LINE, JOINING and LISTEN_ONLY alike, sets or clears its stage and is reported; an own one leaves the send queue. A revoke of
GUIDE_SET or the set of RAM_HOME ends an owed revoke; an own set of GUIDE_SET is followed by the revoke owed since, an own revoke by the set
wanted since. At the claim's bank ISOLATED clears the stage owed flag of the loop, RAM_OUT takes a CLAIMED oven to PUSHING and leaves any other,
and the other stages but the doors' change nothing (the doors: `Obligations.BankDoorsFollowFrames`; a QUENCH station:
`Obligations.QuenchFollowsFrames`). The eighth permanent stage closes the claim: CLAIM_CLOSED is reported with the claim timer's value, PENDING
stage and abandon frames of the serial leave with STAGE_LATE and ABANDON_LATE, and no revoke is owed; at its bank the oven becomes EMPTY with
credit and stamp 0, its loop is isolated, or ramps first where its output is above 0, and owes no stage, and its doors follow the stage and then
the end of the claim (`Door.atClaimEnd`). A stage for another claim changes no record. The order of several reports is log 12, that a running
revoke retry timer stops as the revoke is queued log 69, that an owed revoke which meets a PENDING set withdraws it and offers nothing log 79, and
that a set which waits for its revoke is wanted until that revoke's outcome, also where a stop run has cut it once, and is not tried again where
it is refused log 80. That a joining station reports STOPPED (ADOPTED) only where the condition was clear is log 75. That a loop in ISOLATING with
output 0 is ISOLATED at once is log 55. That a running OFF_EXPECTED watch ends at the closure is log 66, that of OFF and SEATING in one event a
FREE event latch captures OFF log 65, and that a door in SEATING which reads UNLATCHED stays so log 71. -/
def Obligations.StageTaken : Prop :=
  ∀ (s s1 : State) (w : Window) (f : Frame) (rest : List QueueEntry) (n c : Nat) (y : Stage) (revoke : Bool),
    s.Ends w f rest → s.line.vto = false → f.body = .pushStage n c y.code revoke → s1 = s.windowEnded f rest →
    (s.Hears w f → (∀ r, s.claims.record = some r → r.ending = .opened → r.oven = n → r.serial ≠ c) →
      ∃ t, exec (.settleOutcome false) s = .next t ∧ SameBut [.out] s1 t) ∧
    ∀ (r : Claim) (stages : StageSet) (m : MachineUnit) (seen : Port),
      s.claims.record = some r → r.ending = .opened → r.oven = n → r.serial = c → stages = r.stages.put y (!revoke) →
      m = (if (y = .guideSet ∧ revoke = true) ∨ (y = .ramHome ∧ revoke = false) then
        { s.machine with revokeOwed := none, revokeTimer := none } else s.machine) →
      seen = s1.port.offerReport (.stageSeen n c y revoke) →
      (s.role ≠ .quench → r.stages.complete = true ∨ stages.complete = false →
        (∀ z : RevokeOffers, s.ovenIndex n = none ∨ revoke = true ∨ y ∈ [.carLoaded, .ramHome, .guideSet, .carReady] →
          z = (if w.own = true ∧ y = .guideSet ∧ revoke = false ∧ m.revokeOwed = some c then { s1 with port := seen }.revokeOffers r m
            else if w.own = true ∧ y = .guideSet ∧ revoke = true ∧ m.setWanted = some c then
              if s.life.state = .onLine ∧ rest.length < 8 then
                ⟨{ m with setWanted := none }, rest ++ [⟨.pushStage n c 8 false, false, s.time, 0, false⟩], seen⟩
              else ⟨{ m with setWanted := none }, rest, seen.offerReport (.frameRefused (.pushStage n c 8 false))⟩
            else ⟨m, rest, seen⟩) →
          ∃ t, exec (.settleOutcome false) s = .next t ∧ SameBut [.queue, .claims, .machine, .out, .port] s1 t ∧
            t.claims = { s.claims with record := some { r with stages := stages } } ∧ t.machine = z.machine ∧ t.queue = z.queue ∧
            t.port = z.port) ∧
        ∀ i, s.ovenIndex n = some i → revoke = false →
          (y = .isolated →
            ∃ t, exec (.settleOutcome false) s = .next t ∧ SameBut [.claims, .bank, .out, .port] s1 t ∧
              t.claims = { s.claims with record := some { r with stages := stages } } ∧ t.port = seen ∧
              t.bank = { s.bank with loops := s.bank.loops.modify i fun l => { l with owed := false } }) ∧
          (∀ o, y = .ramOut → s.bank.ovens[i]? = some o →
            (o.state = .claimed →
              ∃ t, exec (.settleOutcome false) s = .next t ∧ SameBut [.claims, .bank, .out, .port] s1 t ∧
                t.claims = { s.claims with record := some { r with stages := stages } } ∧
                t.bank = { s.bank with
                  ovens := s.bank.ovens.set i { o with
                    state := .pushing, held := none, readiness := .notReady, minutes := 4095, overcoked := false, faulted := false } } ∧
                t.port =
                  (let p1 := if o.overcoked = true then seen.offerReport (.attention (some n) none .overcoked false) else seen
                   let p2 := if o.faulted = true then p1.offerReport (.attention (some n) none .faulted false) else p1
                   p2.offerReport (.ovenState n .claimed .pushing o.credit .notReady o.stamp))) ∧
            (o.state ≠ .claimed →
              ∃ t, exec (.settleOutcome false) s = .next t ∧ SameBut [.claims, .out, .port] s1 t ∧
                t.claims = { s.claims with record := some { r with stages := stages } } ∧ t.port = seen))) ∧
      (r.stages.complete = false → stages.complete = true →
        (s.ovenIndex n = none →
          (s.role = .quench → y ≠ .ramOut ∧ y ≠ .carLoaded ∧ ∀ e ∈ rest, ∀ q b, e.body ≠ .pushStage q c 9 b) →
          ∃ t, exec (.settleOutcome false) s = .next t ∧ SameBut [.queue, .claims, .plan, .machine, .out, .port] s1 t ∧
            t.claims = { s.claims with record := some { r with stages := stages, ending := .closed }, retry := none } ∧
            t.queue = queueAfterClaim c rest ∧
            t.machine = { s.machine with revokeOwed := none, revokeTimer := none, setWanted := none } ∧
            t.port = (seen.offerReport (.claimClosed n c r.timer)).lateFrames c false rest ∧ (s.plan = none → t.plan = none)) ∧
        ∀ i o l ps cs, s.role = .bank → s.plan = none → s.ovenIndex n = some i → s.bank.ovens[i]? = some o → s.bank.loops[i]? = some l →
          s.bank.doors[2 * i]? = some ps → s.bank.doors[2 * i + 1]? = some cs →
          ∃ t o1 l1, exec (.settleOutcome false) s = .next t ∧ SameBut [.queue, .claims, .bank, .machine, .out, .port] s1 t ∧
            t.claims = { s.claims with record := some { r with stages := stages, ending := .closed }, retry := none } ∧
            t.queue = queueAfterClaim c rest ∧
            t.machine = { s.machine with revokeOwed := none, revokeTimer := none, setWanted := none } ∧
            (∃ before behind : List Report, (before ++ behind).all Report.ofBank = true ∧
              t.port = behind.foldl Port.offerReport
                (((before.foldl Port.offerReport seen).offerReport (.claimClosed n c r.timer)).lateFrames c false rest)) ∧
            t.bank = { s.bank with
              ovens := s.bank.ovens.set i o1, loops := s.bank.loops.set i l1
              doors := (s.bank.doors.set (2 * i)
                  (ps.atClaimEnd (decide (y = .psDoorOn)) (decide (y = .psDoorOff)) (decide (o.state ≠ .faulted)))).set (2 * i + 1)
                (cs.atClaimEnd (decide (y = .csDoorOn)) (decide (y = .csDoorOff)) (decide (o.state ≠ .faulted))) } ∧
            (o.state = .claimed ∨ o.state = .pushing →
              o1.state = .empty ∧ o1.credit = 0 ∧ o1.stamp = 0 ∧ o1.readiness = .notReady ∧
              l1 = (if l.mode = .isolated then { l with owed := false }
                else if l.u.getD 0 ≤ 0 then { l with mode := .isolated, charge := none, target := none, owed := false }
                else if l.mode = .isolating then { l with owed := false }
                else { l with mode := .isolating, a := 0, zero := 0, charge := none, target := none, owed := false })) ∧
            (o.state ≠ .claimed → o.state ≠ .pushing → o1 = o ∧ l1 = { l with owed := false }))

/-- R17, R33, R70 to R72, R83, R85, R126, R131 to R133, R141: a PUSH_ABANDON that is TAKEN, another station's or this station's own, ON_LINE,
JOINING and LISTEN_ONLY alike, ends the OPEN claim with its cause everywhere: CLAIM_ABANDONED is reported with the stage set, the station's
PENDING stage and abandon frames for the serial leave its queue, the stages with STAGE_LATE, and no revoke is owed. At the claim's bank an oven
that is CLAIMED or PUSHING becomes FAULTED with RAM_OUT set; else a CLAIMED one HELD with a door-off stage set, and COKING with none, its loop in
COLLECT with A at 0. The loop owes no stage from then on, an OFF_EXPECTED watch ends, and a latched door in OFF seats unless the oven is FAULTED.
(A QUENCH station: `Obligations.QuenchFollowsFrames`; the plan: `Obligations.PlanFollowsClaimEnds`.) The order of several reports is log 12. That
a joining station reports STOPPED (ADOPTED) only where the condition was clear is log 75. That a loop in ISOLATING with output 0 is ISOLATED at
once is log 55, and that a door in SEATING which reads UNLATCHED stays so log 71. -/
def Obligations.AbandonTaken : Prop :=
  ∀ (s s1 : State) (w : Window) (f : Frame) (rest : List QueueEntry) (n c a : Nat) (cause : AbandonCause) (r : Claim) (told : Port),
    s.Ends w f rest → s.line.vto = false → f.body = .pushAbandon n c a → s1 = s.windowEnded f rest → s.claims.record = some r →
    r.ending = .opened → r.oven = n → r.serial = c →
    ((a = 1 ∧ cause = .timeout) ∨ (a = 2 ∧ cause = .command) ∨ (a = 3 ∧ cause = .carFault)) →
    told = (s1.port.offerReport (.claimAbandoned n c cause r.stages)).lateFrames c true rest →
    (s.role ≠ .quench → s.ovenIndex n = none →
      ∃ t, exec (.settleOutcome false) s = .next t ∧ SameBut [.queue, .claims, .plan, .machine, .out, .port] s1 t ∧
        t.claims = { s.claims with record := some { r with ending := .abandoned cause }, retry := none } ∧
        t.queue = queueAfterClaim c rest ∧
        t.machine = { s.machine with revokeOwed := none, revokeTimer := none, setWanted := none } ∧ t.port = told ∧
        (s.plan = none → t.plan = none)) ∧
    (∀ i o l ps cs, s.role = .bank → s.plan = none → s.ovenIndex n = some i → s.bank.ovens[i]? = some o →
      (o.faulted = true ↔ o.state = .faulted) → s.bank.loops[i]? = some l → s.bank.doors[2 * i]? = some ps →
      s.bank.doors[2 * i + 1]? = some cs →
      ∃ t o1 l1, exec (.settleOutcome false) s = .next t ∧
        SameBut [.queue, .claims, .bank, .machine, .out, .port] s1 t ∧
        t.claims = { s.claims with record := some { r with ending := .abandoned cause }, retry := none } ∧
        t.queue = queueAfterClaim c rest ∧
        t.machine = { s.machine with revokeOwed := none, revokeTimer := none, setWanted := none } ∧
        (∃ behind : List Report, behind.all Report.ofBank = true ∧ t.port = behind.foldl Port.offerReport told) ∧
        t.bank = { s.bank with
          ovens := s.bank.ovens.set i o1, loops := s.bank.loops.set i l1
          doors := (s.bank.doors.set (2 * i) (ps.atClaimEnd false false (decide (o1.state ≠ .faulted)))).set (2 * i + 1)
            (cs.atClaimEnd false false (decide (o1.state ≠ .faulted))) } ∧
        o1.state =
          (if (o.state = .claimed ∨ o.state = .pushing) ∧ r.stages.ramOut = true then .faulted
          else if o.state = .claimed then
            if r.stages.psDoorOff = true ∨ r.stages.csDoorOff = true then .held else .coking
          else o.state) ∧
        (o1.faulted = true ↔ o1.state = .faulted) ∧ o1.credit = o.credit ∧
        o1.held = (if o1.state = o.state then o.held
          else if o1.state = .held ∧ ps.latch = .latched ∧ cs.latch = .latched then some 0 else none) ∧
        (o1.state = .coking → o.state = .claimed →
          l1 = { l with mode := .collect, a := 0, zero := 0, owed := false, charge := none, target := none }) ∧
        (o1.state = o.state → l1 = { l with owed := false }) ∧
        (o1.state ≠ .coking → o1.state ≠ o.state →
          l1 = (if l.mode = .isolated then { l with owed := false }
            else if l.u.getD 0 ≤ 0 then { l with mode := .isolated, charge := none, target := none, owed := false }
            else if l.mode = .isolating then { l with owed := false }
            else { l with mode := .isolating, a := 0, zero := 0, charge := none, target := none, owed := false })))

/-- R48, R52, R60, R62, R68, R84, R89, R90, R93, R95, R173, R175: the other frames that are TAKEN. MAIN_PRESSURE fills a bank's record where it
has no sensor of its own; CHARGED takes an EMPTY oven to COKING with credit and stamp 0 and its loop to CHARGE, and leaves an oven in another
state as it is, its state reported as old and new; a RESEAL_CALL for its side from the oven's bank joins a machine's reseal queue; a RESEAL_CLAIM
opens a record in an empty slot, with none empty in that of the oldest ended record, else of the oldest open one; a RESEAL_DONE ends the record of
its serial, and gives a station that has seen no serial its own; a STOP_NOTE is the stop record and clears the unnoted mark; a RESUME clears the
stopped condition. That the lowest of several empty slots, or of several as old, is taken is log 23, the settling of an owed RESEAL_DONE log 32,
the end of several records of one serial log 56, that the serial alone names the record which a RESEAL_DONE ends log 77, and that a loop enters
CHARGE with the output and A as they stand log 45. -/
def Obligations.OtherFramesTaken : Prop :=
  ∀ (s : State) (w : Window) (f : Frame) (table : List Entry), s.Hears w f → s.line.vto = false → s.life.state = .onLine →
    table = s.table.modify f.sender (fun e => { e with joining := f.joining, attention := f.attention }) →
    (∀ p q p0 p1 n lim m, s.OutputsSound → f.body = .mainPressure p q → s.config = some ⟨n, lim, m, .bank p0 p1⟩ → p1.mainSensor = false →
      exec (.settleOutcome false) s = .next { s with
        line := s.lineAfterClean, table := table
        bank := { s.bank with main := some ⟨p, if q = 0 then .good else .rail⟩, mainAge := 0 } }) ∧
    (∀ n i o l, f.body = .charged n → s.bankConfig ≠ none → s.ovenIndex n = some i → s.bank.ovens[i]? = some o →
      s.bank.loops[i]? = some l → o.state = .empty →
      ∃ t o1, exec (.settleOutcome false) s = .next t ∧ SameBut [.line, .table, .bank, .out, .port] s t ∧
        t.bank = { s.bank with
          ovens := s.bank.ovens.set i o1
          loops := s.bank.loops.set i { l with mode := .charge, charge := some 0, target := none } } ∧
        o1.state = .coking ∧ o1.credit = 0 ∧ o1.stamp = 0) ∧
    (∀ n i o, s.OutputsSound → f.body = .charged n → s.bankConfig ≠ none → s.ovenIndex n = some i → s.bank.ovens[i]? = some o →
      o.state ≠ .empty →
      exec (.settleOutcome false) s = .next { s with
        line := s.lineAfterClean, table := table
        port := s.port.offerReport (.ovenState n o.state o.state o.credit o.readiness o.stamp) }) ∧
    (∀ n j, s.OutputsSound → f.body = .resealCall n j → s.side?.map Side.code = some j → (s.entry f.sender).covers n = true →
      n ∉ s.machine.queue →
      (s.machine.queue.length < 4 →
        exec (.settleOutcome false) s = .next { s with
          line := s.lineAfterClean, table := table, machine := { s.machine with queue := s.machine.queue ++ [n] }
          port := s.port.offerReport (.resealCalled n (if j = 0 then .ps else .cs) true) }) ∧
      (4 ≤ s.machine.queue.length →
        exec (.settleOutcome false) s = .next { s with
          line := s.lineAfterClean, table := table
          port := s.port.offerReport (.resealQueueFull n (if j = 0 then .ps else .cs)) })) ∧
    (∀ n j r k, f.body = .resealClaim n (Side.code j) r → s.bankConfig = none →
      s.claims.reseals.findIdx? Option.isNone = some k →
      ∃ t, exec (.settleOutcome false) s = .next t ∧ SameBut [.line, .table, .claims, .machine, .out] s t ∧
        t.claims = { s.claims with
          highestReseal := r, reseals := s.claims.reseals.set k (some ⟨n, j, r, f.sender, s.time, 0, .opened, none⟩) } ∧
        t.machine = { s.machine with
          queue := if s.side? = some j then s.machine.queue.filter (fun x => decide (x ≠ n)) else s.machine.queue }) ∧
    (∀ (n : Nat) (j : Side) (r k : Nat) (lost : Reseal), f.body = .resealClaim n (Side.code j) r → s.bankConfig = none →
      (∀ i : Nat, s.claims.reseals[i]? ≠ some none) →
      let age : Reseal → Nat := fun x => (s.time + 4294967296 - x.taken) % 4294967296
      s.claims.reseals[k]? = some (some lost) →
      (lost.ending ≠ .opened ∧
          (∀ (i : Nat) x, s.claims.reseals[i]? = some (some x) → x.ending ≠ .opened → age x ≤ age lost ∧ (i < k → age x < age lost))) ∨
        (∀ (i : Nat) x, s.claims.reseals[i]? = some (some x) → x.ending = .opened ∧ age x ≤ age lost ∧ (i < k → age x < age lost)) →
      ∃ t, exec (.settleOutcome false) s = .next t ∧ SameBut [.line, .table, .claims, .machine, .out] s t ∧
        t.claims = { s.claims with
          highestReseal := r, reseals := s.claims.reseals.set k (some ⟨n, j, r, f.sender, s.time, 0, .opened, none⟩) } ∧
        t.machine = { s.machine with
          queue := if s.side? = some j then s.machine.queue.filter (fun x => decide (x ≠ n)) else s.machine.queue }) ∧
    (∀ n j r o ended, f.body = .resealDone n j r o → o < 2 → s.bankConfig = none →
      ended = s.openReseals.filter (fun y => decide (y.serial = r)) →
      ∃ t how, exec (.settleOutcome false) s = .next t ∧ SameBut [.line, .queue, .table, .claims, .out, .port] s t ∧
        how = (if o = 0 then ResealEnd.done else .givenUp) ∧
        t.queue = s.queue.filter (fun e => e.inFlight ||
          !(match e.body with | .resealDone _ _ q _ => decide (q = r) | _ => false)) ∧
        t.claims = { s.claims with
          highestReseal := if s.claims.highestReseal = 0 then r else s.claims.highestReseal
          reseals := s.claims.reseals.map (Option.map fun y =>
            if y.serial = r then { y with owed := none, ending := if y.ending = .opened then how else y.ending } else y) } ∧
        t.port = ended.foldl (fun p x => p.offerReport (.resealEnded x.oven x.side r how)) s.port) ∧
    (∀ a r, s.OutputsSound → f.body = .stopNote a r → a < 2 →
      let cause : StopCause := if a = 0 then .command else .stopInput
      exec (.settleOutcome false) s = .next { s with
        line := s.lineAfterClean, table := table
        stop := { s.stop with highest := r, note := some ⟨r, cause, f.sender⟩, mark := none }
        port := s.port.offerReport (.stopped .note (some r) (some cause) (some f.sender)) }) ∧
    (∀ r, f.body = .resume r →
      ∃ t, exec (.settleOutcome false) s = .next t ∧ SameBut [.line, .table, .stop, .out, .port] s t ∧
        t.stop = { s.stop with stopped := false } ∧ t.port = s.port.offerReport (.resumed r f.sender))

/-- R17, R81 to R85, R93 to R95: what taken frames do to the doors of the claim's bank. A door-off stage takes a door to OFF, its timers stopped,
and starts the mismatch watch where the latch still reads LATCHED; a door-on stage seats a latched door in OFF and starts the watch of one
that is unlatched (for the stage that closes the claim see `Obligations.StageTaken`). A RESEAL_CLAIM takes the door to RESEALING with its timer
from 0; the RESEAL_DONE of its serial, the bank's own too, takes it
to SEATING, or to UNLATCHED_UNEXPECTED where its latch reads UNLATCHED, and a PENDING RESEAL_DONE of the serial leaves the queue. A PUSH_CLAIM
that the bank did not judge ends the reseal of a door of its oven: the record is GIVEN_UP and the door leaves RESEALING.
That the RESEAL_DONE of this last case is owed from then on is log 32; the lowest of several empty slots is log 23. The model's choices
too: a RESEAL_CLAIM takes the door to RESEALING also over an OPEN push claim on its oven, against the first sentence of R94 (log 57), and a
RESEAL_DONE takes it out although another open record names it (log 46). -/
def Obligations.BankDoorsFollowFrames : Prop :=
  ∀ (s : State) (w : Window) (f : Frame) (n i d : Nat) (j : Side) (x y : Door) (table : List Entry), s.line.vto = false →
    s.Hears w f ∨ (∃ k e, s.OwnWindow w k e ∧ e.body = f.body ∧ w.frame = some f ∧ f.sender = s.straps.id) → s.role = .bank →
    s.plan = none → s.bankConfig ≠ none → s.ovenIndex n = some i → d = doorIndex i j → s.bank.doors[d]? = some x →
    table = s.table.modify f.sender (fun e => { e with joining := f.joining, attention := f.attention }) →
    (∀ c code r (st : Stage), f.body = .pushStage n c code false → (s.life.state = .joining → f.stopped = false) →
      s.claims.record = some r → r.ending = .opened → r.oven = n → r.serial = c → st.code = code → (r.stages.complete = true ∨ (r.stages.put st true).complete = false) →
      (code = 1 ∧ j = .ps ∨ code = 2 ∧ j = .cs →
        y = { x with
          sealing := .off, seat := none, leaking := none, call := none, called := false, reseal := none, unlatched := false
          mismatch := if x.latch = .latched then some ⟨.offExpected, 0⟩ else x.mismatch
          mismatched := if x.latch = .latched then false else x.mismatched
          held := x.held || decide (x.sealing ≠ .off)
          snapLatch := if x.held = true ∨ x.sealing = .off then x.snapLatch else x.latch
          snapSeal := if x.held = true ∨ x.sealing = .off then x.snapSeal else .off } →
        ∃ t, exec (.settleOutcome false) s = .next t ∧ SameBut [.line, .queue, .table, .claims, .bank, .out, .port] s t ∧
          t.table = table ∧ t.claims = { s.claims with record := some { r with stages := r.stages.put st true } } ∧
          t.bank = { s.bank with doors := s.bank.doors.set d y }) ∧
      (code = 6 ∧ j = .ps ∨ code = 7 ∧ j = .cs →
        (x.sealing = .off → x.latch = .latched →
          y = { x with
            sealing := .seating, ring := List.replicate 8 0, seat := some 0, leaking := none, call := none, called := false
            reseal := none, unlatched := false, held := true
            snapLatch := if x.held = true then x.snapLatch else x.latch, snapSeal := if x.held = true then x.snapSeal else .seating }) →
        (x.latch = .unlatched → y = { x with mismatch := some ⟨.onExpected, 0⟩, mismatched := false }) →
        (x.sealing ≠ .off → x.latch = .latched → y = x) →
        ∃ t, exec (.settleOutcome false) s = .next t ∧ SameBut [.line, .queue, .table, .claims, .bank, .out, .port] s t ∧
          t.table = table ∧ t.claims = { s.claims with record := some { r with stages := r.stages.put st true } } ∧
          t.bank = { s.bank with doors := s.bank.doors.set d y })) ∧
    (∀ r slot, f.body = .resealClaim n j.code r → s.receives = true → (s.life.state = .joining → f.stopped = false) →
      s.claims.reseals.findIdx? Option.isNone = some slot →
      y = { x with
        sealing := .resealing, seat := none, leaking := none, call := none, called := false, reseal := some 0, unlatched := false
        held := x.held || decide (x.sealing ≠ .resealing)
        snapLatch := if x.held = true ∨ x.sealing = .resealing then x.snapLatch else x.latch
        snapSeal := if x.held = true ∨ x.sealing = .resealing then x.snapSeal else .resealing } →
      f.sender ≠ s.straps.id →
      ∃ t, exec (.settleOutcome false) s = .next t ∧ SameBut [.line, .table, .claims, .bank, .out, .port] s t ∧ t.table = table ∧
        t.claims = { s.claims with
          highestReseal := r
          reseals := s.claims.reseals.set slot (some ⟨n, j, r, f.sender, s.time, 0, .opened, none⟩) } ∧
        t.bank = { s.bank with doors := s.bank.doors.set d y }) ∧
    (∀ r o slot z how, f.body = .resealDone n j.code r o → o < 2 → (s.life.state = .joining → f.stopped = false) →
      s.claims.highestReseal ≠ 0 → s.claims.reseals[slot]? = some (some z) → z.ending = .opened → z.serial = r → z.oven = n → z.side = j →
      (∀ k v, s.claims.reseals[k]? = some (some v) → v.serial = r → k = slot) → x.sealing = .resealing →
      how = (if o = 0 then ResealEnd.done else .givenUp) →
      ∃ t, exec (.settleOutcome false) s = .next t ∧ SameBut [.line, .queue, .table, .claims, .bank, .out, .port] s t ∧ t.table = table ∧
        t.queue = (if w.own = true then s.queue.filter (fun e => !e.inFlight) else s.queue).filter (fun e => e.inFlight ||
          !(match e.body with | .resealDone _ _ q _ => decide (q = r) | _ => false)) ∧
        t.claims = { s.claims with reseals := s.claims.reseals.set slot (some { z with ending := how, owed := none }) } ∧
        ∃ v, t.bank = { s.bank with doors := s.bank.doors.set d v } ∧ v.latch = x.latch ∧ v.reseal = none ∧ v.held = true ∧
          (x.latch = .latched → v.sealing = .seating ∧ v.seat = some 0 ∧ v.ring = List.replicate 8 0 ∧ v.unlatched = false) ∧
          (x.latch = .unlatched → v.sealing = .unlatchedUnexpected ∧ v.seat = none ∧ v.unlatched = true)) ∧
    ∀ c forced slot z u, f.body = .pushClaim n c forced → s.life.state = .listenOnly → s.openClaim = none → x.sealing = .resealing →
      s.bank.doors[doorIndex i (match j with | .ps => .cs | .cs => .ps)]? = some u → u.sealing ≠ .resealing → u.sealing ≠ .off →
      s.claims.reseals[slot]? = some (some z) → z.ending = .opened → z.oven = n → z.side = j →
      (∀ k v, s.claims.reseals[k]? = some (some v) → v.ending = .opened → (v.oven = n ∧ v.side = j) ∨ v.serial = z.serial → k = slot) →
      ∃ t, exec (.settleOutcome false) s = .next t ∧ SameBut [.line, .queue, .table, .claims, .bank, .out, .port] s t ∧ t.table = table ∧
        t.queue = s.queue ∧
        t.claims.reseals = s.claims.reseals.set slot (some { z with ending := .givenUp, owed := some 0 }) ∧
        ∃ v, t.bank.doors = s.bank.doors.set d v ∧ v.latch = x.latch ∧ v.reseal = none ∧
          (x.latch = .latched → v.sealing = .seating ∧ v.seat = some 0) ∧
          (x.latch = .unlatched → v.sealing = .unlatchedUnexpected ∧ v.unlatched = true)

/-- R33, R121, R124 to R126, R131, R133, R156, R162 to R164, R167: how the quench car follows taken frames. The pusher's announce gives the next
oven, which joins the move queue once; a claim on the oven where the car stands SPOTTED and empty has CAR_READY offered. A stage of the OPEN
claim, found TAKEN ON_LINE, JOINING or LISTEN_ONLY, is set or cleared in the record and reported, and the wish is compared with CAR_READY
(`CarOffers.wishing`: R126, R162): RAM_OUT takes a car SPOTTED under the guide to LOADING and any other to FAULT, where PUSH_ABANDON (CAR_FAULT)
is offered behind the revoke of CAR_READY; CAR_LOADED gives a LOADING car its load, with TOWER at the head of its queue; an own CAR_READY or
CAR_LOADED leaves the send queue. The eighth permanent stage, CAR_LOADED or another, then closes the claim (`State.StageStands`). A taken abandon,
heard or its own, ends the claim, withdraws its frames and gives a LOADING car its load likewise. The order of several reports is log 12, the end
of the phase timer at RAM_OUT log 61, and that a ready retry timer which runs already starts again log 60. That the announce of each sender with a
PUSHER payload counts, also where several entries show that role, is log 42. That a joining station reports STOPPED (ADOPTED) only where the
condition was clear is log 75. -/
def Obligations.QuenchFollowsFrames : Prop :=
  ∀ (s : State) (w : Window) (f : Frame) (table : List Entry) (loaded : Car), s.line.vto = false → s.role = .quench →
    s.bankConfig = none → s.plan = none →
    table = s.table.modify f.sender (fun e => { e with joining := f.joining, attention := f.attention }) →
    loaded = (if s.car.state = .loading then { s.car with
      load := .hot, state := .loaded, queue := if Move.tower ∈ s.car.queue then s.car.queue else .tower :: s.car.queue } else s.car) →
    (s.Hears w f →
      (∀ next cycle pass pos tr, f.body = .announce (.pusher next cycle pass pos) tr → s.life.state ≠ .joining → f.leaving = false →
        ∃ t, exec (.settleOutcome false) s = .next t ∧ SameBut [.line, .table, .car, .out, .port] s t ∧
          t.car = { s.car with
            lastNext := next
            queue := if next = s.car.lastNext ∨ next = 0 ∨ s.car.move = some (.spot next) then s.car.queue
              else if (s.car.queue.any fun m => match m with | .spot _ => true | _ => false) = true then
                s.car.queue.map fun m => match m with | .spot _ => .spot next | _ => m
              else s.car.queue ++ [.spot next] }) ∧
      (s.life.state = .onLine →
        (∀ n c forced, f.body = .pushClaim n c forced → w.verdict = .take → s.openClaim = none →
          (∀ e ∈ s.queue, ∀ m q, e.body ≠ .pushStage m c 9 q) →
          (s.car.state = .spotted → s.car.marker = n → s.car.load = .none →
            (s.queue.length < 8 →
              ∃ t, exec (.settleOutcome false) s = .next t ∧ SameBut [.line, .queue, .table, .claims, .out, .port] s t ∧
                t.queue = s.queue ++ [⟨.pushStage n c 9 false, false, s.time, 0, false⟩] ∧
                t.port = s.port.offerReport (.pushOutcome n c forced .taken (some f.sender) none)) ∧
            (8 ≤ s.queue.length →
              ∃ t, exec (.settleOutcome false) s = .next t ∧ SameBut [.line, .table, .claims, .car, .out, .port] s t ∧
                t.car = { s.car with readyTimer := some 0 } ∧
                t.port = (s.port.offerReport (.frameRefused (.pushStage n c 9 false))).offerReport
                  (.pushOutcome n c forced .taken (some f.sender) none))) ∧
          (s.car.state ≠ .loading → s.car.state ≠ .spotted ∨ s.car.marker ≠ n ∨ s.car.load ≠ .none →
            ∃ t, exec (.settleOutcome false) s = .next t ∧ SameBut [.line, .table, .claims, .out, .port] s t)))) ∧
    ∀ (s1 : State) (rest : List QueueEntry) (n c : Nat) (r : Claim), s.Ends w f rest → s1 = s.windowEnded f rest →
      s.claims.record = some r → r.ending = .opened → r.oven = n → r.serial = c →
      (∀ (y : Stage) (revoke : Bool) (stages : StageSet) (car : Car) (x : CarOffers), f.body = .pushStage n c y.code revoke →
        stages = r.stages.put y (!revoke) → (y = .ramOut → revoke = true) →
        (w.own = true → (y = .carLoaded ∧ revoke = false) ∨ (y = .carReady ∧ ∀ e ∈ rest, ∀ m q, e.body ≠ .pushStage m c 9 q)) →
        car = (if y = .carLoaded ∧ revoke = false then loaded else s.car) →
        x = CarOffers.wishing ⟨car, rest, s1.port.offerReport (.stageSeen n c y revoke)⟩ s1 { r with stages := stages }
          (car.readyWish { r with stages := stages }) →
        ∃ t, exec (.settleOutcome false) s = .next t ∧ s1.StageStands t r { r with stages := stages } x
          (if (y = .guideSet ∧ revoke = true) ∨ (y = .ramHome ∧ revoke = false) then
            { s.machine with revokeOwed := none, revokeTimer := none } else s.machine)) ∧
      (∀ (seen : Port) (out : Claim), s.Hears w f → f.body = .pushStage n c 3 false → out = { r with stages := r.stages.put .ramOut true } →
        seen = s1.port.offerReport (.stageSeen n c .ramOut false) →
        (∀ (car : Car) (x : CarOffers), s.car.state = .spotted → s.car.marker = n → car = { s.car with state := .loading } →
          x = CarOffers.wishing ⟨car, rest, seen⟩ s1 out (car.readyWish out) →
          ∃ t, exec (.settleOutcome false) s = .next t ∧ s1.StageStands t r out x s.machine) ∧
        ∀ (car : Car) (x : CarOffers), s.car.state ≠ .spotted ∨ s.car.marker ≠ n →
          car = { s.car with state := .fault, moveTimer := none, phase := none, fault := true } →
          x = (CarOffers.wishing ⟨car, rest, if s.car.fault = true then seen else seen.offerReport (.attention none none .carFault true)⟩ s1 out
            (car.readyWish out)).abandoning s1 →
          ∃ t, exec (.settleOutcome false) s = .next t ∧ s1.StageStands t r out x s.machine) ∧
      ∀ a (cause : AbandonCause), f.body = .pushAbandon n c a →
        (a = 1 ∧ cause = .timeout) ∨ (a = 2 ∧ cause = .command) ∨ (a = 3 ∧ cause = .carFault) →
        ∃ t, exec (.settleOutcome false) s = .next t ∧ SameBut [.queue, .claims, .machine, .car, .out, .port] s1 t ∧
          t.claims = { s.claims with record := some { r with ending := .abandoned cause }, retry := none } ∧
          t.machine = { s.machine with revokeOwed := none, revokeTimer := none, setWanted := none } ∧ t.car = loaded ∧
          t.queue = queueAfterClaim c rest ∧
          t.port = (s1.port.offerReport (.claimAbandoned n c cause r.stages)).lateFrames c true rest

/-- R33, R34, R113, R121, R131, R137: how a claim enters and leaves a record without being judged here. A PUSH_CLAIM that is TAKEN over an OPEN
claim drops it: it ends ABANDONED (DROPPED), is reported, its frames leave the queue, and its oven at its bank is left as for an abandon, but
HELD with ISOLATED set. A joining bank adopts the claim of a trailer: with ISOLATED clear an oven in COKING becomes CLAIMED and its loop
ISOLATING, with ISOLATED set one in COKING or HELD becomes CLAIMED, or PUSHING after RAM_OUT, and its loop is isolated; any other stays. A later
trailer that agrees with the record changes nothing, and one that differs drops the claim and fills the record. A joining station adopts the
STOPPED flag of any sender that is not joining.
That the claimant of an adopted claim is the lowest id recorded as PUSHER is log 42, the order of the reports log 12, and that the retry timer
stops where a trailer refills the record of the same claim log 52; that RAM_OUT decides where ISOLATED is set too is
log 68. -/
def Obligations.ClaimsDroppedAndAdopted : Prop :=
  ∀ (s : State) (w : Window) (f : Frame), s.Hears w f → s.line.vto = false →
    (∀ n c forced r kept, f.body = .pushClaim n c forced → s.claims.record = some r → r.ending = .opened → s.life.state ≠ .joining →
      w.verdict = .take → s.plan = none → s.role ≠ .quench →
      kept = s.queue.filter (fun e => e.inFlight ||
        !(match e.body with
          | .pushStage _ k _ _ => decide (k = r.serial) | .pushAbandon _ k _ => decide (k = r.serial) | _ => false)) →
      (s.bankConfig = none →
        ∃ t, exec (.settleOutcome false) s = .next t ∧ SameBut [.line, .queue, .table, .claims, .machine, .out, .port] s t ∧
          t.queue = kept ∧ t.machine = { s.machine with revokeOwed := none, revokeTimer := none, setWanted := none } ∧
          t.claims = { s.claims with
            record := some ⟨n, c, some f.sender, forced,
              ⟨false, false, false, false, false, false, false, false, false, false⟩, s.time, 0, .opened⟩
            highest := c, retry := none } ∧
          t.port = ((s.queue.filterMap fun e => match e.inFlight, e.body with
              | false, .pushStage m k x _ => if k = r.serial then some (.stageLate m k x) else none
              | false, .pushAbandon m k a => if k = r.serial then some (.abandonLate m k (.ofCode a)) else none
              | _, _ => none).foldl Port.offerReport
              (s.port.offerReport (.claimAbandoned r.oven r.serial .dropped r.stages))).offerReport
            (.pushOutcome n c forced .taken (some f.sender) none)) ∧
      (∀ i o, s.role = .bank → s.bankConfig ≠ none → s.ovenIndex r.oven = some i → s.bank.ovens[i]? = some o → s.ovenIndex n = none →
        ∃ t o1, exec (.settleOutcome false) s = .next t ∧ SameBut [.line, .queue, .table, .claims, .bank, .machine, .out, .port] s t ∧
          t.queue = kept ∧ t.bank.ovens = s.bank.ovens.set i o1 ∧ o1.credit = o.credit ∧
          o1.state =
            (if (o.state = .claimed ∨ o.state = .pushing) ∧ r.stages.ramOut = true then .faulted
            else if o.state = .claimed then
              if r.stages.psDoorOff = true ∨ r.stages.csDoorOff = true ∨ r.stages.isolated = true then .held else .coking
            else o.state))) ∧
    (∀ p tr i o l x y, f.body = .announce p tr → f.leaving = false → f.joining = false → f.stopped = false → s.life.state = .joining →
      s.role = .bank → p.role ≠ .bank → s.bankConfig ≠ none → s.plan = none → s.openClaim = none → s.life.adopted = false →
      tr.oven ≠ 0 → s.ovenIndex tr.oven = some i → s.bank.ovens[i]? = some o → s.bank.loops[i]? = some l →
      s.bank.doors[2 * i]? = some x → s.bank.doors[2 * i + 1]? = some y → x.sealing ≠ .resealing → y.sealing ≠ .resealing →
      x.sealing ≠ .off → y.sealing ≠ .off →
      ∃ t o1 l1, exec (.settleOutcome false) s = .next t ∧ SameBut [.life, .line, .table, .claims, .bank, .machine, .out, .port] s t ∧
        t.life = { s.life with adopted := true } ∧
        t.claims = { s.claims with
          record := some ⟨tr.oven, tr.serial, t.stationOf .pusher, false, tr.stages, s.time, 0, .opened⟩
          highest := tr.serial, retry := none } ∧
        t.bank = { s.bank with ovens := s.bank.ovens.set i o1, loops := s.bank.loops.set i l1 } ∧
        (tr.stages.isolated = false → o.state = .coking →
          o1.state = .claimed ∧ l1 = { l with mode := .isolating, a := 0, zero := 0, charge := none, target := none }) ∧
        (tr.stages.isolated = true → o.state = .coking ∨ o.state = .held →
          o1.state = (if tr.stages.ramOut = true then .pushing else .claimed) ∧ o1.held = none ∧ o1.credit = o.credit ∧
          l1 = (if l.mode = .isolated then { l with owed := false } else
            { l with mode := .isolating, a := 0, zero := 0, charge := none, target := none, owed := false })) ∧
        (o.state ≠ .coking → o.state ≠ .held ∨ tr.stages.isolated = false →
          o1 = o ∧ l1 = (if tr.stages.isolated = true then { l with owed := false } else l))) ∧
    (∀ p tr, f.body = .announce p tr → f.leaving = false → f.joining = false → f.stopped = false → s.life.state = .joining →
      s.role = .guide → p.role ≠ .guide → s.bankConfig = none → s.plan = none → s.life.adopted = true →
      ((match s.claims.record with
          | some c => tr.oven = c.oven ∧ tr.serial = c.serial ∧ tr.stages = c.stages
          | none => tr.oven = 0 ∧ tr.serial = s.claims.highest) →
        ∃ t, exec (.settleOutcome false) s = .next t ∧ SameBut [.line, .table, .out, .port] s t) ∧
      (∀ c, s.claims.record = some c → c.ending = .opened → tr.oven ≠ c.oven ∨ tr.serial ≠ c.serial →
        ∃ t, exec (.settleOutcome false) s = .next t ∧ SameBut [.line, .queue, .table, .claims, .machine, .out, .port] s t ∧
          t.claims = { s.claims with
            record := if tr.oven = 0 then none
              else some ⟨tr.oven, tr.serial, t.stationOf .pusher, false, tr.stages, s.time, 0, .opened⟩
            highest := tr.serial, retry := none }) ∧
      ∀ c, s.claims.record = some c → tr.oven = c.oven → tr.serial = c.serial → tr.stages ≠ c.stages → tr.oven ≠ 0 →
        ∃ t, exec (.settleOutcome false) s = .next t ∧ SameBut [.line, .table, .claims, .machine, .out, .port] s t ∧
          t.claims = { s.claims with
            record := some ⟨tr.oven, tr.serial, t.stationOf .pusher, false, tr.stages, s.time, 0, .opened⟩
            highest := tr.serial, retry := none }) ∧
    (s.life.state = .joining → f.joining = false → f.stopped = true → s.stop.stopped = false →
      (f.body.kind ≠ .announce → f.body.kind ≠ .resume → f.body.kind ≠ .stopNote →
        ∃ t, exec (.settleOutcome false) s = .next t ∧ t.stop = { s.stop with stopped := true }) ∧
      (f.body.kind = .mainPressure → s.bankConfig = none →
        ∃ t, exec (.settleOutcome false) s = .next t ∧ SameBut [.line, .table, .stop, .out, .port] s t ∧
          t.stop = { s.stop with stopped := true } ∧
          t.port = s.port.offerReport (.stopped .adopted none none (some f.sender)))) ∧
    (s.life.state ≠ .joining ∨ f.joining = true ∨ f.stopped = false ∨ s.stop.stopped = true → f.body.kind ≠ .announce →
      f.body.kind ≠ .resume → f.body.kind ≠ .stopNote → ∃ t, exec (.settleOutcome false) s = .next t ∧ t.stop = s.stop)

/-- R99, R100, R103, R108, R125, R131, R133: the plan record at the PUSHER as a claim ends by a stage or an abandon that is TAKEN, another
station's or its own. A closure takes the oven off the deferred list, marks it PUSHED where the claim note is of the current cycle and it is
UNPUSHED or SKIPPED_OOS, and advances a cursor that stands on it; an abandon before RAM_OUT changes nothing but the note, one after it marks the
oven FAULT_SKIPPED and advances likewise. The note is cleared, and ON_LINE the next choice is made. The end is reported, a closure with the claim
timer's value, and the claim's PENDING frames leave, late. The order of several reports is log 12. That a joining station reports STOPPED
(ADOPTED) only where the condition was clear is log 75. -/
def Obligations.PlanFollowsClaimEnds : Prop :=
  ∀ (s s1 : State) (w : Window) (f : Frame) (rest : List QueueEntry) (n c : Nat) (r : Claim) (p left q : Plan), s.Ends w f rest →
    s.line.vto = false → s1 = s.windowEnded f rest → s.role = .pusher → s.bankConfig = none → s.plan = some p → s.claims.record = some r →
    r.ending = .opened → r.oven = n → r.serial = c → 1 ≤ n →
    (∀ (st : Stage) (revoke : Bool), f.body = .pushStage n c st.code revoke → r.stages.complete = false →
      (r.stages.put st (!revoke)).complete = true →
      left = { p with
        deferred := p.deferred.filter fun x => decide (x ≠ n)
        marks := if (p.note.any fun x => decide (x.2 = p.cycle)) = true ∧ (p.mark n = .unpushed ∨ p.mark n = .skippedOos) then
          p.marks.set (n - 1) .pushed else p.marks } →
      q = { (if p.cursor = n then left.advance else left) with note := none } →
      ∃ t, exec (.settleOutcome false) s = .next t ∧ SameBut [.queue, .claims, .plan, .machine, .out, .port] s1 t ∧
        t.plan = some (if s.life.state = .onLine then (q.choose t.summary fun _ => false).1 else q) ∧
        t.claims = { s.claims with record := some { r with stages := r.stages.put st (!revoke), ending := .closed }, retry := none } ∧
        t.queue = queueAfterClaim c rest ∧
        t.port = ((s1.port.offerReport (.stageSeen n c st revoke)).offerReport (.claimClosed n c r.timer)).lateFrames c false rest) ∧
    ∀ a, f.body = .pushAbandon n c a → 1 ≤ a → a ≤ 3 →
      left = { p with
        deferred := p.deferred.filter fun x => decide (x ≠ n)
        marks := if p.mark n = .unpushed ∨ p.mark n = .skippedOos then p.marks.set (n - 1) .faultSkipped else p.marks } →
      q = (if r.stages.ramOut = true then { (if p.cursor = n then left.advance else left) with note := none } else { p with note := none }) →
      ∃ t, exec (.settleOutcome false) s = .next t ∧ SameBut [.queue, .claims, .plan, .machine, .out, .port] s1 t ∧
        t.plan = some (if s.life.state = .onLine then (q.choose t.summary fun _ => false).1 else q) ∧
        t.queue = queueAfterClaim c rest

/-! ## The units of a BANK -/

/-- R37, R43 to R48: a tick of the oven unit. Every temperature ages by a minute and goes stale beyond 180; an oven in COKING or CLAIMED gains
credit by the clamped quotient of the temperature used and the nominal one, and its readiness and minutes follow; the charge time stamp
counts. An attention cause added or removed is reported, and then a change of readiness, with the stamp as it was before the tick.
The time to the tick passes first, by the model's choice (log 2); the order of the reports is log 12. -/
def Obligations.OvenTickCountsAndCredits : Prop :=
  ∀ (s s1 : State) (p0 : BankPart0) (p1 : BankPart1) (cfgN lim k : Nat) (m : ConsentMask),
    s.config = some ⟨cfgN, lim, m, .bank p0 p1⟩ → s.bank.tick = some k → s1 = s.elapse (60000 - k) →
    ∃ t, exec .ovenTick s = .next t ∧ SameBut [.bank, .out, .port] s1 t ∧
      t.bank = { s1.bank with tick := some 0, ovens := t.bank.ovens } ∧ t.bank.ovens.length = s1.bank.ovens.length ∧
      t.port = (List.range s1.bank.ovens.length).foldl (fun p i => match s1.bank.ovens[i]?, t.bank.ovens[i]? with
        | some o, some x =>
          let p1 := if x.overcoked = o.overcoked then p
            else p.offerReport (.attention (some (p0.first + i)) none .overcoked x.overcoked)
          let p2 := if x.faulted = o.faulted then p1
            else p1.offerReport (.attention (some (p0.first + i)) none .faulted x.faulted)
          if x.readiness = o.readiness then p2
            else p2.offerReport (.ovenState (p0.first + i) o.state o.state x.credit x.readiness o.stamp)
        | _, _ => p) s1.port ∧
      ∀ (i : Nat) (o : Oven), s1.bank.ovens[i]? = some o →
        ∃ x used inc, t.bank.ovens[i]? = some x ∧ x.state = o.state ∧ x.temp = o.temp ∧ x.held = o.held ∧
          x.tempAge = min (o.tempAge + 1) 65535 ∧ (x.stale = true ↔ o.temp = none ∨ 180 < x.tempAge) ∧
          used = (if x.stale = true then p0.nominal else o.temp.getD p0.nominal) ∧ inc = max 32 (min 96 (64 * used / p0.nominal)) ∧
          (o.state = .coking ∨ o.state = .claimed →
            x.credit = min (o.credit + inc) 16777215 ∧
            x.readiness = (if x.credit < 64 * p0.target then .notReady
              else if x.credit < 64 * p0.target + 64 * p0.allowance then .ready else .overcoked) ∧
            x.minutes = (if 64 * p0.target ≤ x.credit then 0 else min ((64 * p0.target - x.credit + inc - 1) / inc) 4095)) ∧
          (o.state ≠ .coking → o.state ≠ .claimed → x.credit = o.credit ∧ x.readiness = o.readiness ∧ x.minutes = o.minutes) ∧
          (o.state ∈ [.coking, .claimed, .pushing, .held, .faulted] → x.stamp = min (o.stamp + 1) 65535) ∧
          (o.state ∈ [.unknown, .empty, .outOfService] → x.stamp = o.stamp) ∧
          (x.overcoked = true ↔ x.readiness = .overcoked) ∧ (x.faulted = true ↔ o.state = .faulted)

/-- R54 to R59, R63 to R66, R69, R70, R74: a sample, or 150 ms without one (an entry MISSING), is the newest of the four ring entries and drives
one step of its loop: the filtered pressure is the floor of the mean of the GOOD entries; COLLECT and CHARGE move the valve by the PI step within
40 permille, or hold it while SENSOR_LOST is set; the setpoint of COLLECT is the base less the larger relief of the two doors, each by its seal
state (WEEPING, LEAKING and UNLATCHED_UNEXPECTED, RESEALING; 0 for the others), and at least the floor; ISOLATING ramps the valve down and is
ISOLATED after ten steps at 0; MANUAL moves it to its target; RELEASED drives nothing. A loop that comes to ISOLATED with its oven CLAIMED owes
the stage: ON_LINE, with the claim OPEN without ISOLATED, PUSH_STAGE (ISOLATED) is offered, and the flag clears where it is not queued; off the
line the flag waits. The model's choices: where no sample came, the remaining time passes first (log 2), and a step before any output is defined
starts from 0 (log 20). -/
def Obligations.RegulatorStepMovesValve : Prop :=
  ∀ (s b : State) (row : Instr) (i : Nat) (x : BitVec 12) (z : Sample) (l l0 : Loop) (ring : List Sample) (good : List Int) (p0 : BankPart0)
    (p1 : BankPart1) (cfgN lim : Nat) (m : ConsentMask) (u : Int),
    s.config = some ⟨cfgN, lim, m, .bank p0 p1⟩ → s.bank.loops[i]? = some l0 →
    ((row = .pressureSample i x ∧ b = s ∧
        z = ⟨(x.toInt * 2500).tdiv 2048, if x.toInt = -2048 ∨ x.toInt = 2047 then .rail else .good⟩) ∨
      (row = .sampleWatchExpiry i ∧ b = s.elapse (150 - l0.watch) ∧ z = ⟨0, .missing⟩)) →
    b.bank.loops[i]? = some l → u = l.u.getD 0 → ring = z :: l.ring.take 3 →
    good = (ring.filter fun y => decide (y.quality = .good)).map Sample.value →
    (∀ (ps cs : Door) (relief : Seal → Int), s.bank.doors[2 * i]? = some ps → s.bank.doors[2 * i + 1]? = some cs →
      relief .weeping = p1.rw → relief .leaking = p1.rl → relief .unlatchedUnexpected = p1.rl → relief .resealing = p1.rr →
      relief .seating = 0 → relief .tight = 0 → relief .off = 0 →
      s.relief p1 i = max (relief ps.sealing) (relief cs.sealing)) ∧
    ∃ t y, exec row s = .next t ∧ SameBut [.queue, .bank, .out, .port] b t ∧ t.bank = { b.bank with loops := b.bank.loops.set i y } ∧
      y.ring = ring ∧ y.watch = 0 ∧
      (good = [] → y.pf = l.pf ∧ y.lost = true ∧ y.lostTimer = (if l.lost = true then l.lostTimer else some 0) ∧
        y.attention = l.attention) ∧
      (good ≠ [] → y.pf = good.sum / (good.length : Int) ∧ y.lost = false ∧ y.lostTimer = none ∧ y.attention = false) ∧
      (l.mode = .collect ∨ l.mode = .charge → y.mode = l.mode ∧
        (good = [] → y.u = some u ∧ y.driven = some u ∧ y.a = l.a ∧ y.sp = l.sp ∧ y.e = l.e) ∧
        (good ≠ [] → ∃ dm uc,
          y.sp = (if l.mode = .charge then p0.chargeSp else max (p0.base - s.relief p1 i) p0.floor) ∧ y.e = y.pf - y.sp ∧
          y.a = (if (u = 1000 ∧ 0 < y.e) ∨ (u = 0 ∧ y.e < 0) then l.a else clampInt (l.a + p1.ki * y.e) 0 16000) ∧
          dm = (match b.bank.main with
            | some v => if v.quality = .good ∧ b.bank.mainAge ≤ 5000 then v.value - p1.pnom else 0
            | none => 0) ∧
          uc = clampInt (p1.kp * y.e / 16 + y.a / 16 + p1.kf * dm / 16) 0 1000 ∧
          y.u = some (u + clampInt (uc - u) (-40) 40) ∧ y.driven = y.u)) ∧
      (l.mode = .isolating →
        y.u = some (max (u - 40) 0) ∧ y.driven = y.u ∧ y.a = 0 ∧ y.zero = (if max (u - 40) 0 = 0 then l.zero + 1 else l.zero) ∧
          y.mode = if 10 ≤ y.zero then .isolated else .isolating) ∧
      (l.mode = .isolated → y.mode = .isolated ∧ y.u = some 0 ∧ y.driven = some 0 ∧ y.a = 0) ∧
      (∀ target, l.mode = .manual → l.target = some target →
        y.mode = .manual ∧ y.u = some (u + clampInt (target - u) (-40) 40) ∧ y.driven = y.u ∧
          y.a = 16 * (u + clampInt (target - u) (-40) 40)) ∧
      (l.mode = .released → y.mode = .released ∧ y.u = l.u ∧ y.driven = l.driven ∧ y.a = l.a) ∧
      (∀ (comes : Prop) (c : Claim) (e : QueueEntry),
        (comes ↔ l.mode = .isolating ∧ y.mode = .isolated ∧ (b.bank.ovens[i]?.map Oven.state) = some .claimed) →
        (¬comes → y.owed = l.owed ∧ t.queue = s.queue) ∧
        (comes → s.life.state ≠ .onLine ∨ (∀ z, s.claims.record = some z → z.ending = .opened → z.oven = p0.first + i →
          z.stages.isolated = true) → y.owed = true ∧ t.queue = s.queue) ∧
        (comes → s.life.state = .onLine → s.claims.record = some c → c.ending = .opened → c.oven = p0.first + i →
          c.stages.isolated = false → e = ⟨.pushStage c.oven c.serial 0 false, false, b.time, 0, false⟩ →
          (s.queue.length < 8 → y.owed = true ∧ t.queue = s.queue ++ [e]) ∧ (8 ≤ s.queue.length → y.owed = false ∧ t.queue = s.queue)))

/-- R41, R57, R60, R61, R68, R72: the held timer returns an oven to COKING and its loop to COLLECT with A = 0; the charge time ends in COLLECT
with A kept; SENSOR_LOST for 30 s raises attention; a main sample fills the record of a bank with the sensor; every second an ON_LINE bank
queues its main pressure, if it is no older than 5 s.
The remaining time passes first (log 2). -/
def Obligations.BankTimersAndMainPressure : Prop :=
  ∀ (s s1 : State) (p0 : BankPart0) (p1 : BankPart1) (cfgN lim k : Nat) (m : ConsentMask),
    s.config = some ⟨cfgN, lim, m, .bank p0 p1⟩ →
    (∀ i o l, s.bank.ovens[i]? = some o → o.held = some k → s1 = s.elapse (1000 * p1.seat - k) → s1.bank.loops[i]? = some l →
      ∃ t x, exec (.heldTimerExpiry i) s = .next t ∧ SameBut [.bank, .out, .port] s1 t ∧
        t.bank = { s1.bank with
          ovens := s1.bank.ovens.set i x
          loops := s1.bank.loops.set i { l with
            mode := .collect, a := 0, zero := 0, owed := false, charge := none, target := none } } ∧
        x.state = .coking ∧ x.held = none ∧ x.credit = o.credit ∧ x.stamp = o.stamp) ∧
    (∀ i l, s.bank.loops[i]? = some l → l.charge = some k → s1 = s.elapse (1000 * p0.chargeTime - k) →
      ∃ t, exec (.chargeTimerExpiry i) s = .next t ∧ SameBut [.bank, .out] s1 t ∧
        t.bank = { s1.bank with loops := s1.bank.loops.modify i fun y => { y with charge := none, mode := .collect } }) ∧
    (∀ i l, s.bank.loops[i]? = some l → l.lostTimer = some k → l.attention = false → s1 = s.elapse (30000 - k) →
      ∃ t, exec (.lostTimerExpiry i) s = .next t ∧ SameBut [.bank, .out, .port] s1 t ∧
        t.bank = { s1.bank with loops := s1.bank.loops.modify i fun y => { y with attention := true } } ∧
        t.port = s1.port.offerReport (.attention (some (p0.first + i)) none .sensorLost true)) ∧
    (∀ x : BitVec 12, s.OutputsSound → p1.mainSensor = true →
      exec (.mainSample x) s = .next { s with
        bank := { s.bank with
          main := some ⟨(x.toInt * 5000).tdiv 2048, if x.toInt = -2048 ∨ x.toInt = 2047 then .rail else .good⟩
          mainAge := 0 } }) ∧
    (s.bank.mainTimer = some k → s1 = s.elapse (1000 - k) →
      (∀ v kept, s.life.state = .onLine → s.bank.main = some v → s1.bank.mainAge ≤ 5000 →
        kept = s.queue.filter (fun e => e.inFlight || decide (e.body.kind ≠ .mainPressure)) → kept.length < 8 →
        ∃ t, exec .mainReportTimer s = .next t ∧ SameBut [.queue, .bank, .out] s1 t ∧ t.bank = { s1.bank with mainTimer := some 0 } ∧
          t.queue = kept ++ [⟨.mainPressure v.value v.quality.code, false, s1.time, 0, false⟩]) ∧
      (s.life.state ≠ .onLine ∨ s.bank.main = none ∨ 5000 < s1.bank.mainAge →
        ∃ t, exec .mainReportTimer s = .next t ∧ SameBut [.bank, .out] s1 t ∧ t.bank = { s1.bank with mainTimer := some 0 }))

/-- R41, R78, R81, R83 to R86, R88: a changed latch. Unlatched without a covering claim, a SEATING, TIGHT, WEEPING or LEAKING door is
UNLATCHED_UNEXPECTED; under one it keeps its seal state and its timer stops. Latched again, a SEATING door seats from 0, a LEAKING one counts its
delay from 0, an UNLATCHED_UNEXPECTED one enters SEATING, and so does one in OFF once its door-on stage is set, or no claim is OPEN on its oven
and that is not FAULTED. A FREE event latch captures the change, a mismatch watch that expected the level ends, and the held timer of an oven in
HELD starts once both its latches read LATCHED and stops at an UNLATCHED. The 50 ms of an unbroken reading (R78) are not counted (log 6). -/
def Obligations.LatchEventFollowed : Prop :=
  ∀ (s : State) (d : Nat) (level : Latch) (x : Door), s.bank.doors[d]? = some x → x.latch ≠ level →
    ∃ t y, exec (.latchEvent d level) s = .next t ∧ SameBut [.bank, .out, .port] s t ∧
      t.bank = { s.bank with ovens := t.bank.ovens, doors := s.bank.doors.set d y } ∧ y.latch = level ∧ y.held = true ∧
      (x.held = true → y.snapLatch = x.snapLatch ∧ y.snapSeal = x.snapSeal) ∧
      (x.held = false → y.snapLatch = level ∧ y.snapSeal = y.sealing) ∧
      (level = .unlatched →
        (s.covered d = false → x.sealing ∈ [.seating, .tight, .weeping, .leaking] →
          y.sealing = .unlatchedUnexpected ∧ y.unlatched = true ∧ y.seat = none ∧ y.leaking = none ∧ y.call = none ∧ y.called = false) ∧
        (s.covered d = true → y.sealing = x.sealing ∧ (x.sealing = .seating → y.seat = none) ∧ (x.sealing = .leaking → y.leaking = none)) ∧
        (x.sealing ∈ [.off, .resealing, .unlatchedUnexpected] → y.sealing = x.sealing)) ∧
      (level = .latched →
        (x.sealing = .seating → y.sealing = .seating ∧ y.seat = some 0) ∧
        (x.sealing = .leaking → y.sealing = .leaking ∧ y.leaking = some 0) ∧
        (x.sealing = .unlatchedUnexpected →
          y.sealing = .seating ∧ y.seat = some 0 ∧ y.unlatched = false ∧ y.ring = List.replicate 8 0) ∧
        (x.sealing ∈ [.tight, .weeping, .resealing] → y.sealing = x.sealing) ∧
        (∀ on : Bool, x.sealing = .off → (on = true ↔
            (∃ c, s.claims.record = some c ∧ c.ending = .opened ∧ c.oven = s.ovenAt (d / 2) ∧
              (if doorSide d = .ps then c.stages.psDoorOn else c.stages.csDoorOn) = true) ∨
            ((∀ c, s.claims.record = some c → c.ending = .opened → c.oven ≠ s.ovenAt (d / 2)) ∧
              (s.bank.ovens[d / 2]?.map Oven.state) ≠ some .faulted)) →
          (on = true → y.sealing = .seating ∧ y.seat = some 0 ∧ y.ring = List.replicate 8 0) ∧
          (on = false → y.sealing = .off ∧ y.seat = x.seat))) ∧
      (∀ m, x.mismatch = some m →
        ((m.kind = .offExpected ∧ level = .unlatched) ∨ (m.kind = .onExpected ∧ level = .latched) →
          y.mismatch = none ∧ y.mismatched = false) ∧
        ((m.kind = .offExpected ∧ level = .latched) ∨ (m.kind = .onExpected ∧ level = .unlatched) →
          y.mismatch = x.mismatch ∧ y.mismatched = x.mismatched)) ∧
      (x.mismatch = none → y.mismatch = none ∧ y.mismatched = x.mismatched) ∧
      (∀ i o, s.bank.ovens[i]? = some o → i ≠ d / 2 ∨ o.state ≠ .held → t.bank.ovens[i]? = some o) ∧
      (∀ o z, s.bank.ovens[d / 2]? = some o → o.state = .held →
        s.bank.doors[doorIndex (d / 2) (match doorSide d with | .ps => .cs | .cs => .ps)]? = some z →
        (level = .unlatched → t.bank.ovens[d / 2]? = some { o with held := none }) ∧
        (level = .latched → z.latch = .latched → t.bank.ovens[d / 2]? = some { o with held := some 0 }) ∧
        (level = .latched → z.latch = .unlatched → t.bank.ovens[d / 2]? = some o))

/-- R79 to R81, R85, R86, R88: a leak level, clamped to 255, is the newest of the eight ring entries. A latched door is then assessed by
the floor of their mean: TIGHT to WEEPING at Wt, WEEPING to LEAKING at Lt with its delay from 0, back below Wt − 8 (0 at the least) and below
Lt − 8, at most one step; a door that leaves LEAKING ends its episode. Any other seal state stays. A door is TIGHT at the end of its seat
interval; a LEAKING one is called at the end of its delay, and again every 600 s; a mismatch that has stood for 10 s raises attention.
What is left of each timer passes first (log 2). -/
def Obligations.DoorLevelsAndTimers : Prop :=
  (∀ (s : State) (d : Nat) (level : BitVec 10) (x : Door) (p0 : BankPart0) (p1 : BankPart1) (cfgN lim : Nat) (m : ConsentMask)
    (ring : List Nat) (avg : Nat) (next : Seal),
    s.config = some ⟨cfgN, lim, m, .bank p0 p1⟩ → s.bank.doors[d]? = some x → ring = min level.toNat 255 :: x.ring.take 7 →
    avg = ring.sum / 8 →
    next = (if x.latch = .latched ∧ x.sealing = .tight ∧ p1.weeping ≤ avg then .weeping
      else if x.latch = .latched ∧ x.sealing = .weeping ∧ p1.leaking ≤ avg then .leaking
      else if x.latch = .latched ∧ x.sealing = .weeping ∧ avg < p1.leaking ∧ avg + 8 < p1.weeping then .tight
      else if x.latch = .latched ∧ x.sealing = .leaking ∧ avg + 8 < p1.leaking then .weeping
      else x.sealing) →
    ∃ t y, exec (.leakLevel d level) s = .next t ∧ SameBut [.bank, .out, .port] s t ∧
      t.bank = { s.bank with doors := s.bank.doors.set d y } ∧
      y = { x with
        ring := ring, sealing := next
        leaking := if next = x.sealing then x.leaking else if next = .leaking then some 0 else none
        call := if next = x.sealing ∨ next = .leaking then x.call else none
        called := if next = x.sealing ∨ next = .leaking then x.called else false
        held := x.held || decide (next ≠ x.sealing)
        snapLatch := if x.held = true ∨ next = x.sealing then x.snapLatch else x.latch
        snapSeal := if x.held = true ∨ next = x.sealing then x.snapSeal else next } ∧
      t.port = (if x.held = true ∨ next = x.sealing then s.port
        else s.port.offerReport (.doorEvent (p0.first + d / 2) (doorSide d) x.latch next avg))) ∧
  ∀ (s s1 : State) (d k : Nat) (x : Door) (p0 : BankPart0) (p1 : BankPart1) (cfgN lim : Nat) (m : ConsentMask),
    s.config = some ⟨cfgN, lim, m, .bank p0 p1⟩ → s.bank.doors[d]? = some x →
    (x.seat = some k → s1 = s.elapse (1000 * p1.seat - k) →
      ∃ t y, exec (.seatTimerExpiry d) s = .next t ∧ SameBut [.bank, .out, .port] s1 t ∧
        t.bank = { s1.bank with doors := s1.bank.doors.set d y } ∧ y.sealing = .tight ∧ y.seat = none ∧ y.latch = x.latch ∧
        y.ring = x.ring) ∧
    (x.leaking = some k → s1 = s.elapse (1000 * p1.leakDelay - k) → s.life.state = .onLine → s.queue.length < 8 →
      ∃ t, exec (.leakingTimerExpiry d) s = .next t ∧ SameBut [.queue, .bank, .out] s1 t ∧
        t.bank = { s1.bank with
          doors := s1.bank.doors.modify d fun y => { y with leaking := none, called := true, call := some 0 } } ∧
        t.queue = s.queue ++ [⟨.resealCall (p0.first + d / 2) (doorSide d).code, false, s1.time, 0, false⟩]) ∧
    (x.call = some k → s1 = s.elapse (600000 - k) → s.life.state = .onLine → s.queue.length < 8 →
      ∃ t, exec (.callTimerExpiry d) s = .next t ∧ SameBut [.queue, .bank, .out] s1 t ∧
        t.bank = { s1.bank with doors := s1.bank.doors.modify d fun y => { y with call := some 0 } } ∧
        t.queue = s.queue ++ [⟨.resealCall (p0.first + d / 2) (doorSide d).code, false, s1.time, 0, false⟩]) ∧
    (∀ w, x.mismatch = some w → x.mismatched = false → s1 = s.elapse (10000 - w.timer) →
      ∃ t, exec (.mismatchWatchExpiry d) s = .next t ∧ SameBut [.bank, .out, .port] s1 t ∧
        t.bank = { s1.bank with doors := s1.bank.doors.modify d fun y => { y with mismatched := true } } ∧
        t.port = s1.port.offerReport (.attention (some (p0.first + d / 2)) (some (doorSide d)) .doorMismatch true))

/-- R36 to R42, R47, R71, R75, R83, R191: the bank's oven commands. SET_WALL_TEMP stores the clamped value with age 0; RESTORE_OVEN restores an
UNKNOWN oven without a claim, its loop COLLECT or ISOLATED with the output given; SET_SERVICE takes an EMPTY or FAULTED oven out and an
OUT_OF_SERVICE one in, and an UNKNOWN one out unless it is the oven of the OPEN claim; CLEAR_FAULT empties a FAULTED oven whose latches both read
LATCHED, and refuses it otherwise. Each of the two takes the loop to ISOLATED, by its ramp where its output is above 0, and OUT and CLEAR_FAULT
seat the latched doors in OFF that an OPEN claim does not keep there. In any other state each is BAD_STATE, and a field out of range or an oven
outside the bank BAD_ARG. That RESTORE_OVEN does the same in CONFLICT is log 43, that a direction of SET_SERVICE which is neither is BAD_ARG
whatever the oven's state log 44, and that a loop in ISOLATING with output 0 is ISOLATED at once log 55. -/
def Obligations.OvenCommands : Prop :=
  ∀ (s : State) (n i : Nat) (o : Oven) (p0 : BankPart0) (p1 : BankPart1) (cfgN lim : Nat) (m : ConsentMask),
    s.role = .bank → s.config = some ⟨cfgN, lim, m, .bank p0 p1⟩ → n = p0.first + i → i < p0.count → n < 256 →
    s.bank.ovens[i]? = some o →
    let isolated : Loop → Loop := fun l =>
      if l.mode = .isolated then l
      else if l.u.getD 0 ≤ 0 then { l with mode := .isolated, charge := none, target := none }
      else if l.mode = .isolating then l
      else { l with mode := .isolating, a := 0, zero := 0, charge := none, target := none }
    let maySeat : Stage → Bool := fun on => (s.claimOn n).all fun c => c.stages.has on
    (∀ (v kept : Int), s.OutputsSound → -32768 ≤ v → v < 32768 → kept = (if v < 700 then 700 else if 1500 < v then 1500 else v) →
      s.Begins 0x13#8 (field1 n ++ field2 v) →
      ∃ x inc, exec .setWallTemp s = .next { s with
          bank := { s.bank with ovens := s.bank.ovens.set i x }
          port := s.port.answered .accepted (if kept = v then 0 else 2) (field2 kept) } ∧
        inc = max 32 (min 96 (64 * kept.toNat / p0.nominal)) ∧
        x = { o with
          temp := some kept.toNat, tempAge := 0, stale := false
          minutes := if o.state ≠ .coking ∧ o.state ≠ .claimed then o.minutes else if 64 * p0.target ≤ o.credit then 0
            else min ((64 * p0.target - o.credit + inc - 1) / inc) 4095 }) ∧
    (∀ (code credit u0 stamp : Nat) (l : Loop), code < 3 → credit ≤ 16777215 → u0 ≤ 1000 → stamp ≤ 65535 → s.bank.loops[i]? = some l →
      s.Begins 0x14#8 (field1 n ++ field1 code ++ field3 credit ++ field2 u0 ++ field2 stamp) →
      (o.state = .unknown → s.claimOn n = none →
        ∃ t x, exec .restoreOven s = .next t ∧ SameBut [.bank, .out, .port] s t ∧
          t.bank = { s.bank with
            ovens := s.bank.ovens.set i x
            loops := s.bank.loops.set i { l with
              u := some (u0 : Int), a := 16 * u0, mode := if code = 1 then .collect else .isolated, charge := none, target := none } } ∧
          x.state = (if code = 0 then .empty else if code = 1 then .coking else .outOfService) ∧
          x.credit = (if code = 1 then credit else 0) ∧ x.stamp = (if code = 1 then stamp else 0) ∧ x.held = none) ∧
      (s.OutputsSound → o.state ≠ .unknown ∨ s.claimOn n ≠ none →
        exec .restoreOven s = .next { s with port := s.port.answered .badState })) ∧
    (∀ (code credit u0 stamp : Nat), s.OutputsSound → code < 256 → credit ≤ 16777215 → u0 ≤ 65535 → stamp ≤ 65535 →
      s.Begins 0x14#8 (field1 n ++ field1 code ++ field3 credit ++ field2 u0 ++ field2 stamp) →
      (3 ≤ code → exec .restoreOven s = .next { s with port := s.port.answered .badArg 2 }) ∧
      (code < 3 → 1000 < u0 → exec .restoreOven s = .next { s with port := s.port.answered .badArg 4 })) ∧
    (∀ direction, direction < 2 → s.Begins 0x15#8 (field1 n ++ field1 direction) →
      (direction = 0 → o.state = .empty ∨ o.state = .faulted ∨ (o.state = .unknown ∧ s.claimOn n = none) →
        ∃ t x, exec .setService s = .next t ∧ SameBut [.bank, .out, .port] s t ∧ t.bank.ovens = s.bank.ovens.set i x ∧
          x.state = .outOfService ∧ x.faulted = false ∧ x.credit = 0 ∧ x.stamp = 0 ∧
          ∀ l ps cs, s.bank.loops[i]? = some l → s.bank.doors[2 * i]? = some ps → s.bank.doors[2 * i + 1]? = some cs →
            t.bank = { s.bank with
              ovens := s.bank.ovens.set i x, loops := s.bank.loops.set i (isolated l)
              doors := (s.bank.doors.set (2 * i) (ps.seatedIf (maySeat .psDoorOn))).set (2 * i + 1)
                (cs.seatedIf (maySeat .csDoorOn)) }) ∧
      (direction = 1 → o.state = .outOfService →
        ∃ t x, exec .setService s = .next t ∧ SameBut [.bank, .out, .port] s t ∧ t.bank.ovens = s.bank.ovens.set i x ∧ x.state = .empty ∧
          ∀ l, s.bank.loops[i]? = some l →
            t.bank = { s.bank with ovens := s.bank.ovens.set i x, loops := s.bank.loops.set i (isolated l) }) ∧
      (s.OutputsSound →
        (direction = 0 ∧ o.state ∉ [.unknown, .empty, .faulted]) ∨ (direction = 0 ∧ o.state = .unknown ∧ s.claimOn n ≠ none) ∨
          (direction = 1 ∧ o.state ≠ .outOfService) →
        exec .setService s = .next { s with port := s.port.answered .badState })) ∧
    (∀ direction, s.OutputsSound → 2 ≤ direction → direction < 256 → s.Begins 0x15#8 (field1 n ++ field1 direction) →
      exec .setService s = .next { s with port := s.port.answered .badArg 2 }) ∧
    (∀ x y, s.bank.doors[2 * i]? = some x → s.bank.doors[2 * i + 1]? = some y → s.Begins 0x17#8 (field1 n) →
      (o.state = .faulted → x.latch = .latched → y.latch = .latched →
        ∃ t z, exec .clearFault s = .next t ∧ SameBut [.bank, .out, .port] s t ∧ t.bank.ovens = s.bank.ovens.set i z ∧ z.state = .empty ∧
          z.faulted = false ∧
          ∀ l, s.bank.loops[i]? = some l →
            t.bank = { s.bank with
              ovens := s.bank.ovens.set i z, loops := s.bank.loops.set i (isolated l)
              doors := (s.bank.doors.set (2 * i) (x.seatedIf (maySeat .psDoorOn))).set (2 * i + 1)
                (y.seatedIf (maySeat .csDoorOn)) }) ∧
      (s.OutputsSound → o.state = .faulted → x.latch = .unlatched ∨ y.latch = .unlatched →
        exec .clearFault s = .next { s with port := s.port.answered .refused 10 }) ∧
      (s.OutputsSound → o.state ≠ .faulted → exec .clearFault s = .next { s with port := s.port.answered .badState })) ∧
    ∀ (other : Nat) (rest : List Byte), s.OutputsSound → other < 256 → other < p0.first ∨ p0.first + p0.count ≤ other →
      (s.Begins 0x13#8 (field1 other ++ rest) → rest.length = 2 → exec .setWallTemp s = .next { s with port := s.port.answered .badArg 1 }) ∧
      (s.Begins 0x14#8 (field1 other ++ rest) → rest.length = 8 → exec .restoreOven s = .next { s with port := s.port.answered .badArg 1 }) ∧
      (s.Begins 0x15#8 (field1 other ++ rest) → rest.length = 1 → exec .setService s = .next { s with port := s.port.answered .badArg 1 }) ∧
      (s.Begins 0x17#8 (field1 other ++ rest) → rest = [] → exec .clearFault s = .next { s with port := s.port.answered .badArg 1 })

/-- R73, R74, R87, R191: SET_VALVE takes a COKING oven's loop to MANUAL with the clamped target, and its release returns a MANUAL loop to
COLLECT.
FREE_DOOR_LATCH frees the event latches of an oven, or with oven 0 of every oven: one whose door still is as captured is FREE, another
captures the door as it is and reports it; any other oven outside the bank is BAD_ARG.
The doors' order in the reports is log 12, and that they come on the port before the reply log 63. -/
def Obligations.ValveAndLatchCommands : Prop :=
  ∀ (s : State) (n i : Nat) (o : Oven) (p0 : BankPart0) (p1 : BankPart1) (cfgN lim : Nat) (m : ConsentMask), s.OutputsSound →
    s.role = .bank → s.config = some ⟨cfgN, lim, m, .bank p0 p1⟩ → n = p0.first + i → i < p0.count → 1 ≤ n → n < 256 →
    s.bank.ovens[i]? = some o →
    (∀ (v kept : Int), -32768 ≤ v → v < 32768 → kept = (if v < 0 then 0 else if 1000 < v then 1000 else v) →
      s.Begins 0x16#8 (field1 n ++ field1 0 ++ field2 v) →
      (o.state = .coking →
        exec .setValve s = .next { s with
          bank := { s.bank with
            loops := s.bank.loops.modify i fun l => { l with mode := .manual, target := some kept, charge := none } }
          port := s.port.answered .accepted (if kept = v then 0 else 2) (field2 kept) }) ∧
      (o.state ≠ .coking → exec .setValve s = .next { s with port := s.port.answered .badState })) ∧
    (∀ (v : Int) (l : Loop), s.bank.loops[i]? = some l → s.Begins 0x16#8 (field1 n ++ field1 1 ++ field2 v) →
      (l.mode = .manual →
        exec .setValve s = .next { s with
          bank := { s.bank with loops := s.bank.loops.set i { l with mode := .collect, target := none } }
          port := s.port.answered .accepted }) ∧
      (l.mode ≠ .manual → exec .setValve s = .next { s with port := s.port.answered .badState })) ∧
    (∀ x y, s.bank.doors[2 * i]? = some x → s.bank.doors[2 * i + 1]? = some y → s.Begins 0x18#8 (field1 n) →
      x.latch = x.snapLatch → x.sealing = x.snapSeal → y.latch = y.snapLatch → y.sealing = y.snapSeal →
      exec .freeDoorLatch s = .next { s with
        bank := { s.bank with doors := (s.bank.doors.set (2 * i) { x with held := false }).set (2 * i + 1) { y with held := false } }
        port := s.port.answered .accepted }) ∧
    (∀ x y, s.bank.doors[2 * i]? = some x → s.bank.doors[2 * i + 1]? = some y → s.Begins 0x18#8 (field1 n) → x.sealing ≠ x.snapSeal →
      y.latch = y.snapLatch → y.sealing = y.snapSeal →
      exec .freeDoorLatch s = .next { s with
        bank := { s.bank with
          doors := (s.bank.doors.set (2 * i) { x with held := true, snapLatch := x.latch, snapSeal := x.sealing }).set (2 * i + 1)
            { y with held := false } }
        port := (s.port.offerReport (.doorEvent n .ps x.latch x.sealing (x.ring.sum / 8))).answered .accepted }) ∧
    (s.Begins 0x18#8 (field1 0) → s.bank.doors.length = 2 * s.bank.ovens.length →
      exec .freeDoorLatch s = .next { s with
        bank := { s.bank with
          doors := s.bank.doors.map fun x =>
            if x.latch = x.snapLatch ∧ x.sealing = x.snapSeal then { x with held := false }
            else { x with held := true, snapLatch := x.latch, snapSeal := x.sealing } }
        port := (((List.range s.bank.doors.length).filterMap fun d => (s.bank.doors[d]?).bind fun x =>
            if x.latch = x.snapLatch ∧ x.sealing = x.snapSeal then none
            else some (Report.doorEvent (p0.first + d / 2) (doorSide d) x.latch x.sealing (x.ring.sum / 8))).foldl Port.offerReport
          s.port).answered .accepted }) ∧
    ∀ other, 1 ≤ other → other < 256 → other < p0.first ∨ p0.first + p0.count ≤ other → s.Begins 0x18#8 (field1 other) →
      exec .freeDoorLatch s = .next { s with port := s.port.answered .badArg 1 }

/-! ## The plan unit of the PUSHER -/

/-- R98, whole: pass p starts at b_p = 1 + ((p × Q) mod S) and visits b_p + j × S up to N, floor((N − b_p) / S) + 1 ovens, those of one
class modulo S; the starting ovens are 1..S, each once; a cycle runs passes 0 to S − 1 and visits each oven 1..N exactly once; no pass is
empty; pass 0 starts at oven 1; the order depends on N, S and Q alone, and READ_PLAN lists it. -/
def Obligations.CycleOrderVisitsEachOvenOnce : Prop :=
  ∀ p : Plan, 2 ≤ p.stride → p.stride ≤ 12 → p.stride ≤ p.ovens → 1 ≤ p.step → p.step ≤ p.stride - 1 → Nat.gcd p.step p.stride = 1 →
    (∀ k, p.start k = 1 + k * p.step % p.stride) ∧
    (∀ k j, p.ovenAt k j = p.start k + j * p.stride) ∧
    (∀ k, (p.passOvens k).length = (p.ovens - p.start k) / p.stride + 1) ∧
    (∀ k j, (p.passOvens k)[j]? = if p.ovenAt k j ≤ p.ovens then some (p.ovenAt k j) else none) ∧
    (∀ k o, o ∈ p.passOvens k ↔ 1 ≤ o ∧ o ≤ p.ovens ∧ (o - 1) % p.stride = p.start k - 1) ∧
    (∀ v, v < p.stride → ∃ k, k < p.stride ∧ k * p.step % p.stride = v ∧
      ∀ l, l < p.stride → l * p.step % p.stride = v → l = k) ∧
    (∀ o, 1 ≤ o → o ≤ p.stride → ∃ k, k < p.stride ∧ p.start k = o ∧ ∀ l, l < p.stride → p.start l = o → l = k) ∧
    p.order = (List.range p.stride).flatMap p.passOvens ∧
    p.order.length = p.ovens ∧ p.order.Nodup ∧ (∀ o, o ∈ p.order ↔ 1 ≤ o ∧ o ≤ p.ovens) ∧
    (∀ k, p.passOvens k ≠ []) ∧ p.start 0 = 1 ∧
    (∀ q : Plan, q.ovens = p.ovens → q.stride = p.stride → q.step = p.step → q.order = p.order) ∧
    (∀ s : State, ∃ before after, s.planContent p = before ++ p.order.map byte ++ after)

/-- R99 to R101, R103 to R106: the cursor advances to the next place of its pass, to the next pass, or over the cycle boundary, which applies
a staged change. The choice claims the oldest deferred oven that is ready, with the cursor where it stood; else it judges the cursor oven. A
claimed oven is READY or OVERCOKED and not under the OPEN claim; an oven waited on is the UNPUSHED cursor oven. The look at the list removes the
entries out of service, which it marks SKIPPED_OOS. A cursor oven marked already is stepped over, one out of service is marked and stepped
over, one deferred joins the tail and is stepped over unless the list holds eight; after N advances the choice is none, and what was done on
the way stands. Each expiry of the plan timer makes the choice.
The time to the expiry passes first (log 2). -/
def Obligations.CursorAndChoice : Prop :=
  (∀ p : Plan,
    (p.ovenAt p.pass (p.pos + 1) ≤ p.ovens → p.advance = { p with pos := p.pos + 1 }) ∧
    (p.ovens < p.ovenAt p.pass (p.pos + 1) → p.pass + 1 < p.stride → p.advance = { p with pass := p.pass + 1, pos := 0 }) ∧
    (p.ovens < p.ovenAt p.pass (p.pos + 1) → p.stride ≤ p.pass + 1 →
      ∃ q, p.advance = q ∧ q.cycle = (p.cycle + 1) % 65536 ∧ q.marks = List.replicate p.ovens .unpushed ∧ q.cursor = 1 ∧
        q.staged = none ∧ q.deferred = p.deferred ∧ q.note = p.note ∧ q.shown = p.shown ∧ q.ovens = p.ovens ∧
        (p.staged = none → q.stride = p.stride ∧ q.step = p.step) ∧
        ∀ a b, p.staged = some (a, b) → q.stride = a ∧ q.step = b)) ∧
  (∀ (p q : Plan) (sum : Nat → Option (SummaryState × Nat)) (claimed : Nat → Bool) (c : Choice),
    p.choose sum claimed = (q, c) →
      (∀ o, c = .claim o → q.shown = o ∧ claimed o = false ∧ ((sum o).map Prod.fst = some .ready ∨ (sum o).map Prod.fst = some .overcoked)) ∧
      (∀ o, c = .wait o → q.shown = o ∧ o = q.cursor ∧ q.mark o = .unpushed ∧ o ∉ q.deferred ∧
        (claimed o = true ∨ (∃ m, sum o = some (.notReady, m) ∧ m * 10 ≤ p.skip) ∨ 8 ≤ q.deferred.length)) ∧
      (c = .nothing → q.shown = 0) ∧
      q.ovens = p.ovens ∧ q.skip = p.skip ∧ q.note = p.note ∧ q.timer = p.timer ∧
      (p.deferred.length ≤ 8 → q.deferred.length ≤ 8) ∧
      (∀ (before after : List Nat) (o : Nat), p.deferred = before ++ o :: after → claimed o = false → claimable (sum o) = true →
        (∀ d ∈ before, claimed d = true ∨ claimable (sum d) = false) →
        c = .claim o ∧ q.pass = p.pass ∧ q.pos = p.pos ∧ q.cycle = p.cycle) ∧
      ((∀ d ∈ p.deferred, claimed d = true ∨ (claimable (sum d) = false ∧ (sum d).map Prod.fst ≠ some .outOfService)) →
        p.mark p.cursor = .unpushed → p.ovens ≠ 0 →
        ((claimed p.cursor = true → c = .wait p.cursor) ∧
          (claimed p.cursor = false → claimable (sum p.cursor) = true → c = .claim p.cursor) ∧
          (∀ m, claimed p.cursor = false → sum p.cursor = some (.notReady, m) → m * 10 ≤ p.skip → c = .wait p.cursor)))) ∧
  (∀ (p p1 : Plan) (sum : Nat → Option (SummaryState × Nat)) (claimed : Nat → Bool) (looked : List Nat),
    (∀ d ∈ looked, claimed d = true ∨ claimable (sum d) = false) →
    p1 = { p with
      deferred := p.deferred.filter fun d =>
        !(decide (d ∈ looked) && decide (claimed d = false) && decide ((sum d).map Prod.fst = some .outOfService))
      marks := p.marks.mapIdx fun k m =>
        if k + 1 ∈ looked ∧ claimed (k + 1) = false ∧ (sum (k + 1)).map Prod.fst = some .outOfService ∧ m = .unpushed then .skippedOos
        else m } →
      (∀ o rest, p.deferred = looked ++ o :: rest → claimed o = false → claimable (sum o) = true →
        p.choose sum claimed = ({ p1 with shown := o }, .claim o)) ∧
      (p.deferred = looked → ∀ q c, chooseAtCursor sum claimed p.ovens p1 = (q, c) →
        p.choose sum claimed = ({ q with shown := match c with | .claim o => o | .wait o => o | .nothing => 0 }, c))) ∧
  (∀ (p : Plan) (sum : Nat → Option (SummaryState × Nat)) (claimed : Nat → Bool) (n o : Nat) (others : List Nat), o = p.cursor →
    others = p.deferred.filter (fun d => decide (d ≠ o)) →
    chooseAtCursor sum claimed 0 p = (p, .nothing) ∧
    (p.mark o ≠ .unpushed → chooseAtCursor sum claimed (n + 1) p = chooseAtCursor sum claimed n p.advance) ∧
    (p.mark o = .unpushed →
      (claimed o = true → chooseAtCursor sum claimed (n + 1) p = ({ p with deferred := others }, .wait o)) ∧
      (claimed o = false →
        (claimable (sum o) = true → chooseAtCursor sum claimed (n + 1) p = ({ p with deferred := others }, .claim o)) ∧
        (∀ m, sum o = some (.outOfService, m) →
          chooseAtCursor sum claimed (n + 1) p =
            chooseAtCursor sum claimed n { p with deferred := others, marks := p.marks.set (o - 1) .skippedOos }.advance) ∧
        (∀ m, sum o = some (.notReady, m) → m * 10 ≤ p.skip →
          chooseAtCursor sum claimed (n + 1) p = ({ p with deferred := others }, .wait o)) ∧
        (claimable (sum o) = false → (sum o).map Prod.fst ≠ some .outOfService → (∀ m, sum o = some (.notReady, m) → p.skip < m * 10) →
          (others.length < 8 →
            chooseAtCursor sum claimed (n + 1) p = chooseAtCursor sum claimed n { p with deferred := others ++ [o] }.advance) ∧
          (8 ≤ others.length → chooseAtCursor sum claimed (n + 1) p = ({ p with deferred := others }, .wait o)))))) ∧
  (∀ (s s1 : State) (p : Plan) (x : Nat), s.plan = some p → p.timer = some x → s1 = s.elapse (500 - x) → s.life.state = .onLine →
    ∃ t, exec .planTimerExpiry s = .next t ∧ SameBut [.plan, .out] s1 t ∧
      t.plan = some (({ p with timer := some 0 }).choose s1.summary fun o => (s1.claimOn o).isSome).1)

/-- R15, R102, R107, R109: PUSH_REQUEST. An oven above N is BAD_ARG; off the line the answer is BAD_STATE; a stop and an open or queued claim
refuse it. An explicit oven without an owner is OWNER_ABSENT, and with one it is offered with the expected serial, ACCEPTED with both, or
BUSY. With oven 0 the choice decides: its oven is offered, an oven waited on is NOT_READY with its summary (or offered forced, where the flag
is set and it shows NOT_READY), and none is NOT_READY with oven 0. A full send queue answers BUSY, and the choice made stands. PLAN_CHANGE
stages a stride and a pass step that START would accept.
The model's choices: a forced flag byte other than 0 counts as forced (log 39), and NOT_READY is followed by the summary's state and minutes
code after a presence byte (log 14), the minutes read as log 38 gives. -/
def Obligations.PushRequestAndPlanChange : Prop :=
  ∀ (s : State) (p : Plan), s.OutputsSound → s.role = .pusher → s.plan = some p →
    (∀ (b flag : Byte) (o serial : Nat) (forced : Bool), s.Begins 0x07#8 [b, flag] → o = b.toNat → (forced = true ↔ flag ≠ 0#8) →
      serial = s.claims.highest % 255 + 1 →
      (s.ovenCount < o → exec .pushRequest s = .next { s with port := s.port.answered .badArg 1 }) ∧
      (o ≤ s.ovenCount →
        (s.life.state ≠ .onLine → exec .pushRequest s = .next { s with port := s.port.answered .badState }) ∧
        (s.life.state = .onLine →
          (s.stop.stopped = true → exec .pushRequest s = .next { s with port := s.port.answered .refused 4 }) ∧
          (s.stop.stopped = false →
            ((∃ r, s.claims.record = some r ∧ r.ending = .opened) ∨ (∃ e ∈ s.queue, e.body.kind = .pushClaim) →
              exec .pushRequest s = .next { s with port := s.port.answered .refused 7 }) ∧
            ((∀ r, s.claims.record = some r → r.ending ≠ .opened) → (∀ e ∈ s.queue, e.body.kind ≠ .pushClaim) →
              (o ≠ 0 → s.owner? o = none → exec .pushRequest s = .next { s with port := s.port.answered .ownerAbsent }) ∧
              (o ≠ 0 → s.owner? o ≠ none → s.queue.length < 8 →
                exec .pushRequest s = .next { s with
                  queue := s.queue ++ [⟨.pushClaim o serial forced, false, s.time, 0, false⟩]
                  port := s.port.answered .accepted 0 [byte o, byte serial] }) ∧
              (o ≠ 0 → s.owner? o ≠ none → 8 ≤ s.queue.length →
                exec .pushRequest s = .next { s with port := s.port.answered .busy }) ∧
              (∀ q c, o = 0 → p.choose s.summary (fun n => (s.claimOn n).isSome) = (q, c) →
                (∀ n, c = .claim n → s.queue.length < 8 →
                  exec .pushRequest s = .next { s with
                    plan := some q
                    queue := s.queue ++ [⟨.pushClaim n serial forced, false, s.time, 0, false⟩]
                    port := s.port.answered .accepted 0 [byte n, byte serial] }) ∧
                (∀ n, c = .claim n → 8 ≤ s.queue.length →
                  exec .pushRequest s = .next { s with plan := some q, port := s.port.answered .busy }) ∧
                (∀ n y m, c = .wait n → s.summary n = some (y, m) →
                  (forced = true → y = .notReady → s.queue.length < 8 →
                    exec .pushRequest s = .next { s with
                      plan := some q
                      queue := s.queue ++ [⟨.pushClaim n serial true, false, s.time, 0, false⟩]
                      port := s.port.answered .accepted 0 [byte n, byte serial] }) ∧
                  (forced = true → y = .notReady → 8 ≤ s.queue.length →
                    exec .pushRequest s = .next { s with plan := some q, port := s.port.answered .busy }) ∧
                  (forced = false ∨ y ≠ .notReady →
                    exec .pushRequest s = .next { s with
                      plan := some q, port := s.port.answered .notReady 0 [byte n, 1#8, byte y.code, byte m] })) ∧
                (∀ n, c = .wait n → s.summary n = none →
                  exec .pushRequest s = .next { s with
                    plan := some q, port := s.port.answered .notReady 0 [byte n, 0#8, 0#8, 0#8] }) ∧
                (c = .nothing →
                  exec .pushRequest s = .next { s with
                    plan := some q, port := s.port.answered .notReady 0 [0#8, 0#8, 0#8, 0#8] }))))))) ∧
    (∀ a b : Byte, s.Begins 0x19#8 [a, b] →
      (a.toNat < 2 ∨ 12 < a.toNat ∨ p.ovens < a.toNat → exec .planChange s = .next { s with port := s.port.answered .badArg 1 }) ∧
      (2 ≤ a.toNat → a.toNat ≤ 12 → a.toNat ≤ p.ovens →
        (b.toNat < 1 ∨ a.toNat ≤ b.toNat ∨ Nat.gcd b.toNat a.toNat ≠ 1 →
          exec .planChange s = .next { s with port := s.port.answered .badArg 2 }) ∧
        (1 ≤ b.toNat → b.toNat < a.toNat → Nat.gcd b.toNat a.toNat = 1 →
          exec .planChange s = .next { s with
            plan := some { p with staged := some (a.toNat, b.toNat) }, port := s.port.answered .accepted })))

/-! ## The machines -/

/-- R126, R139 to R143, R145, R146: an open chain takes the permits away at once, a closed one lets them be derived afresh. MACHINE_AT sets the
position; a GUIDE that leaves the oven of the OPEN claim with GUIDE_SET set and RAM_HOME clear owes a revoke and acts on the frames of GUIDE_SET
(`State.revokeOffers`: R126): a revoke in the queue stands, a set in flight is waited out, a PENDING set is withdrawn, and with none the revoke is
offered, or refused where the station is not ON_LINE or the queue is full, with the retry timer started; with GUIDE_SET clear a PENDING set is
withdrawn and no flag is set; after 1000 ms the revoke is offered again. STAGE checks its code, the station, the claim, the position and the
stage's condition in that order, a GUIDE_SET being ORDER while the revoke owed flag is set, and offers the stage's frame, once; a GUIDE_SET over a
PENDING revoke withdraws it, and over one in flight is kept as the guide's wish until the outcome of that revoke, or until the guide departs or
reports GUIDE_CLEAR; GUIDE_CLEAR owes the revoke and acts on the frames of GUIDE_SET likewise, BUSY where it
finds none and the queue full. The retry's remaining time passes first (log 2); a flag that stands from an earlier departure stays with the set
withdrawn (log 53); that the reports of a row come on the port before its reply is log 63, what becomes of a running revoke retry timer log 69,
that the retry timer starts with a withdrawn set log 79, and that a departure ends the wish log 80; which combinations no run reaches is log 21.
That the CHAIN reading follows its input before START too is log 73, and that the 50 ms of a closed input are not counted log 6. -/
def Obligations.PositionChainAndStages : Prop :=
  (∀ s : State, s.role = .pusher ∨ s.role = .guide →
    (s.machine.chain = true →
      ∃ t, exec .chainOpens s = .next t ∧ SameBut [.machine, .out] s t ∧ t.machine = { s.machine with chain := false } ∧
        t.out.ram = false ∧ t.out.extractor = false) ∧
    (s.machine.chain = false →
      ∃ t, exec .chainClosed s = .next t ∧ SameBut [.machine, .out] s t ∧ t.machine = { s.machine with chain := true } ∧
        t.OutputsSound)) ∧
  (∀ s : State, s.role = .quench →
    (s.car.chain = true →
      ∃ t, exec .chainOpens s = .next t ∧ SameBut [.car, .out] s t ∧ t.car = { s.car with chain := false } ∧ t.out.travel = false ∧
        t.out.gate = false) ∧
    (s.car.chain = false →
      ∃ t, exec .chainClosed s = .next t ∧ SameBut [.car, .out] s t ∧ t.car = { s.car with chain := true } ∧ t.OutputsSound)) ∧
  (∀ (s : State) (b : Byte), s.role = .pusher ∨ s.role = .guide → s.config ≠ none → s.Begins 0x0A#8 [b] →
    (s.OutputsSound → s.ovenCount < b.toNat → exec .machineAt s = .next { s with port := s.port.answered .badArg 1 }) ∧
    (s.OutputsSound → b.toNat ≤ s.ovenCount → b.toNat = s.machine.position →
      exec .machineAt s = .next { s with port := s.port.answered .accepted }) ∧
    (b.toNat ≤ s.ovenCount → b.toNat ≠ s.machine.position →
      (s.role = .pusher ∨ s.claimOn s.machine.position = none →
        ∃ t, exec .machineAt s = .next t ∧ SameBut [.machine, .out, .port] s t ∧
          t.machine = { s.machine with position := b.toNat } ∧ t.port = s.port.answered .accepted ∧ t.OutputsSound) ∧
      (∀ c, s.role = .guide → s.claims.record = some c → c.ending = .opened → c.oven = s.machine.position → c.stages.guideSet = true →
        (c.stages.ramHome = true →
          ∃ t, exec .machineAt s = .next t ∧ SameBut [.machine, .out, .port] s t ∧
            t.machine = { s.machine with position := b.toNat, setWanted := none } ∧ t.port = s.port.answered .accepted) ∧
        ∀ x, c.stages.ramHome = false →
          x = s.revokeOffers c { s.machine with position := b.toNat, revokeOwed := some c.serial, setWanted := none } →
          ∃ t, exec .machineAt s = .next t ∧ SameBut [.queue, .machine, .out, .port] s t ∧ t.machine = x.machine ∧ t.queue = x.queue ∧
            t.port = x.port.answered .accepted) ∧
      (∀ c, s.role = .guide → s.claims.record = some c → c.ending = .opened → c.oven = s.machine.position → c.stages.guideSet = false →
        ((∀ e ∈ s.queue, e.inFlight = true → ∀ n, e.body ≠ .pushStage n c.serial 8 false) →
          ∃ t, exec .machineAt s = .next t ∧ SameBut [.queue, .machine, .out, .port] s t ∧
            t.machine = { s.machine with position := b.toNat, setWanted := none } ∧ t.port = s.port.answered .accepted ∧
            t.queue = s.queue.filter fun e => e.inFlight || !e.body.ofStage c.serial 8 false) ∧
        ((∃ e ∈ s.queue, e.inFlight = true ∧ ∃ n, e.body = .pushStage n c.serial 8 false) →
          ∃ t, exec .machineAt s = .next t ∧ SameBut [.machine, .out, .port] s t ∧ t.port = s.port.answered .accepted ∧
            t.machine = if c.stages.ramHome = true then { s.machine with position := b.toNat, setWanted := none }
              else { s.machine with position := b.toNat, revokeOwed := some c.serial, setWanted := none })))) ∧
  (∀ (s s1 : State) (x : Nat), s.machine.revokeTimer = some x → s1 = s.elapse (1000 - x) →
    (∀ c y, s.machine.revokeOwed = some c.serial → s.claims.record = some c → c.ending = .opened →
      y = s1.revokeOffers c { s1.machine with revokeTimer := none } →
      ∃ t, exec .revokeRetryTimer s = .next t ∧ SameBut [.queue, .machine, .out, .port] s1 t ∧ t.machine = y.machine ∧ t.queue = y.queue ∧
        t.port = y.port) ∧
    ((∀ c, s.openClaim = some c → s.machine.revokeOwed ≠ some c.serial) →
      ∃ t, exec .revokeRetryTimer s = .next t ∧ SameBut [.machine, .out] s1 t ∧ t.machine = { s1.machine with revokeTimer := none })) ∧
  (∀ (s : State) (b : Byte) (codes : List Nat), s.OutputsSound → s.config ≠ none → s.Begins 0x09#8 [b] →
    (s.role = .pusher ∧ codes = [1, 3, 5, 6]) ∨ (s.role = .guide ∧ codes = [2, 7, 8, 10]) →
    (b.toNat ∉ codes → exec .stage s = .next { s with port := s.port.answered .badArg 1 }) ∧
    (b.toNat ∈ codes → s.life.state ≠ .onLine ∨ s.openClaim = none →
      exec .stage s = .next { s with port := s.port.answered .badState }) ∧
    (∀ c, b.toNat ∈ codes → s.life.state = .onLine → s.claims.record = some c → c.ending = .opened →
      (∀ y : Stage, y.code = b.toNat →
        (s.machine.position ≠ c.oven → exec .stage s = .next { s with port := s.port.answered .refused 12 }) ∧
        (s.machine.position = c.oven →
          (c.stages.maySet y = false ∨ (y = .guideSet ∧ s.machine.revokeOwed ≠ none) →
            exec .stage s = .next { s with port := s.port.answered .order }) ∧
          (c.stages.maySet y = true → (y = .guideSet → s.machine.revokeOwed = none) →
            ((∃ e ∈ s.queue, ∃ n, e.body = .pushStage n c.serial y.code false) →
              exec .stage s = .next { s with port := s.port.answered .accepted }) ∧
            ((∀ e ∈ s.queue, ∀ n, e.body ≠ .pushStage n c.serial y.code false) → y = .guideSet →
              (∃ e ∈ s.queue, ∃ n, e.body = .pushStage n c.serial 8 true) →
              exec .stage s = .next { s with
                queue := s.queue.filter fun e => e.inFlight || !e.body.ofStage c.serial 8 true
                machine := { s.machine with
                  setWanted := if (s.queue.any fun e => e.inFlight && e.body.ofStage c.serial 8 true) = true then some c.serial else none }
                port := s.port.answered .accepted }) ∧
            ((∀ e ∈ s.queue, ∀ n, e.body ≠ .pushStage n c.serial y.code false) →
              (y = .guideSet → ∀ e ∈ s.queue, ∀ n, e.body ≠ .pushStage n c.serial 8 true) →
              (s.queue.length < 8 →
                exec .stage s = .next { s with
                  queue := s.queue ++ [⟨.pushStage c.oven c.serial y.code false, false, s.time, 0, false⟩]
                  port := s.port.answered .accepted }) ∧
              (8 ≤ s.queue.length →
                exec .stage s = .next { s with
                  port := (s.port.offerReport (.frameRefused (.pushStage c.oven c.serial y.code false))).answered .busy }))))) ∧
      (b.toNat = 10 →
        (c.stages.guideSet = false ∨ c.stages.ramHome = true → exec .stage s = .next { s with port := s.port.answered .order }) ∧
        ∀ x, c.stages.guideSet = true → c.stages.ramHome = false →
          x = s.revokeOffers c { s.machine with revokeOwed := some c.serial, setWanted := none } →
          exec .stage s = .next { s with
            machine := x.machine
            queue := x.queue
            port := x.port.answered
              (if (s.queue.any fun e => e.body.ofStage c.serial 8 true || e.body.ofStage c.serial 8 false) = true ∨ s.queue.length < 8
                then .accepted else .busy) })))

/-- R15, R147, R149, R151: LEVEL_DONE, RESEAL_START and RESEAL_FINISH with their checks in the rules' order, and the frame each offers: CHARGED
once for an EMPTY oven at whose position the pusher stands; RESEAL_CLAIM of the machine's side with the expected serial; RESEAL_DONE for the
open claim of the side. A full send queue answers each BUSY, CHARGED and RESEAL_DONE with FRAME_REFUSED.
That the reports of a row come on the port before its reply is log 63; which of several open reseal records of its side
RESEAL_FINISH ends is log 70. -/
def Obligations.LevelAndResealCommands : Prop :=
  (∀ (s : State) (b : Byte) (n : Nat), s.OutputsSound → s.role = .pusher → s.config ≠ none → s.Begins 0x0B#8 [b] → n = b.toNat →
    (n = 0 ∨ s.ovenCount < n → exec .levelDone s = .next { s with port := s.port.answered .badArg 1 }) ∧
    (1 ≤ n → n ≤ s.ovenCount →
      (s.life.state ≠ .onLine → exec .levelDone s = .next { s with port := s.port.answered .badState }) ∧
      (s.life.state = .onLine →
        (s.stop.stopped = true → exec .levelDone s = .next { s with port := s.port.answered .refused 4 }) ∧
        (s.stop.stopped = false →
          (s.machine.position ≠ n → exec .levelDone s = .next { s with port := s.port.answered .refused 12 }) ∧
          (s.machine.position = n →
            (s.owner? n = none → exec .levelDone s = .next { s with port := s.port.answered .ownerAbsent }) ∧
            (∀ id, s.owner? n = some id →
              ((s.summary n).map Prod.fst ≠ some .empty → exec .levelDone s = .next { s with port := s.port.answered .badState }) ∧
              ((s.summary n).map Prod.fst = some .empty →
                (∀ moment, s.machine.charged = some (n, moment) → later (s.announcedAt id) moment = false →
                  exec .levelDone s = .next { s with port := s.port.answered .badState }) ∧
                ((∀ moment, s.machine.charged = some (n, moment) → later (s.announcedAt id) moment = true) →
                  ((∃ e ∈ s.queue, e.body = .charged n) → exec .levelDone s = .next { s with port := s.port.answered .accepted }) ∧
                  ((∀ e ∈ s.queue, e.body ≠ .charged n) → s.queue.length < 8 →
                    exec .levelDone s = .next { s with
                      queue := s.queue ++ [⟨.charged n, false, s.time, 0, false⟩]
                      port := s.port.answered .accepted }) ∧
                  ((∀ e ∈ s.queue, e.body ≠ .charged n) → 8 ≤ s.queue.length →
                    exec .levelDone s = .next { s with
                      port := (s.port.offerReport (.frameRefused (.charged n))).answered .busy }))))))))) ∧
  (∀ (s : State) (b : Byte) (n serial : Nat) (j : Side), s.OutputsSound → s.role = j.role → s.config ≠ none → s.Begins 0x0C#8 [b] →
    n = b.toNat → serial = s.claims.highestReseal % 255 + 1 →
    (n = 0 ∨ s.ovenCount < n → exec .resealStart s = .next { s with port := s.port.answered .badArg 1 }) ∧
    (1 ≤ n → n ≤ s.ovenCount →
      (s.life.state ≠ .onLine → exec .resealStart s = .next { s with port := s.port.answered .badState }) ∧
      (s.life.state = .onLine →
        (s.machine.position ≠ n → exec .resealStart s = .next { s with port := s.port.answered .refused 12 }) ∧
        (s.machine.position = n →
          (s.stop.stopped = true → exec .resealStart s = .next { s with port := s.port.answered .refused 4 }) ∧
          (s.stop.stopped = false →
            (s.openClaim ≠ none → exec .resealStart s = .next { s with port := s.port.answered .refused 7 }) ∧
            (s.openClaim = none →
              ((∃ r, some r ∈ s.claims.reseals ∧ r.ending = .opened ∧ r.side = j) ∨ (∃ e ∈ s.queue, e.body.kind = .resealClaim) →
                exec .resealStart s = .next { s with port := s.port.answered .refused 8 }) ∧
              ((∀ r, some r ∈ s.claims.reseals → r.ending = .opened → r.side ≠ j) → (∀ e ∈ s.queue, e.body.kind ≠ .resealClaim) →
                (s.owner? n = none → exec .resealStart s = .next { s with port := s.port.answered .ownerAbsent }) ∧
                (s.owner? n ≠ none → s.queue.length < 8 →
                  exec .resealStart s = .next { s with
                    queue := s.queue ++ [⟨.resealClaim n j.code serial, false, s.time, 0, false⟩]
                    port := s.port.answered .accepted 0 [byte n, byte j.code, byte serial] }) ∧
                (s.owner? n ≠ none → 8 ≤ s.queue.length →
                  exec .resealStart s = .next { s with port := s.port.answered .busy })))))))) ∧
  (∀ (s : State) (j : Side), s.OutputsSound → s.role = j.role → s.Begins 0x0D#8 [] →
    (s.life.state ≠ .onLine → exec .resealFinish s = .next { s with port := s.port.answered .badState }) ∧
    (s.life.state = .onLine →
      ((∃ e ∈ s.queue, e.inFlight = false ∧ e.body.kind = .resealClaim) →
        exec .resealFinish s = .next { s with
          queue := s.queue.filter fun e => e.inFlight || decide (e.body.kind ≠ .resealClaim)
          port := s.port.answered .accepted 1 }) ∧
      ((∃ e ∈ s.queue, e.body.kind = .resealClaim) → (∀ e ∈ s.queue, e.body.kind = .resealClaim → e.inFlight = true) →
        exec .resealFinish s = .next { s with port := s.port.answered .badState }) ∧
      ((∀ e ∈ s.queue, e.body.kind ≠ .resealClaim) →
        ((∀ r, some r ∈ s.claims.reseals → r.ending = .opened → r.side ≠ j) →
          exec .resealFinish s = .next { s with port := s.port.answered .badState }) ∧
        (∀ r, s.openReseals.find? (fun y => decide (y.side = j)) = some r →
          ((∃ e ∈ s.queue, ∃ n k o, e.body = .resealDone n k r.serial o) →
            exec .resealFinish s = .next { s with port := s.port.answered .accepted }) ∧
          ((∀ e ∈ s.queue, ∀ n k o, e.body ≠ .resealDone n k r.serial o) → s.queue.length < 8 →
            exec .resealFinish s = .next { s with
              queue := s.queue ++ [⟨.resealDone r.oven j.code r.serial 0, false, s.time, 0, false⟩]
              port := s.port.answered .accepted }) ∧
          ((∀ e ∈ s.queue, ∀ n k o, e.body ≠ .resealDone n k r.serial o) → 8 ≤ s.queue.length →
            exec .resealFinish s = .next { s with
              port := (s.port.offerReport (.frameRefused (.resealDone r.oven j.code r.serial 0))).answered .busy })))))

/-! ## The quench car -/

/-- R126, R155, R158 to R162, R165, R167: the head move starts where its conditions hold: it completes at once at its target, else the car
travels. CAR_AT at the target of the move completes it; elsewhere it moves the marker, takes a SPOTTED car to IDLE, and is a displacement at the
spot of the OPEN claim: back to the spot before RAM_OUT, FAULT and an abandon after it; a car at the tower or tipping that is moved faults. The
move limit faults; the quench time leads to DRAINING and the drain time to LOADED with load QUENCHED and WHARF at the head. After each of these
the ready wish is compared with CAR_READY in the OPEN claim (`State.CarBecomes`): as the car comes to stand SPOTTED and empty at the claim's oven
CAR_READY is offered, as it leaves its revoke, and off the line, or where the queue is full, the ready retry timer starts, whose end compares wish
and record again. The start of a move is a row of its own (log 25), and the remaining time of a timer passes first (log 2); what MOVE_DONE says of
a guide whose position is not known is log 59, whose position it is where several entries show the role log 42, and that it says nothing of the
guide for another move log 14; that a ready retry timer which runs already starts again is log 60, that MOVE_DONE, QUENCH_DONE or ATTENTION stands
on the port before the FRAME_REFUSED of CAR_READY and of the abandon, and these frames in the queue in that order, log 12, that the reports of a
row come on the port before its reply log 63, and that a LOADING car without an OPEN claim keeps its state log 74. -/
def Obligations.CarMovesAndTimers : Prop :=
  ∀ s : State, s.role = .quench →
    (∀ m rest, s.config ≠ none → s.car.queue = m :: rest → s.car.move = none → s.car.state ∈ [.idle, .spotted, .loaded] →
      s.car.load = (match m with | .tower => .hot | .wharf => .quenched | .spot _ => .none | .park => .none) →
      (∀ c, s.claims.record = some c → c.ending = .opened → s.car.marker = c.oven → c.stages.carLoaded = true ∨ m.target = c.oven) →
      ((∃ n, m = .spot n) → s.life.state = .onLine) → s.stop.stopped = false → s.car.chain = true →
      (m.target ≠ s.car.marker →
        ∃ t, exec .moveStart s = .next t ∧
          s.CarBecomes t { s.car with queue := rest, move := some m, state := .travelling, moveTimer := some 0 }
            (s.port.offerReport (.moveGranted m.target))) ∧
      (m.target = s.car.marker →
        ∃ t, exec .moveStart s = .next t ∧
          s.CarBecomes t { s.car with
              queue := rest, move := none, moveTimer := none
              phase := if m = .tower then some 0 else s.car.phase
              state := match m with | .spot _ => .spotted | .tower => .quenching | .wharf => .dumping | .park => .idle }
            (s.port.offerReport (.moveDone m.target (match m with | .spot n => some (s.guideAt n) | _ => none))))) ∧
    (∀ (b : Byte) (m : Nat) (reply : Port → Port), s.config ≠ none → s.Begins 0x0E#8 [b] → m = b.toNat →
      reply = (fun p => p.answered .accepted) →
      (s.OutputsSound → ¬(m ≤ s.ovenCount ∨ m = 200 ∨ m = 201 ∨ m = 202) →
        exec .carAt s = .next { s with port := s.port.answered .badArg 1 }) ∧
      (m ≤ s.ovenCount ∨ m = 200 ∨ m = 201 ∨ m = 202 →
        (∀ x, s.car.state = .travelling → s.car.move = some x → x.target = m →
          ∃ t, exec .carAt s = .next t ∧
            s.CarBecomes t { s.car with
                marker := m, move := none, moveTimer := none
                phase := if x = .tower then some 0 else s.car.phase
                state := match x with | .spot _ => .spotted | .tower => .quenching | .wharf => .dumping | .park => .idle }
              (s.port.offerReport (.moveDone m (match x with | .spot n => some (s.guideAt n) | _ => none))) reply) ∧
        (∀ x, s.car.state = .travelling → s.car.move = some x → x.target ≠ m →
          ∃ t, exec .carAt s = .next t ∧ s.CarBecomes t { s.car with marker := m } s.port reply) ∧
        (s.OutputsSound → s.car.state ≠ .travelling → m = s.car.marker →
          exec .carAt s = .next { s with port := s.port.answered .accepted }) ∧
        (m ≠ s.car.marker →
          (s.car.state ∈ [.idle, .loaded, .fault] →
            ∃ t, exec .carAt s = .next t ∧ s.CarBecomes t { s.car with marker := m } s.port reply) ∧
          (s.claimOn s.car.marker = none →
            (s.car.state = .spotted →
              ∃ t, exec .carAt s = .next t ∧
                s.CarBecomes t { s.car with
                    marker := m, state := .idle
                    queue := if s.car.lastNext = s.car.marker then
                      .spot s.car.marker :: s.car.queue.filter (fun x => match x with | .spot _ => false | _ => true) else s.car.queue }
                  s.port reply) ∧
            (s.car.state = .loading → ∃ t, exec .carAt s = .next t ∧ s.CarBecomes t { s.car with marker := m } s.port reply)) ∧
          (∀ c, s.claims.record = some c → c.ending = .opened → c.oven = s.car.marker → s.car.state ∈ [.spotted, .loading] →
            (c.stages.ramOut = false →
              ∃ t, exec .carAt s = .next t ∧
                s.CarBecomes t { s.car with
                    marker := m, state := .idle
                    queue := .spot c.oven :: s.car.queue.filter (fun x => match x with | .spot _ => false | _ => true) } s.port reply) ∧
            (c.stages.ramOut = true →
              ∃ t, exec .carAt s = .next t ∧
                s.CarStands t (CarOffers.abandoning (CarOffers.compared
                  ⟨{ s.car with marker := m, state := .fault, moveTimer := none, phase := none, fault := true }, s.queue,
                    if s.car.fault = true then s.port else s.port.offerReport (.attention none none .carFault true)⟩ s) s) reply)) ∧
          (s.car.state ∈ [.quenching, .draining, .dumping] →
            ∃ t, exec .carAt s = .next t ∧
              s.CarBecomes t { s.car with marker := m, state := .fault, moveTimer := none, phase := none, fault := true }
                (if s.car.fault = true then s.port else s.port.offerReport (.attention none none .carFault true)) reply)))) ∧
    (∀ quench drain limit n lim mask x s1, s.config = some ⟨n, lim, mask, .quench ⟨quench, drain, limit⟩⟩ →
      (s.car.moveTimer = some x → s.stop.stopped = false → s1 = s.elapse (1000 * limit - x) →
        ∃ t, exec .moveTimerExpiry s = .next t ∧
          s1.CarBecomes t { s1.car with state := .fault, moveTimer := none, phase := none, fault := true }
            (if s.car.fault = true then s1.port else s1.port.offerReport (.attention none none .carFault true))) ∧
      (s.car.phase = some x → s.car.state = .quenching → s1 = s.elapse (1000 * quench - x) →
        ∃ t, exec .quenchTimeExpiry s = .next t ∧ s1.CarBecomes t { s1.car with state := .draining, phase := some 0 } s1.port) ∧
      (s.car.phase = some x → s.car.state = .draining → s1 = s.elapse (1000 * drain - x) →
        ∃ t, exec .drainTimeExpiry s = .next t ∧
          s1.CarBecomes t { s1.car with
              phase := none, load := .quenched, state := .loaded
              queue := if Move.wharf ∈ s.car.queue then s.car.queue else .wharf :: s.car.queue }
            (s1.port.offerReport (.quenchDone quench drain)))) ∧
    (∀ x s1, s.car.readyTimer = some x → s1 = s.elapse (1000 - x) →
      ∃ t, exec .readyRetryTimer s = .next t ∧ s1.CarBecomes t { s1.car with readyTimer := none } s1.port) ∧
    (∀ c x s1, s.car.readyTimer = some x → s1 = s.elapse (1000 - x) → s.claims.record = some c → c.ending = .opened →
      ((∀ e ∈ s.queue, ∀ n r, e.body ≠ .pushStage n c.serial 9 r) →
        ((s.wishesReady c ↔ c.stages.carReady = false) → c.stages.carLoaded = false → s.life.state = .onLine → s.queue.length < 8 →
          ∃ t, exec .readyRetryTimer s = .next t ∧ SameBut [.queue, .car, .out] s1 t ∧ t.car = { s1.car with readyTimer := none } ∧
            t.queue = s.queue ++ [⟨.pushStage c.oven c.serial 9 c.stages.carReady, false, s1.time, 0, false⟩]) ∧
        ((s.wishesReady c ↔ c.stages.carReady = false) → c.stages.carLoaded = false → s.life.state ≠ .onLine →
          ∃ t, exec .readyRetryTimer s = .next t ∧ SameBut [.car, .out] s1 t ∧ t.car = { s1.car with readyTimer := some 0 }) ∧
        ((s.wishesReady c ↔ c.stages.carReady = true) →
          ∃ t, exec .readyRetryTimer s = .next t ∧ SameBut [.car, .out] s1 t ∧ t.car = { s1.car with readyTimer := none })) ∧
      (∀ wish : Bool, (∃ e ∈ s.queue, ∃ n r, e.body = .pushStage n c.serial 9 r) → (wish = true ↔ s.wishesReady c) →
        ∃ t, exec .readyRetryTimer s = .next t ∧ SameBut [.queue, .car, .out] s1 t ∧ t.car = { s1.car with readyTimer := none } ∧
          t.queue = s.queue.filter fun e => e.inFlight ||
            !(match e.body with | .pushStage _ k y r => decide (k = c.serial ∧ y = 9 ∧ r = wish) | _ => false)))

/-- R153, R155, R157, R163, R166, R168: before START each car command is BAD_STATE. LOAD_SENSED offers CAR_LOADED for the OPEN claim of a car
in LOADING, once; GATE_CLOSED empties a DUMPING car and counts the load; PARK joins the tail once; CLEAR_CAR declares the load of a car in
FAULT or IDLE, and what that load needs joins the head.
GATE_CLOSED and CLEAR_CAR then compare the ready wish with CAR_READY (`State.CarBecomes`).
That the reports of a row come on the port before its reply is log 63, that ATTENTION stands before FRAME_REFUSED log 12, that a ready retry timer
which runs already starts again log 60, and that BAD_STATE before START comes ahead of BAD_ARG for any byte of CAR_AT and CLEAR_CAR log 35. -/
def Obligations.CarCommands : Prop :=
  ∀ s : State, s.role = .quench →
    (s.OutputsSound → s.config = none →
      (s.Begins 0x0F#8 [] → exec .loadSensed s = .next { s with port := s.port.answered .badState }) ∧
      (s.Begins 0x10#8 [] → exec .gateClosed s = .next { s with port := s.port.answered .badState }) ∧
      (s.Begins 0x11#8 [] → exec .park s = .next { s with port := s.port.answered .badState }) ∧
      (∀ b, s.Begins 0x12#8 [b] → exec .clearCar s = .next { s with port := s.port.answered .badState }) ∧
      (∀ b, s.Begins 0x0E#8 [b] → exec .carAt s = .next { s with port := s.port.answered .badState })) ∧
    (s.OutputsSound → s.config ≠ none → s.Begins 0x0F#8 [] →
      (s.car.state ≠ .loading ∨ s.life.state ≠ .onLine → exec .loadSensed s = .next { s with port := s.port.answered .badState }) ∧
      (s.car.state = .loading → s.life.state = .onLine →
        (∀ c, s.claims.record = some c → c.ending = .opened →
          (c.stages.ramOut = false ∨ c.stages.carReady = false ∨ c.stages.carLoaded = true →
            exec .loadSensed s = .next { s with port := s.port.answered .order }) ∧
          (c.stages.ramOut = true → c.stages.carReady = true → c.stages.carLoaded = false →
            ((∃ e ∈ s.queue, ∃ n r, e.body = .pushStage n c.serial 4 r) →
              exec .loadSensed s = .next { s with port := s.port.answered .accepted }) ∧
            ((∀ e ∈ s.queue, ∀ n r, e.body ≠ .pushStage n c.serial 4 r) →
              (s.queue.length < 8 →
                exec .loadSensed s = .next { s with
                  queue := s.queue ++ [⟨.pushStage c.oven c.serial 4 false, false, s.time, 0, false⟩]
                  port := s.port.answered .accepted }) ∧
              (8 ≤ s.queue.length →
                exec .loadSensed s = .next { s with
                  port := (s.port.offerReport (.frameRefused (.pushStage c.oven c.serial 4 false))).answered .busy })))))) ∧
    (s.config ≠ none → s.Begins 0x10#8 [] →
      (s.OutputsSound → s.car.state ≠ .dumping → exec .gateClosed s = .next { s with port := s.port.answered .badState }) ∧
      (s.car.state = .dumping → s.car.loads < 65536 →
        ∃ t, exec .gateClosed s = .next t ∧
          s.CarBecomes t { s.car with load := .none, loads := (s.car.loads + 1) % 65536, state := .idle } s.port
            (fun p => p.answered .accepted 0 (field2 ((s.car.loads + 1) % 65536 : Nat))) ∧ t.out.gate = false)) ∧
    (s.OutputsSound → s.config ≠ none → s.Begins 0x11#8 [] →
      exec .park s = .next { s with
        car := { s.car with queue := if Move.park ∈ s.car.queue then s.car.queue else s.car.queue ++ [.park] }
        port := s.port.answered .accepted }) ∧
    (∀ b : Byte, s.config ≠ none → s.Begins 0x12#8 [b] →
      (s.OutputsSound → 3 ≤ b.toNat → exec .clearCar s = .next { s with port := s.port.answered .badArg 1 }) ∧
      (s.OutputsSound → b.toNat < 3 → s.car.state ≠ .fault → s.car.state ≠ .idle →
        exec .clearCar s = .next { s with port := s.port.answered .badState }) ∧
      (b.toNat < 3 → s.car.state = .fault ∨ s.car.state = .idle →
        ∃ t rest, exec .clearCar s = .next t ∧ rest = s.car.queue.filter (fun m => decide (m ≠ .tower ∧ m ≠ .wharf)) ∧
          s.CarBecomes t { s.car with
              state := .idle, fault := false
              load := if b = 0#8 then .none else if b = 1#8 then .hot else .quenched
              queue := if b = 0#8 then rest else if b = 1#8 then .tower :: rest else .wharf :: rest
              move := if s.car.state = .fault then none else s.car.move
              moveTimer := if s.car.state = .fault then none else s.car.moveTimer
              phase := if s.car.state = .fault then none else s.car.phase }
            (if s.car.fault = true then s.port.offerReport (.attention none none .carFault false) else s.port)
            fun p => p.answered .accepted))

/-! ## The local port -/

/-- R177 to R180, R182, R183, R191: a whole message of a command kind in HUNT joins the command buffer, or is answered BUSY where four wait;
one of another kind, one with a wrong check byte, a length above 32, a framing error on any byte after the sync byte and a gap of more
than 5 ms are each answered BAD_MESSAGE with the kind byte received; bytes before the sync byte are dropped. When a message has been sent the
transmitter takes the CONSENT_ASK at the head of the reports, else the oldest reply, else the report at the head.
The model's choices: the presence byte before the received kind is log 14; a gap in HUNT and a message sent with the transmitter free leave the
state (log 3); the 5 ms of the gap are not counted (log 6); a sync byte with a framing error in HUNT is dropped, and a
kind byte with one is not received (log 50). -/
def Obligations.MessagesReceivedAndSent : Prop :=
  ∀ s : State, s.OutputsSound →
    (s.port.rx = .hunt →
      (∀ (kind : Byte) (body : List Byte), body.length ≤ 32 →
        (1 ≤ kind.toNat → kind.toNat ≤ 63 → s.port.commands.length < 4 →
          exec (.messageReceived (asReceived (messageBytes kind body))) s = .next { s with
            port := { s.port with commands := s.port.commands ++ [⟨kind, body⟩] } }) ∧
        (1 ≤ kind.toNat → kind.toNat ≤ 63 → 4 ≤ s.port.commands.length →
          exec (.messageReceived (asReceived (messageBytes kind body))) s = .next { s with
            port := s.port.offerReply ⟨kind + 0x80#8, .busy, 0, []⟩ }) ∧
        (kind = 0#8 ∨ 64 ≤ kind.toNat →
          exec (.messageReceived (asReceived (messageBytes kind body))) s = .next { s with
            port := s.port.offerReply ⟨0xBF#8, .badMessage, 0, [1#8, kind]⟩ }) ∧
        (∀ check : Byte, check + (kind :: byte body.length :: body).sum ≠ 0#8 →
          exec (.messageReceived (asReceived (0xC5#8 :: kind :: byte body.length :: (body ++ [check])))) s = .next { s with
            port := s.port.offerReply ⟨0xBF#8, .badMessage, 0, [1#8, kind]⟩ }) ∧
        (∀ (k : Nat) (b : Byte), k ≤ body.length →
          exec (.messageReceived (asReceived (0xC5#8 :: kind :: byte body.length :: body.take k) ++ [⟨b, true⟩])) s = .next { s with
            port := s.port.offerReply ⟨0xBF#8, .badMessage, 0, [1#8, kind]⟩ })) ∧
      (∀ kind length : Byte, 32 < length.toNat →
        exec (.messageReceived (asReceived [0xC5#8, kind, length])) s = .next { s with
          port := s.port.offerReply ⟨0xBF#8, .badMessage, 0, [1#8, kind]⟩ }) ∧
      (∀ b : Byte, exec (.messageReceived (asReceived [0xC5#8] ++ [⟨b, true⟩])) s = .next { s with
        port := s.port.offerReply ⟨0xBF#8, .badMessage, 0, [0#8, 0#8]⟩ }) ∧
      (∀ kind b : Byte, exec (.messageReceived (asReceived [0xC5#8, kind] ++ [⟨b, true⟩])) s = .next { s with
        port := s.port.offerReply ⟨0xBF#8, .badMessage, 0, [1#8, kind]⟩ }) ∧
      (∀ stray : List RxChar, (∀ x ∈ stray, x.framing = true ∨ x.value ≠ 0xC5#8) → exec (.messageReceived stray) s = .next s) ∧
      exec .interByteGap s = .next s) ∧
    (∀ (kind : Byte) (n : Nat) (got : List Byte), s.port.rx = .length kind ∨ s.port.rx = .body kind n got →
      exec .interByteGap s = .next { s with
        port := { s.port with rx := .hunt }.offerReply ⟨0xBF#8, .badMessage, 0, [1#8, kind]⟩ }) ∧
    (s.port.rx = .kind →
      exec .interByteGap s = .next { s with
        port := { s.port with rx := .hunt }.offerReply ⟨0xBF#8, .badMessage, 0, [0#8, 0#8]⟩ }) ∧
    (∀ out, s.port.tx = some out →
      (∀ id f rest, s.port.reports = .consentAsk id f :: rest →
        exec .messageSent s = .next { s with
          port := { s.port with tx := some (.report (.consentAsk id f) s.port.spilled), reports := rest, spilled := false } }) ∧
      ((∀ id f rest, s.port.reports ≠ .consentAsk id f :: rest) →
        (∀ r rest, s.port.replies = r :: rest →
          exec .messageSent s = .next { s with port := { s.port with tx := some (.reply r), replies := rest } }) ∧
        (∀ r rest, s.port.replies = [] → s.port.reports = r :: rest →
          exec .messageSent s = .next { s with
            port := { s.port with tx := some (.report r s.port.spilled), reports := rest, spilled := false } }) ∧
        (s.port.replies = [] → s.port.reports = [] → exec .messageSent s = .next { s with port := { s.port with tx := none } }))) ∧
    (s.port.tx = none → exec .messageSent s = .next s)

/-- R179 to R181, R191: a command row executes the command at the head of the buffer. A body shorter than the fields is BAD_ARG with the
place of the first field it does not hold, a longer one BAD_ARG with place 0; then a role the command does not have is NOT_ROLE. A kind in
0x20..0x3F is BAD_ARG with place 0. A command of another kind, a command that holds execution and a full reply queue leave the row without
effect (logs 3, 24). A read answers part n of its content, in parts of 28 bytes that together are the content, and changes nothing else. -/
def Obligations.CommandGateAndReads : Prop :=
  ∀ s : State, s.OutputsSound →
    (∀ c ∈ commandRows,
      (∀ body place, s.Begins c.code body → 1 ≤ place → place ≤ c.widths.length → (c.widths.take (place - 1)).sum ≤ body.length →
        body.length < (c.widths.take place).sum → exec c.row s = .next { s with port := s.port.answered .badArg place }) ∧
      (∀ body, s.Begins c.code body → c.widths.sum < body.length →
        exec c.row s = .next { s with port := s.port.answered .badArg 0 }) ∧
      (∀ body, s.Begins c.code body → body.length = c.widths.sum → s.role ∉ c.roles →
        exec c.row s = .next { s with port := s.port.answered .notRole }) ∧
      (s.port.hold ≠ none ∨ 8 ≤ s.port.replies.length ∨ (∀ x, s.port.commands.head? = some x → x.kind ≠ c.code) →
        exec c.row s = .next s)) ∧
    (∀ kind body, s.Begins kind body → 0x20 ≤ kind.toNat → kind.toNat ≤ 0x3F →
      exec .unassignedCommand s = .next { s with port := s.port.answered .badArg 0 }) ∧
    (∀ (content : List Byte) (parts : Nat), parts = max 1 ((content.length + 27) / 28) →
      ((List.range parts).flatMap fun k => (content.drop (28 * k)).take 28) = content ∧
      ∀ (b : Byte) (piece : List Byte), piece = (content.drop (28 * b.toNat)).take 28 →
        (∀ row code, ((row = Instr.readStatus ∧ code = 0x1A#8 ∧ content = s.statusContent) ∨
            (row = .readView ∧ code = 0x1C#8 ∧ content = s.viewContent) ∨ (row = .readClaim ∧ code = 0x1E#8 ∧ content = s.claimContent) ∨
            (row = .readCar ∧ code = 0x1F#8 ∧ content = s.carContent ∧ s.role = .quench ∧ s.config ≠ none) ∨
            (∃ p, row = .readPlan ∧ code = 0x1D#8 ∧ s.plan = some p ∧ content = s.planContent p ∧ s.role = .pusher)) →
          s.Begins code [b] →
          (b.toNat < parts → exec row s = .next { s with port := s.port.answered .accepted 0 (b :: byte parts :: piece) }) ∧
          (parts ≤ b.toNat → exec row s = .next { s with port := s.port.answered .badArg 1 })) ∧
        (∀ (n : Byte) (i : Nat) (p1 : BankPart1), s.role = .bank → (∃ p0, s.bankConfig = some (p0, p1)) → s.ovenIndex n.toNat = some i →
          content = s.ovenContent p1 i → s.Begins 0x1B#8 [n, b] →
          (b.toNat < parts → exec .readOven s = .next { s with port := s.port.answered .accepted 0 (b :: byte parts :: piece) }) ∧
          (parts ≤ b.toNat → exec .readOven s = .next { s with port := s.port.answered .badArg 2 })))

/-- R24, R35, R53, R60, R76, R77, R90, R97, R111, R138, R153, R191: what each listing holds, field by field: every value of its records in its
rule's order, each in its whole bytes, low byte first and in two's complement, an absent value as a presence byte of 0 and zeros. READ_STATUS is
R181's.
The model's layout of lists, of a last payload, of the main pressure record, of timers in milliseconds, of the claim timer, of the leak ring
newest first and of the cycle marks is log 14, and so is that READ_CAR lists the CHAIN reading and the last next oven once; the summary last
heard is taken by announce age (log 14), and its bytes, those of the revoke
owed flag and those of the GUIDE's position with its age are log 14 too; whose position it is where several entries show the role GUIDE is
log 42. -/
def Obligations.ListingsHoldTheRecords : Prop :=
  ∀ s : State,
    Spells s.statusContent
      ([(1, (s.straps.id : Int)), (1, (s.straps.role.code : Int)), (1, (s.straps.lineRate : Int)), (1, (s.straps.portRate : Int)),
        flagField s.config.isSome, (1, (s.life.state.code : Int))] ++
        optField 1 ((if s.life.state = .conflict then s.life.conflict else none).map fun c => (c.code : Int)) ++
        [(1, (s.line.state.code : Int)), (1, (s.line.checkStreak : Int)), (1, (s.line.cleanRun : Int)), (1, (s.queue.length : Int)),
          (1, (s.port.reports.length : Int)), flagField s.port.spilled, flagField s.stop.stopped, flagField s.attention,
          (1, ((s.holds .overcoked).toNat + 2 * (s.holds .faulted).toNat + 4 * (s.holds .sensorLost).toNat +
            8 * (s.holds .unlatchedUnexpected).toNat + 16 * (s.holds .doorMismatch).toNat + 32 * (s.holds .carFault).toNat : Nat))]) ∧
    (∀ p0 p1 i o l x y, s.bankConfig = some (p0, p1) → s.bank.ovens[i]? = some o → s.bank.loops[i]? = some l →
      s.bank.doors[2 * i]? = some x → s.bank.doors[2 * i + 1]? = some y →
      Spells (s.ovenContent p1 i)
        ([(1, ((p0.first + i : Nat) : Int)), (1, (o.state.code : Int)), (3, (o.credit : Int)), (1, (o.readiness.code : Int)),
          (2, (o.minutes : Int))] ++
          optField 2 (o.temp.map fun v => (v : Int)) ++ [(2, (o.tempAge : Int)), flagField o.stale, (2, (o.stamp : Int))] ++ optTimer 3 o.held ++
          [(1, ((o.overcoked.toNat + 2 * o.faulted.toNat : Nat) : Int))] ++
          [(1, (l.mode.code : Int))] ++ optField 2 (if l.mode = .released then none else l.u) ++ [(2, l.a), (2, l.pf), flagField l.lost] ++
          optTimer 2 l.lostTimer ++ [(2, l.sp), (2, l.e)] ++ (l.ring.flatMap fun z => [(2, z.value), (1, (z.quality.code : Int))]) ++
          optField 2 l.target ++ optTimer 3 l.charge ++ [(1, (l.zero : Int)), flagField l.owed] ++
          (match s.bank.main with
            | some m => [((1 : Nat), (1 : Int)), (2, m.value), (1, (m.quality.code : Int))]
            | none => [(1, 0), (2, 0), (1, 0)]) ++
          [(2, (s.bank.mainAge : Int)),
            (2, (match s.bank.main with
              | some m => if m.quality = .good ∧ s.bank.mainAge ≤ 5000 then m.value - p1.pnom else 0
              | none => 0 : Int))] ++
          ([x, y].flatMap fun z => [(1, (latchCode z.latch : Int)), (1, (z.sealing.code : Int))] ++ z.ring.map (fun v => (1, (v : Int))) ++
            optTimer 3 z.seat ++ optTimer 3 z.leaking ++ [flagField z.called] ++ optTimer 3 z.call ++ optTimer 3 z.reseal ++
            [(1, (match z.mismatch with
              | none => 0
              | some m => match m.kind with
                | .offExpected => 1
                | .onExpected => 2 : Int))] ++ optTimer 2 (z.mismatch.map Mismatch.timer) ++
            [(1, ((8 * z.unlatched.toNat + 16 * z.mismatched.toNat : Nat) : Int)), flagField z.held, (1, (latchCode z.snapLatch : Int)),
              (1, (z.snapSeal.code : Int))]))) ∧
    Spells s.viewContent
      ((if s.role = .pusher ∨ s.role = .guide then
        [(1, (s.machine.position : Int)), flagField s.machine.chain, flagField s.out.extractor, flagField s.out.ram] ++
          ((List.range 4).flatMap fun k : Nat => optField 1 (s.machine.queue[k]?.map fun n => (n : Int))) ++
          (if s.role = .pusher then
            match s.machine.charged with
            | some (n, moment) => [(1, 1), (1, (n : Int)), (4, (moment : Int))]
            | none => [(1, 0), (1, 0), (4, 0)]
          else optField 1 (s.machine.revokeOwed.map fun c => (c : Int))) else []) ++
        s.table.flatMap fun e =>
          [(1, (e.presence.code : Int)),
            (1, (match e.role with
              | none => 4
              | some r => r.code : Int)), (1, (e.missed : Int)), flagField e.attention] ++
            (match e.range with
              | some (first, count) => [(1, 1), (1, (first : Int)), (1, (count : Int))]
              | none => [(1, 0), (1, 0), (1, 0)]) ++ [(2, (e.age : Int))] ++
            (match e.payload with
              | some (p, tr) =>
                let bytes := byte p.role.code :: (p.bytes ++ tr.bytes)
                (1, 1) :: ((bytes ++ List.replicate (15 - bytes.length) 0#8).map fun b => (1, (b.toNat : Int)))
              | none => (1, 0) :: List.replicate 15 (1, 0)) ++ [flagField e.joining]) ∧
    Spells s.claimContent
      ((match s.claims.record with
        | some c => [(1, 1), (1, (c.oven : Int)), (1, (c.serial : Int))] ++ optField 1 (c.claimant.map fun x => (x : Int)) ++
          [flagField c.forced] ++ (c.stages.bytes.map fun b => (1, (b.toNat : Int))) ++ [(4, (c.taken : Int)), (3, (c.timer : Int)),
            (1, (c.ending.code : Int))] ++
          optField 1 (match c.ending with
            | .abandoned a => some (a.code : Int)
            | _ => none)
        | none => [(1, 0), (17, 0)]) ++
        [(1, (s.claims.highest : Int)), (1, ((s.claims.highest % 255 + 1 : Nat) : Int))] ++
        (match s.claims.veto with
          | some v => (1, 1) :: (optField 1 (v.kind.map fun x => (x : Int)) ++ optField 1 (v.sender.map fun x => (x : Int)) ++
            [(1, (v.cause.code : Int)), (1, (v.oven : Int)), (4, (v.time : Int))])
          | none => [(1, 0), (10, 0)]) ++
        (s.claims.reseals.flatMap fun r => match r with
          | some z => [(1, 1), (1, (z.oven : Int)), (1, (z.side.code : Int)), (1, (z.serial : Int)), (1, (z.claimant : Int)),
            (4, (z.taken : Int)), (1, (z.ending.code : Int))]
          | none => [(1, 0), (9, 0)]) ++
        [(1, (s.claims.highestReseal : Int)), flagField s.stop.stopped, (1, (s.stop.highest : Int))] ++
        (match s.stop.note with
          | some z => [(1, 1), (1, (z.serial : Int)), (1, (z.cause.code : Int)), (1, (z.giver : Int))]
          | none => [(1, 0), (3, 0)]) ++ [flagField s.stop.mark.isSome] ++ optTimer 2 s.stop.mark.join) ∧
    (∀ p, Spells (s.planContent p)
      ([(1, (p.ovens : Int)), (1, (p.stride : Int)), (1, (p.step : Int)), (2, (p.cycle : Int)), (1, (p.pass : Int)), (1, (p.pos : Int))] ++
        (p.marks.map fun m => (1, (m.code : Int))) ++
        ((List.range 8).flatMap fun k : Nat => optField 1 (p.deferred[k]?.map fun n => (n : Int))) ++
        (match p.staged with
          | some (a, b) => [(1, 1), (1, (a : Int)), (1, (b : Int))]
          | none => [(1, 0), (2, 0)]) ++
        (match p.note with
          | some (n, c) => [(1, 1), (1, (n : Int)), (2, (c : Int))]
          | none => [(1, 0), (3, 0)]) ++ [(1, (p.shown : Int))] ++ (p.order.map fun n => (1, (n : Int))) ++
        (List.range 8).flatMap fun k : Nat => match (p.deferred[k]?).bind s.lastHeard with
          | some (y, m) => [(1, 1), (1, (y.code : Int)), (1, (m : Int))]
          | none => [(1, 0), (2, 0)])) ∧
    Spells s.carContent
      ([(1, (s.car.state.code : Int)), (1, (s.car.marker : Int)), (1, (s.car.load.code : Int))] ++ moveFields s.car.move ++
        optTimer 3 s.car.moveTimer ++ optTimer 3 s.car.phase ++ [(2, (s.car.loads : Int))] ++
        ((List.range 4).flatMap fun k : Nat => moveFields s.car.queue[k]?) ++ [flagField s.car.chain, (1, (s.car.lastNext : Int))] ++
        optTimer 2 s.car.readyTimer ++ [(1, ((32 * s.car.fault.toNat : Nat) : Int)), flagField s.out.travel, flagField s.out.spray,
          flagField s.out.gate, flagField s.readyWish] ++
        optField 1 (s.readyFrame.map fun q => (q.toNat : Int)) ++
        (match s.guideSeen with
          | some (pos, age) => [(1, 1), (1, (pos : Int)), (2, (age : Int))]
          | none => [(1, 0), (3, 0)]))
end

