-- ==== Sys2Proof/Laws/Frames.lean ====
section
/-! SUPPORT. Contention and characters on DAT: bit by bit a character loses exactly to a lower one (R5), and the bits of characters read
back as those characters (R2, R4). -/

namespace Sys2Proof.Machine

/-- The number that bits spell, most significant first. -/
def bitsValue (bits : List Bool) : Nat := bits.foldl (fun n b => 2 * n + b.toNat) 0

theorem bitsValue_foldl (bits : List Bool) (n : Nat) :
    bits.foldl (fun n b => 2 * n + b.toNat) n = n * 2 ^ bits.length + bitsValue bits := by
  induction bits generalizing n with
  | nil => simp [bitsValue]
  | cons b bs ih =>
    rw [bitsValue, List.foldl_cons, List.foldl_cons, ih, ih, List.length_cons, Nat.pow_succ]
    ring

theorem bitsValue_cons (b : Bool) (bs : List Bool) : bitsValue (b :: bs) = b.toNat * 2 ^ bs.length + bitsValue bs := by
  rw [bitsValue, List.foldl_cons, bitsValue_foldl]; simp

theorem bitsValue_lt (bs : List Bool) : bitsValue bs < 2 ^ bs.length := by
  induction bs with
  | nil => simp [bitsValue]
  | cons b bs ih => rw [bitsValue_cons, List.length_cons, Nat.pow_succ]; cases b <;> simp <;> omega

/-- Bits lose to rivals of the same length exactly where one of them spells a lower number. -/
theorem losesBits_iff (bs : List Bool) (rs : List (List Bool)) (h : ∀ r ∈ rs, r.length = bs.length) :
    losesBits bs rs = true ↔ ∃ r ∈ rs, bitsValue r < bitsValue bs := by
  induction bs generalizing rs with
  | nil =>
    simp only [losesBits, Bool.false_eq_true, false_iff, not_exists, not_and]
    intro r hr
    simp [List.length_eq_zero_iff.1 (h r hr)]
  | cons b bs ih =>
    have hc : ∀ r ∈ rs, ∃ x xs, r = x :: xs ∧ xs.length = bs.length := by
      intro r hr
      have := h r hr
      cases r with
      | nil => simp at this
      | cons x xs => exact ⟨x, xs, rfl, by simpa using this⟩
    have tails : ∀ level : Bool, ∀ r ∈ (rs.filter fun r => r.headD true == level).map List.tail, r.length = bs.length := by
      intro level r hr
      obtain ⟨q, hq, rfl⟩ := List.mem_map.1 hr
      obtain ⟨x, xs, rfl, hl⟩ := hc q (List.mem_filter.1 hq).1
      simpa using hl
    have hb := bitsValue_lt bs
    cases b with
    | false =>
      simp only [losesBits, Bool.false_and, Bool.false_eq_true, if_false]
      rw [ih _ (tails false)]
      constructor
      · rintro ⟨r, hr, hlt⟩
        obtain ⟨q, hq, rfl⟩ := List.mem_map.1 hr
        obtain ⟨hq, hx⟩ := List.mem_filter.1 hq
        obtain ⟨x, xs, rfl, hl⟩ := hc q hq
        obtain rfl : x = false := by simpa using hx
        exact ⟨_, hq, by simpa [bitsValue_cons] using hlt⟩
      · rintro ⟨r, hr, hlt⟩
        obtain ⟨x, xs, rfl, hl⟩ := hc r hr
        have hx := bitsValue_lt xs
        cases x with
        | false =>
          exact ⟨xs, List.mem_map.2 ⟨_, List.mem_filter.2 ⟨hr, by simp⟩, rfl⟩, by simpa [bitsValue_cons] using hlt⟩
        | true => simp [bitsValue_cons, hl] at hlt; omega
    | true =>
      simp only [losesBits, Bool.true_and]
      by_cases hall : (rs.all fun r => r.headD true) = true
      · rw [hall]
        simp only [Bool.not_true, Bool.false_eq_true, if_false]
        rw [ih _ (tails true)]
        constructor
        · rintro ⟨r, hr, hlt⟩
          obtain ⟨q, hq, rfl⟩ := List.mem_map.1 hr
          obtain ⟨hq, hx⟩ := List.mem_filter.1 hq
          obtain ⟨x, xs, rfl, hl⟩ := hc q hq
          obtain rfl : x = true := by simpa using hx
          exact ⟨_, hq, by simpa [bitsValue_cons, hl] using hlt⟩
        · rintro ⟨r, hr, hlt⟩
          obtain ⟨x, xs, rfl, hl⟩ := hc r hr
          obtain rfl : x = true := by simpa using List.all_eq_true.1 hall _ hr
          exact ⟨xs, List.mem_map.2 ⟨_, List.mem_filter.2 ⟨hr, by simp⟩, rfl⟩, by simpa [bitsValue_cons, hl] using hlt⟩
      · rw [Bool.not_eq_true] at hall
        rw [hall]
        simp only [Bool.not_false, if_true, true_iff]
        obtain ⟨r, hr, hx⟩ := List.all_eq_false.1 hall
        obtain ⟨x, xs, rfl, hl⟩ := hc r hr
        obtain rfl : x = false := by simpa using hx
        have := bitsValue_lt xs
        rw [hl] at this
        exact ⟨_, hr, by simp [bitsValue_cons]; omega⟩

/-- A contention character's bits spell its number. -/
theorem contentionBits_value (c : Byte) : bitsValue (contentionBits c) = c.toNat := by
  revert c; decide +kernel

/-- The station loses contention exactly where a rival's contention value is lower (R5). -/
theorem losesTo_iff (own : Byte) (rivals : List Byte) : losesTo own rivals = true ↔ ∃ r ∈ rivals, r.toNat < own.toNat := by
  rw [losesTo, losesBits_iff]
  · simp [contentionBits_value]
  · simp [contentionBits, dataBits]

/-- A character's bits read back as it, in either order, without a framing error. -/
theorem readChar_charBits (c : Byte) : readChar false (charBits c) = ⟨c, false⟩ := by revert c; decide +kernel

theorem readChar_contention (c : Byte) : readChar true (false :: (contentionBits c ++ [true])) = ⟨c, false⟩ := by
  revert c; decide +kernel

end Sys2Proof.Machine
end

