-- ==== Sys2Proof/Laws/State.lean ====
section
/-! SUPPORT. The field lemmas of the state's updates: what each update leaves in each field. -/

namespace Sys2Proof.Machine

/-! ## The updates of one field -/

@[simp] theorem State.withStraps_straps (s : State) (x : Straps) : (s.withStraps x).straps = x := rfl
@[simp] theorem State.withStraps_config (s : State) (x : Straps) : (s.withStraps x).config = s.config := rfl
@[simp] theorem State.withStraps_staged (s : State) (x : Straps) : (s.withStraps x).staged = s.staged := rfl
@[simp] theorem State.withStraps_life (s : State) (x : Straps) : (s.withStraps x).life = s.life := rfl
@[simp] theorem State.withStraps_time (s : State) (x : Straps) : (s.withStraps x).time = s.time := rfl
@[simp] theorem State.withStraps_line (s : State) (x : Straps) : (s.withStraps x).line = s.line := rfl
@[simp] theorem State.withStraps_queue (s : State) (x : Straps) : (s.withStraps x).queue = s.queue := rfl
@[simp] theorem State.withStraps_table (s : State) (x : Straps) : (s.withStraps x).table = s.table := rfl
@[simp] theorem State.withStraps_claims (s : State) (x : Straps) : (s.withStraps x).claims = s.claims := rfl
@[simp] theorem State.withStraps_stop (s : State) (x : Straps) : (s.withStraps x).stop = s.stop := rfl
@[simp] theorem State.withStraps_bank (s : State) (x : Straps) : (s.withStraps x).bank = s.bank := rfl
@[simp] theorem State.withStraps_plan (s : State) (x : Straps) : (s.withStraps x).plan = s.plan := rfl
@[simp] theorem State.withStraps_machine (s : State) (x : Straps) : (s.withStraps x).machine = s.machine := rfl
@[simp] theorem State.withStraps_car (s : State) (x : Straps) : (s.withStraps x).car = s.car := rfl
@[simp] theorem State.withStraps_out (s : State) (x : Straps) : (s.withStraps x).out = s.out := rfl
@[simp] theorem State.withStraps_port (s : State) (x : Straps) : (s.withStraps x).port = s.port := rfl
@[simp] theorem State.withStraps_free (s : State) (x : Straps) : (s.withStraps x).free = s.free := rfl
@[simp] theorem State.withStraps_pending (s : State) (x : Straps) : (s.withStraps x).pending = s.pending := rfl
@[simp] theorem State.withStraps_self (s : State) : s.withStraps s.straps = s := rfl

@[simp] theorem State.withConfig_straps (s : State) (x : Option Configuration) : (s.withConfig x).straps = s.straps := rfl
@[simp] theorem State.withConfig_config (s : State) (x : Option Configuration) : (s.withConfig x).config = x := rfl
@[simp] theorem State.withConfig_staged (s : State) (x : Option Configuration) : (s.withConfig x).staged = s.staged := rfl
@[simp] theorem State.withConfig_life (s : State) (x : Option Configuration) : (s.withConfig x).life = s.life := rfl
@[simp] theorem State.withConfig_time (s : State) (x : Option Configuration) : (s.withConfig x).time = s.time := rfl
@[simp] theorem State.withConfig_line (s : State) (x : Option Configuration) : (s.withConfig x).line = s.line := rfl
@[simp] theorem State.withConfig_queue (s : State) (x : Option Configuration) : (s.withConfig x).queue = s.queue := rfl
@[simp] theorem State.withConfig_table (s : State) (x : Option Configuration) : (s.withConfig x).table = s.table := rfl
@[simp] theorem State.withConfig_claims (s : State) (x : Option Configuration) : (s.withConfig x).claims = s.claims := rfl
@[simp] theorem State.withConfig_stop (s : State) (x : Option Configuration) : (s.withConfig x).stop = s.stop := rfl
@[simp] theorem State.withConfig_bank (s : State) (x : Option Configuration) : (s.withConfig x).bank = s.bank := rfl
@[simp] theorem State.withConfig_plan (s : State) (x : Option Configuration) : (s.withConfig x).plan = s.plan := rfl
@[simp] theorem State.withConfig_machine (s : State) (x : Option Configuration) : (s.withConfig x).machine = s.machine := rfl
@[simp] theorem State.withConfig_car (s : State) (x : Option Configuration) : (s.withConfig x).car = s.car := rfl
@[simp] theorem State.withConfig_out (s : State) (x : Option Configuration) : (s.withConfig x).out = s.out := rfl
@[simp] theorem State.withConfig_port (s : State) (x : Option Configuration) : (s.withConfig x).port = s.port := rfl
@[simp] theorem State.withConfig_free (s : State) (x : Option Configuration) : (s.withConfig x).free = s.free := rfl
@[simp] theorem State.withConfig_pending (s : State) (x : Option Configuration) : (s.withConfig x).pending = s.pending := rfl
@[simp] theorem State.withConfig_self (s : State) : s.withConfig s.config = s := rfl

@[simp] theorem State.withStaged_straps (s : State) (x : Option BankPart0) : (s.withStaged x).straps = s.straps := rfl
@[simp] theorem State.withStaged_config (s : State) (x : Option BankPart0) : (s.withStaged x).config = s.config := rfl
@[simp] theorem State.withStaged_staged (s : State) (x : Option BankPart0) : (s.withStaged x).staged = x := rfl
@[simp] theorem State.withStaged_life (s : State) (x : Option BankPart0) : (s.withStaged x).life = s.life := rfl
@[simp] theorem State.withStaged_time (s : State) (x : Option BankPart0) : (s.withStaged x).time = s.time := rfl
@[simp] theorem State.withStaged_line (s : State) (x : Option BankPart0) : (s.withStaged x).line = s.line := rfl
@[simp] theorem State.withStaged_queue (s : State) (x : Option BankPart0) : (s.withStaged x).queue = s.queue := rfl
@[simp] theorem State.withStaged_table (s : State) (x : Option BankPart0) : (s.withStaged x).table = s.table := rfl
@[simp] theorem State.withStaged_claims (s : State) (x : Option BankPart0) : (s.withStaged x).claims = s.claims := rfl
@[simp] theorem State.withStaged_stop (s : State) (x : Option BankPart0) : (s.withStaged x).stop = s.stop := rfl
@[simp] theorem State.withStaged_bank (s : State) (x : Option BankPart0) : (s.withStaged x).bank = s.bank := rfl
@[simp] theorem State.withStaged_plan (s : State) (x : Option BankPart0) : (s.withStaged x).plan = s.plan := rfl
@[simp] theorem State.withStaged_machine (s : State) (x : Option BankPart0) : (s.withStaged x).machine = s.machine := rfl
@[simp] theorem State.withStaged_car (s : State) (x : Option BankPart0) : (s.withStaged x).car = s.car := rfl
@[simp] theorem State.withStaged_out (s : State) (x : Option BankPart0) : (s.withStaged x).out = s.out := rfl
@[simp] theorem State.withStaged_port (s : State) (x : Option BankPart0) : (s.withStaged x).port = s.port := rfl
@[simp] theorem State.withStaged_free (s : State) (x : Option BankPart0) : (s.withStaged x).free = s.free := rfl
@[simp] theorem State.withStaged_pending (s : State) (x : Option BankPart0) : (s.withStaged x).pending = s.pending := rfl
@[simp] theorem State.withStaged_self (s : State) : s.withStaged s.staged = s := rfl

@[simp] theorem State.withLife_straps (s : State) (x : Life) : (s.withLife x).straps = s.straps := rfl
@[simp] theorem State.withLife_config (s : State) (x : Life) : (s.withLife x).config = s.config := rfl
@[simp] theorem State.withLife_staged (s : State) (x : Life) : (s.withLife x).staged = s.staged := rfl
@[simp] theorem State.withLife_life (s : State) (x : Life) : (s.withLife x).life = x := rfl
@[simp] theorem State.withLife_time (s : State) (x : Life) : (s.withLife x).time = s.time := rfl
@[simp] theorem State.withLife_line (s : State) (x : Life) : (s.withLife x).line = s.line := rfl
@[simp] theorem State.withLife_queue (s : State) (x : Life) : (s.withLife x).queue = s.queue := rfl
@[simp] theorem State.withLife_table (s : State) (x : Life) : (s.withLife x).table = s.table := rfl
@[simp] theorem State.withLife_claims (s : State) (x : Life) : (s.withLife x).claims = s.claims := rfl
@[simp] theorem State.withLife_stop (s : State) (x : Life) : (s.withLife x).stop = s.stop := rfl
@[simp] theorem State.withLife_bank (s : State) (x : Life) : (s.withLife x).bank = s.bank := rfl
@[simp] theorem State.withLife_plan (s : State) (x : Life) : (s.withLife x).plan = s.plan := rfl
@[simp] theorem State.withLife_machine (s : State) (x : Life) : (s.withLife x).machine = s.machine := rfl
@[simp] theorem State.withLife_car (s : State) (x : Life) : (s.withLife x).car = s.car := rfl
@[simp] theorem State.withLife_out (s : State) (x : Life) : (s.withLife x).out = s.out := rfl
@[simp] theorem State.withLife_port (s : State) (x : Life) : (s.withLife x).port = s.port := rfl
@[simp] theorem State.withLife_free (s : State) (x : Life) : (s.withLife x).free = s.free := rfl
@[simp] theorem State.withLife_pending (s : State) (x : Life) : (s.withLife x).pending = s.pending := rfl
@[simp] theorem State.withLife_self (s : State) : s.withLife s.life = s := rfl

@[simp] theorem State.withTime_straps (s : State) (x : Nat) : (s.withTime x).straps = s.straps := rfl
@[simp] theorem State.withTime_config (s : State) (x : Nat) : (s.withTime x).config = s.config := rfl
@[simp] theorem State.withTime_staged (s : State) (x : Nat) : (s.withTime x).staged = s.staged := rfl
@[simp] theorem State.withTime_life (s : State) (x : Nat) : (s.withTime x).life = s.life := rfl
@[simp] theorem State.withTime_time (s : State) (x : Nat) : (s.withTime x).time = x := rfl
@[simp] theorem State.withTime_line (s : State) (x : Nat) : (s.withTime x).line = s.line := rfl
@[simp] theorem State.withTime_queue (s : State) (x : Nat) : (s.withTime x).queue = s.queue := rfl
@[simp] theorem State.withTime_table (s : State) (x : Nat) : (s.withTime x).table = s.table := rfl
@[simp] theorem State.withTime_claims (s : State) (x : Nat) : (s.withTime x).claims = s.claims := rfl
@[simp] theorem State.withTime_stop (s : State) (x : Nat) : (s.withTime x).stop = s.stop := rfl
@[simp] theorem State.withTime_bank (s : State) (x : Nat) : (s.withTime x).bank = s.bank := rfl
@[simp] theorem State.withTime_plan (s : State) (x : Nat) : (s.withTime x).plan = s.plan := rfl
@[simp] theorem State.withTime_machine (s : State) (x : Nat) : (s.withTime x).machine = s.machine := rfl
@[simp] theorem State.withTime_car (s : State) (x : Nat) : (s.withTime x).car = s.car := rfl
@[simp] theorem State.withTime_out (s : State) (x : Nat) : (s.withTime x).out = s.out := rfl
@[simp] theorem State.withTime_port (s : State) (x : Nat) : (s.withTime x).port = s.port := rfl
@[simp] theorem State.withTime_free (s : State) (x : Nat) : (s.withTime x).free = s.free := rfl
@[simp] theorem State.withTime_pending (s : State) (x : Nat) : (s.withTime x).pending = s.pending := rfl
@[simp] theorem State.withTime_self (s : State) : s.withTime s.time = s := rfl

@[simp] theorem State.withLine_straps (s : State) (x : Line) : (s.withLine x).straps = s.straps := rfl
@[simp] theorem State.withLine_config (s : State) (x : Line) : (s.withLine x).config = s.config := rfl
@[simp] theorem State.withLine_staged (s : State) (x : Line) : (s.withLine x).staged = s.staged := rfl
@[simp] theorem State.withLine_life (s : State) (x : Line) : (s.withLine x).life = s.life := rfl
@[simp] theorem State.withLine_time (s : State) (x : Line) : (s.withLine x).time = s.time := rfl
@[simp] theorem State.withLine_line (s : State) (x : Line) : (s.withLine x).line = x := rfl
@[simp] theorem State.withLine_queue (s : State) (x : Line) : (s.withLine x).queue = s.queue := rfl
@[simp] theorem State.withLine_table (s : State) (x : Line) : (s.withLine x).table = s.table := rfl
@[simp] theorem State.withLine_claims (s : State) (x : Line) : (s.withLine x).claims = s.claims := rfl
@[simp] theorem State.withLine_stop (s : State) (x : Line) : (s.withLine x).stop = s.stop := rfl
@[simp] theorem State.withLine_bank (s : State) (x : Line) : (s.withLine x).bank = s.bank := rfl
@[simp] theorem State.withLine_plan (s : State) (x : Line) : (s.withLine x).plan = s.plan := rfl
@[simp] theorem State.withLine_machine (s : State) (x : Line) : (s.withLine x).machine = s.machine := rfl
@[simp] theorem State.withLine_car (s : State) (x : Line) : (s.withLine x).car = s.car := rfl
@[simp] theorem State.withLine_out (s : State) (x : Line) : (s.withLine x).out = s.out := rfl
@[simp] theorem State.withLine_port (s : State) (x : Line) : (s.withLine x).port = s.port := rfl
@[simp] theorem State.withLine_free (s : State) (x : Line) : (s.withLine x).free = s.free := rfl
@[simp] theorem State.withLine_pending (s : State) (x : Line) : (s.withLine x).pending = s.pending := rfl
@[simp] theorem State.withLine_self (s : State) : s.withLine s.line = s := rfl

@[simp] theorem State.withQueue_straps (s : State) (x : List QueueEntry) : (s.withQueue x).straps = s.straps := rfl
@[simp] theorem State.withQueue_config (s : State) (x : List QueueEntry) : (s.withQueue x).config = s.config := rfl
@[simp] theorem State.withQueue_staged (s : State) (x : List QueueEntry) : (s.withQueue x).staged = s.staged := rfl
@[simp] theorem State.withQueue_life (s : State) (x : List QueueEntry) : (s.withQueue x).life = s.life := rfl
@[simp] theorem State.withQueue_time (s : State) (x : List QueueEntry) : (s.withQueue x).time = s.time := rfl
@[simp] theorem State.withQueue_line (s : State) (x : List QueueEntry) : (s.withQueue x).line = s.line := rfl
@[simp] theorem State.withQueue_queue (s : State) (x : List QueueEntry) : (s.withQueue x).queue = x := rfl
@[simp] theorem State.withQueue_table (s : State) (x : List QueueEntry) : (s.withQueue x).table = s.table := rfl
@[simp] theorem State.withQueue_claims (s : State) (x : List QueueEntry) : (s.withQueue x).claims = s.claims := rfl
@[simp] theorem State.withQueue_stop (s : State) (x : List QueueEntry) : (s.withQueue x).stop = s.stop := rfl
@[simp] theorem State.withQueue_bank (s : State) (x : List QueueEntry) : (s.withQueue x).bank = s.bank := rfl
@[simp] theorem State.withQueue_plan (s : State) (x : List QueueEntry) : (s.withQueue x).plan = s.plan := rfl
@[simp] theorem State.withQueue_machine (s : State) (x : List QueueEntry) : (s.withQueue x).machine = s.machine := rfl
@[simp] theorem State.withQueue_car (s : State) (x : List QueueEntry) : (s.withQueue x).car = s.car := rfl
@[simp] theorem State.withQueue_out (s : State) (x : List QueueEntry) : (s.withQueue x).out = s.out := rfl
@[simp] theorem State.withQueue_port (s : State) (x : List QueueEntry) : (s.withQueue x).port = s.port := rfl
@[simp] theorem State.withQueue_free (s : State) (x : List QueueEntry) : (s.withQueue x).free = s.free := rfl
@[simp] theorem State.withQueue_pending (s : State) (x : List QueueEntry) : (s.withQueue x).pending = s.pending := rfl
@[simp] theorem State.withQueue_self (s : State) : s.withQueue s.queue = s := rfl

@[simp] theorem State.withTable_straps (s : State) (x : List Entry) : (s.withTable x).straps = s.straps := rfl
@[simp] theorem State.withTable_config (s : State) (x : List Entry) : (s.withTable x).config = s.config := rfl
@[simp] theorem State.withTable_staged (s : State) (x : List Entry) : (s.withTable x).staged = s.staged := rfl
@[simp] theorem State.withTable_life (s : State) (x : List Entry) : (s.withTable x).life = s.life := rfl
@[simp] theorem State.withTable_time (s : State) (x : List Entry) : (s.withTable x).time = s.time := rfl
@[simp] theorem State.withTable_line (s : State) (x : List Entry) : (s.withTable x).line = s.line := rfl
@[simp] theorem State.withTable_queue (s : State) (x : List Entry) : (s.withTable x).queue = s.queue := rfl
@[simp] theorem State.withTable_table (s : State) (x : List Entry) : (s.withTable x).table = x := rfl
@[simp] theorem State.withTable_claims (s : State) (x : List Entry) : (s.withTable x).claims = s.claims := rfl
@[simp] theorem State.withTable_stop (s : State) (x : List Entry) : (s.withTable x).stop = s.stop := rfl
@[simp] theorem State.withTable_bank (s : State) (x : List Entry) : (s.withTable x).bank = s.bank := rfl
@[simp] theorem State.withTable_plan (s : State) (x : List Entry) : (s.withTable x).plan = s.plan := rfl
@[simp] theorem State.withTable_machine (s : State) (x : List Entry) : (s.withTable x).machine = s.machine := rfl
@[simp] theorem State.withTable_car (s : State) (x : List Entry) : (s.withTable x).car = s.car := rfl
@[simp] theorem State.withTable_out (s : State) (x : List Entry) : (s.withTable x).out = s.out := rfl
@[simp] theorem State.withTable_port (s : State) (x : List Entry) : (s.withTable x).port = s.port := rfl
@[simp] theorem State.withTable_free (s : State) (x : List Entry) : (s.withTable x).free = s.free := rfl
@[simp] theorem State.withTable_pending (s : State) (x : List Entry) : (s.withTable x).pending = s.pending := rfl
@[simp] theorem State.withTable_self (s : State) : s.withTable s.table = s := rfl

@[simp] theorem State.withClaims_straps (s : State) (x : Tracker) : (s.withClaims x).straps = s.straps := rfl
@[simp] theorem State.withClaims_config (s : State) (x : Tracker) : (s.withClaims x).config = s.config := rfl
@[simp] theorem State.withClaims_staged (s : State) (x : Tracker) : (s.withClaims x).staged = s.staged := rfl
@[simp] theorem State.withClaims_life (s : State) (x : Tracker) : (s.withClaims x).life = s.life := rfl
@[simp] theorem State.withClaims_time (s : State) (x : Tracker) : (s.withClaims x).time = s.time := rfl
@[simp] theorem State.withClaims_line (s : State) (x : Tracker) : (s.withClaims x).line = s.line := rfl
@[simp] theorem State.withClaims_queue (s : State) (x : Tracker) : (s.withClaims x).queue = s.queue := rfl
@[simp] theorem State.withClaims_table (s : State) (x : Tracker) : (s.withClaims x).table = s.table := rfl
@[simp] theorem State.withClaims_claims (s : State) (x : Tracker) : (s.withClaims x).claims = x := rfl
@[simp] theorem State.withClaims_stop (s : State) (x : Tracker) : (s.withClaims x).stop = s.stop := rfl
@[simp] theorem State.withClaims_bank (s : State) (x : Tracker) : (s.withClaims x).bank = s.bank := rfl
@[simp] theorem State.withClaims_plan (s : State) (x : Tracker) : (s.withClaims x).plan = s.plan := rfl
@[simp] theorem State.withClaims_machine (s : State) (x : Tracker) : (s.withClaims x).machine = s.machine := rfl
@[simp] theorem State.withClaims_car (s : State) (x : Tracker) : (s.withClaims x).car = s.car := rfl
@[simp] theorem State.withClaims_out (s : State) (x : Tracker) : (s.withClaims x).out = s.out := rfl
@[simp] theorem State.withClaims_port (s : State) (x : Tracker) : (s.withClaims x).port = s.port := rfl
@[simp] theorem State.withClaims_free (s : State) (x : Tracker) : (s.withClaims x).free = s.free := rfl
@[simp] theorem State.withClaims_pending (s : State) (x : Tracker) : (s.withClaims x).pending = s.pending := rfl
@[simp] theorem State.withClaims_self (s : State) : s.withClaims s.claims = s := rfl

@[simp] theorem State.withStop_straps (s : State) (x : StopState) : (s.withStop x).straps = s.straps := rfl
@[simp] theorem State.withStop_config (s : State) (x : StopState) : (s.withStop x).config = s.config := rfl
@[simp] theorem State.withStop_staged (s : State) (x : StopState) : (s.withStop x).staged = s.staged := rfl
@[simp] theorem State.withStop_life (s : State) (x : StopState) : (s.withStop x).life = s.life := rfl
@[simp] theorem State.withStop_time (s : State) (x : StopState) : (s.withStop x).time = s.time := rfl
@[simp] theorem State.withStop_line (s : State) (x : StopState) : (s.withStop x).line = s.line := rfl
@[simp] theorem State.withStop_queue (s : State) (x : StopState) : (s.withStop x).queue = s.queue := rfl
@[simp] theorem State.withStop_table (s : State) (x : StopState) : (s.withStop x).table = s.table := rfl
@[simp] theorem State.withStop_claims (s : State) (x : StopState) : (s.withStop x).claims = s.claims := rfl
@[simp] theorem State.withStop_stop (s : State) (x : StopState) : (s.withStop x).stop = x := rfl
@[simp] theorem State.withStop_bank (s : State) (x : StopState) : (s.withStop x).bank = s.bank := rfl
@[simp] theorem State.withStop_plan (s : State) (x : StopState) : (s.withStop x).plan = s.plan := rfl
@[simp] theorem State.withStop_machine (s : State) (x : StopState) : (s.withStop x).machine = s.machine := rfl
@[simp] theorem State.withStop_car (s : State) (x : StopState) : (s.withStop x).car = s.car := rfl
@[simp] theorem State.withStop_out (s : State) (x : StopState) : (s.withStop x).out = s.out := rfl
@[simp] theorem State.withStop_port (s : State) (x : StopState) : (s.withStop x).port = s.port := rfl
@[simp] theorem State.withStop_free (s : State) (x : StopState) : (s.withStop x).free = s.free := rfl
@[simp] theorem State.withStop_pending (s : State) (x : StopState) : (s.withStop x).pending = s.pending := rfl
@[simp] theorem State.withStop_self (s : State) : s.withStop s.stop = s := rfl

@[simp] theorem State.withBank_straps (s : State) (x : Bank) : (s.withBank x).straps = s.straps := rfl
@[simp] theorem State.withBank_config (s : State) (x : Bank) : (s.withBank x).config = s.config := rfl
@[simp] theorem State.withBank_staged (s : State) (x : Bank) : (s.withBank x).staged = s.staged := rfl
@[simp] theorem State.withBank_life (s : State) (x : Bank) : (s.withBank x).life = s.life := rfl
@[simp] theorem State.withBank_time (s : State) (x : Bank) : (s.withBank x).time = s.time := rfl
@[simp] theorem State.withBank_line (s : State) (x : Bank) : (s.withBank x).line = s.line := rfl
@[simp] theorem State.withBank_queue (s : State) (x : Bank) : (s.withBank x).queue = s.queue := rfl
@[simp] theorem State.withBank_table (s : State) (x : Bank) : (s.withBank x).table = s.table := rfl
@[simp] theorem State.withBank_claims (s : State) (x : Bank) : (s.withBank x).claims = s.claims := rfl
@[simp] theorem State.withBank_stop (s : State) (x : Bank) : (s.withBank x).stop = s.stop := rfl
@[simp] theorem State.withBank_bank (s : State) (x : Bank) : (s.withBank x).bank = x := rfl
@[simp] theorem State.withBank_plan (s : State) (x : Bank) : (s.withBank x).plan = s.plan := rfl
@[simp] theorem State.withBank_machine (s : State) (x : Bank) : (s.withBank x).machine = s.machine := rfl
@[simp] theorem State.withBank_car (s : State) (x : Bank) : (s.withBank x).car = s.car := rfl
@[simp] theorem State.withBank_out (s : State) (x : Bank) : (s.withBank x).out = s.out := rfl
@[simp] theorem State.withBank_port (s : State) (x : Bank) : (s.withBank x).port = s.port := rfl
@[simp] theorem State.withBank_free (s : State) (x : Bank) : (s.withBank x).free = s.free := rfl
@[simp] theorem State.withBank_pending (s : State) (x : Bank) : (s.withBank x).pending = s.pending := rfl
@[simp] theorem State.withBank_self (s : State) : s.withBank s.bank = s := rfl

@[simp] theorem State.withPlan_straps (s : State) (x : Option Plan) : (s.withPlan x).straps = s.straps := rfl
@[simp] theorem State.withPlan_config (s : State) (x : Option Plan) : (s.withPlan x).config = s.config := rfl
@[simp] theorem State.withPlan_staged (s : State) (x : Option Plan) : (s.withPlan x).staged = s.staged := rfl
@[simp] theorem State.withPlan_life (s : State) (x : Option Plan) : (s.withPlan x).life = s.life := rfl
@[simp] theorem State.withPlan_time (s : State) (x : Option Plan) : (s.withPlan x).time = s.time := rfl
@[simp] theorem State.withPlan_line (s : State) (x : Option Plan) : (s.withPlan x).line = s.line := rfl
@[simp] theorem State.withPlan_queue (s : State) (x : Option Plan) : (s.withPlan x).queue = s.queue := rfl
@[simp] theorem State.withPlan_table (s : State) (x : Option Plan) : (s.withPlan x).table = s.table := rfl
@[simp] theorem State.withPlan_claims (s : State) (x : Option Plan) : (s.withPlan x).claims = s.claims := rfl
@[simp] theorem State.withPlan_stop (s : State) (x : Option Plan) : (s.withPlan x).stop = s.stop := rfl
@[simp] theorem State.withPlan_bank (s : State) (x : Option Plan) : (s.withPlan x).bank = s.bank := rfl
@[simp] theorem State.withPlan_plan (s : State) (x : Option Plan) : (s.withPlan x).plan = x := rfl
@[simp] theorem State.withPlan_machine (s : State) (x : Option Plan) : (s.withPlan x).machine = s.machine := rfl
@[simp] theorem State.withPlan_car (s : State) (x : Option Plan) : (s.withPlan x).car = s.car := rfl
@[simp] theorem State.withPlan_out (s : State) (x : Option Plan) : (s.withPlan x).out = s.out := rfl
@[simp] theorem State.withPlan_port (s : State) (x : Option Plan) : (s.withPlan x).port = s.port := rfl
@[simp] theorem State.withPlan_free (s : State) (x : Option Plan) : (s.withPlan x).free = s.free := rfl
@[simp] theorem State.withPlan_pending (s : State) (x : Option Plan) : (s.withPlan x).pending = s.pending := rfl
@[simp] theorem State.withPlan_self (s : State) : s.withPlan s.plan = s := rfl

@[simp] theorem State.withMachine_straps (s : State) (x : MachineUnit) : (s.withMachine x).straps = s.straps := rfl
@[simp] theorem State.withMachine_config (s : State) (x : MachineUnit) : (s.withMachine x).config = s.config := rfl
@[simp] theorem State.withMachine_staged (s : State) (x : MachineUnit) : (s.withMachine x).staged = s.staged := rfl
@[simp] theorem State.withMachine_life (s : State) (x : MachineUnit) : (s.withMachine x).life = s.life := rfl
@[simp] theorem State.withMachine_time (s : State) (x : MachineUnit) : (s.withMachine x).time = s.time := rfl
@[simp] theorem State.withMachine_line (s : State) (x : MachineUnit) : (s.withMachine x).line = s.line := rfl
@[simp] theorem State.withMachine_queue (s : State) (x : MachineUnit) : (s.withMachine x).queue = s.queue := rfl
@[simp] theorem State.withMachine_table (s : State) (x : MachineUnit) : (s.withMachine x).table = s.table := rfl
@[simp] theorem State.withMachine_claims (s : State) (x : MachineUnit) : (s.withMachine x).claims = s.claims := rfl
@[simp] theorem State.withMachine_stop (s : State) (x : MachineUnit) : (s.withMachine x).stop = s.stop := rfl
@[simp] theorem State.withMachine_bank (s : State) (x : MachineUnit) : (s.withMachine x).bank = s.bank := rfl
@[simp] theorem State.withMachine_plan (s : State) (x : MachineUnit) : (s.withMachine x).plan = s.plan := rfl
@[simp] theorem State.withMachine_machine (s : State) (x : MachineUnit) : (s.withMachine x).machine = x := rfl
@[simp] theorem State.withMachine_car (s : State) (x : MachineUnit) : (s.withMachine x).car = s.car := rfl
@[simp] theorem State.withMachine_out (s : State) (x : MachineUnit) : (s.withMachine x).out = s.out := rfl
@[simp] theorem State.withMachine_port (s : State) (x : MachineUnit) : (s.withMachine x).port = s.port := rfl
@[simp] theorem State.withMachine_free (s : State) (x : MachineUnit) : (s.withMachine x).free = s.free := rfl
@[simp] theorem State.withMachine_pending (s : State) (x : MachineUnit) : (s.withMachine x).pending = s.pending := rfl
@[simp] theorem State.withMachine_self (s : State) : s.withMachine s.machine = s := rfl

@[simp] theorem State.withCar_straps (s : State) (x : Car) : (s.withCar x).straps = s.straps := rfl
@[simp] theorem State.withCar_config (s : State) (x : Car) : (s.withCar x).config = s.config := rfl
@[simp] theorem State.withCar_staged (s : State) (x : Car) : (s.withCar x).staged = s.staged := rfl
@[simp] theorem State.withCar_life (s : State) (x : Car) : (s.withCar x).life = s.life := rfl
@[simp] theorem State.withCar_time (s : State) (x : Car) : (s.withCar x).time = s.time := rfl
@[simp] theorem State.withCar_line (s : State) (x : Car) : (s.withCar x).line = s.line := rfl
@[simp] theorem State.withCar_queue (s : State) (x : Car) : (s.withCar x).queue = s.queue := rfl
@[simp] theorem State.withCar_table (s : State) (x : Car) : (s.withCar x).table = s.table := rfl
@[simp] theorem State.withCar_claims (s : State) (x : Car) : (s.withCar x).claims = s.claims := rfl
@[simp] theorem State.withCar_stop (s : State) (x : Car) : (s.withCar x).stop = s.stop := rfl
@[simp] theorem State.withCar_bank (s : State) (x : Car) : (s.withCar x).bank = s.bank := rfl
@[simp] theorem State.withCar_plan (s : State) (x : Car) : (s.withCar x).plan = s.plan := rfl
@[simp] theorem State.withCar_machine (s : State) (x : Car) : (s.withCar x).machine = s.machine := rfl
@[simp] theorem State.withCar_car (s : State) (x : Car) : (s.withCar x).car = x := rfl
@[simp] theorem State.withCar_out (s : State) (x : Car) : (s.withCar x).out = s.out := rfl
@[simp] theorem State.withCar_port (s : State) (x : Car) : (s.withCar x).port = s.port := rfl
@[simp] theorem State.withCar_free (s : State) (x : Car) : (s.withCar x).free = s.free := rfl
@[simp] theorem State.withCar_pending (s : State) (x : Car) : (s.withCar x).pending = s.pending := rfl
@[simp] theorem State.withCar_self (s : State) : s.withCar s.car = s := rfl

@[simp] theorem State.withOut_straps (s : State) (x : Outputs) : (s.withOut x).straps = s.straps := rfl
@[simp] theorem State.withOut_config (s : State) (x : Outputs) : (s.withOut x).config = s.config := rfl
@[simp] theorem State.withOut_staged (s : State) (x : Outputs) : (s.withOut x).staged = s.staged := rfl
@[simp] theorem State.withOut_life (s : State) (x : Outputs) : (s.withOut x).life = s.life := rfl
@[simp] theorem State.withOut_time (s : State) (x : Outputs) : (s.withOut x).time = s.time := rfl
@[simp] theorem State.withOut_line (s : State) (x : Outputs) : (s.withOut x).line = s.line := rfl
@[simp] theorem State.withOut_queue (s : State) (x : Outputs) : (s.withOut x).queue = s.queue := rfl
@[simp] theorem State.withOut_table (s : State) (x : Outputs) : (s.withOut x).table = s.table := rfl
@[simp] theorem State.withOut_claims (s : State) (x : Outputs) : (s.withOut x).claims = s.claims := rfl
@[simp] theorem State.withOut_stop (s : State) (x : Outputs) : (s.withOut x).stop = s.stop := rfl
@[simp] theorem State.withOut_bank (s : State) (x : Outputs) : (s.withOut x).bank = s.bank := rfl
@[simp] theorem State.withOut_plan (s : State) (x : Outputs) : (s.withOut x).plan = s.plan := rfl
@[simp] theorem State.withOut_machine (s : State) (x : Outputs) : (s.withOut x).machine = s.machine := rfl
@[simp] theorem State.withOut_car (s : State) (x : Outputs) : (s.withOut x).car = s.car := rfl
@[simp] theorem State.withOut_out (s : State) (x : Outputs) : (s.withOut x).out = x := rfl
@[simp] theorem State.withOut_port (s : State) (x : Outputs) : (s.withOut x).port = s.port := rfl
@[simp] theorem State.withOut_free (s : State) (x : Outputs) : (s.withOut x).free = s.free := rfl
@[simp] theorem State.withOut_pending (s : State) (x : Outputs) : (s.withOut x).pending = s.pending := rfl
@[simp] theorem State.withOut_self (s : State) : s.withOut s.out = s := rfl

@[simp] theorem State.withPort_straps (s : State) (x : Port) : (s.withPort x).straps = s.straps := rfl
@[simp] theorem State.withPort_config (s : State) (x : Port) : (s.withPort x).config = s.config := rfl
@[simp] theorem State.withPort_staged (s : State) (x : Port) : (s.withPort x).staged = s.staged := rfl
@[simp] theorem State.withPort_life (s : State) (x : Port) : (s.withPort x).life = s.life := rfl
@[simp] theorem State.withPort_time (s : State) (x : Port) : (s.withPort x).time = s.time := rfl
@[simp] theorem State.withPort_line (s : State) (x : Port) : (s.withPort x).line = s.line := rfl
@[simp] theorem State.withPort_queue (s : State) (x : Port) : (s.withPort x).queue = s.queue := rfl
@[simp] theorem State.withPort_table (s : State) (x : Port) : (s.withPort x).table = s.table := rfl
@[simp] theorem State.withPort_claims (s : State) (x : Port) : (s.withPort x).claims = s.claims := rfl
@[simp] theorem State.withPort_stop (s : State) (x : Port) : (s.withPort x).stop = s.stop := rfl
@[simp] theorem State.withPort_bank (s : State) (x : Port) : (s.withPort x).bank = s.bank := rfl
@[simp] theorem State.withPort_plan (s : State) (x : Port) : (s.withPort x).plan = s.plan := rfl
@[simp] theorem State.withPort_machine (s : State) (x : Port) : (s.withPort x).machine = s.machine := rfl
@[simp] theorem State.withPort_car (s : State) (x : Port) : (s.withPort x).car = s.car := rfl
@[simp] theorem State.withPort_out (s : State) (x : Port) : (s.withPort x).out = s.out := rfl
@[simp] theorem State.withPort_port (s : State) (x : Port) : (s.withPort x).port = x := rfl
@[simp] theorem State.withPort_free (s : State) (x : Port) : (s.withPort x).free = s.free := rfl
@[simp] theorem State.withPort_pending (s : State) (x : Port) : (s.withPort x).pending = s.pending := rfl
@[simp] theorem State.withPort_self (s : State) : s.withPort s.port = s := rfl

@[simp] theorem State.withFree_straps (s : State) (x : Nat) : (s.withFree x).straps = s.straps := rfl
@[simp] theorem State.withFree_config (s : State) (x : Nat) : (s.withFree x).config = s.config := rfl
@[simp] theorem State.withFree_staged (s : State) (x : Nat) : (s.withFree x).staged = s.staged := rfl
@[simp] theorem State.withFree_life (s : State) (x : Nat) : (s.withFree x).life = s.life := rfl
@[simp] theorem State.withFree_time (s : State) (x : Nat) : (s.withFree x).time = s.time := rfl
@[simp] theorem State.withFree_line (s : State) (x : Nat) : (s.withFree x).line = s.line := rfl
@[simp] theorem State.withFree_queue (s : State) (x : Nat) : (s.withFree x).queue = s.queue := rfl
@[simp] theorem State.withFree_table (s : State) (x : Nat) : (s.withFree x).table = s.table := rfl
@[simp] theorem State.withFree_claims (s : State) (x : Nat) : (s.withFree x).claims = s.claims := rfl
@[simp] theorem State.withFree_stop (s : State) (x : Nat) : (s.withFree x).stop = s.stop := rfl
@[simp] theorem State.withFree_bank (s : State) (x : Nat) : (s.withFree x).bank = s.bank := rfl
@[simp] theorem State.withFree_plan (s : State) (x : Nat) : (s.withFree x).plan = s.plan := rfl
@[simp] theorem State.withFree_machine (s : State) (x : Nat) : (s.withFree x).machine = s.machine := rfl
@[simp] theorem State.withFree_car (s : State) (x : Nat) : (s.withFree x).car = s.car := rfl
@[simp] theorem State.withFree_out (s : State) (x : Nat) : (s.withFree x).out = s.out := rfl
@[simp] theorem State.withFree_port (s : State) (x : Nat) : (s.withFree x).port = s.port := rfl
@[simp] theorem State.withFree_free (s : State) (x : Nat) : (s.withFree x).free = x := rfl
@[simp] theorem State.withFree_pending (s : State) (x : Nat) : (s.withFree x).pending = s.pending := rfl
@[simp] theorem State.withFree_self (s : State) : s.withFree s.free = s := rfl

@[simp] theorem State.withPending_straps (s : State) (x : List Instr) : (s.withPending x).straps = s.straps := rfl
@[simp] theorem State.withPending_config (s : State) (x : List Instr) : (s.withPending x).config = s.config := rfl
@[simp] theorem State.withPending_staged (s : State) (x : List Instr) : (s.withPending x).staged = s.staged := rfl
@[simp] theorem State.withPending_life (s : State) (x : List Instr) : (s.withPending x).life = s.life := rfl
@[simp] theorem State.withPending_time (s : State) (x : List Instr) : (s.withPending x).time = s.time := rfl
@[simp] theorem State.withPending_line (s : State) (x : List Instr) : (s.withPending x).line = s.line := rfl
@[simp] theorem State.withPending_queue (s : State) (x : List Instr) : (s.withPending x).queue = s.queue := rfl
@[simp] theorem State.withPending_table (s : State) (x : List Instr) : (s.withPending x).table = s.table := rfl
@[simp] theorem State.withPending_claims (s : State) (x : List Instr) : (s.withPending x).claims = s.claims := rfl
@[simp] theorem State.withPending_stop (s : State) (x : List Instr) : (s.withPending x).stop = s.stop := rfl
@[simp] theorem State.withPending_bank (s : State) (x : List Instr) : (s.withPending x).bank = s.bank := rfl
@[simp] theorem State.withPending_plan (s : State) (x : List Instr) : (s.withPending x).plan = s.plan := rfl
@[simp] theorem State.withPending_machine (s : State) (x : List Instr) : (s.withPending x).machine = s.machine := rfl
@[simp] theorem State.withPending_car (s : State) (x : List Instr) : (s.withPending x).car = s.car := rfl
@[simp] theorem State.withPending_out (s : State) (x : List Instr) : (s.withPending x).out = s.out := rfl
@[simp] theorem State.withPending_port (s : State) (x : List Instr) : (s.withPending x).port = s.port := rfl
@[simp] theorem State.withPending_free (s : State) (x : List Instr) : (s.withPending x).free = s.free := rfl
@[simp] theorem State.withPending_pending (s : State) (x : List Instr) : (s.withPending x).pending = x := rfl
@[simp] theorem State.withPending_self (s : State) : s.withPending s.pending = s := rfl

/-! ## Updates by a function -/

@[simp] theorem State.changeLine_straps (s : State) (f : Line → Line) : (s.changeLine f).straps = s.straps := rfl
@[simp] theorem State.changeLine_config (s : State) (f : Line → Line) : (s.changeLine f).config = s.config := rfl
@[simp] theorem State.changeLine_staged (s : State) (f : Line → Line) : (s.changeLine f).staged = s.staged := rfl
@[simp] theorem State.changeLine_life (s : State) (f : Line → Line) : (s.changeLine f).life = s.life := rfl
@[simp] theorem State.changeLine_time (s : State) (f : Line → Line) : (s.changeLine f).time = s.time := rfl
@[simp] theorem State.changeLine_line (s : State) (f : Line → Line) : (s.changeLine f).line = f s.line := rfl
@[simp] theorem State.changeLine_queue (s : State) (f : Line → Line) : (s.changeLine f).queue = s.queue := rfl
@[simp] theorem State.changeLine_table (s : State) (f : Line → Line) : (s.changeLine f).table = s.table := rfl
@[simp] theorem State.changeLine_claims (s : State) (f : Line → Line) : (s.changeLine f).claims = s.claims := rfl
@[simp] theorem State.changeLine_stop (s : State) (f : Line → Line) : (s.changeLine f).stop = s.stop := rfl
@[simp] theorem State.changeLine_bank (s : State) (f : Line → Line) : (s.changeLine f).bank = s.bank := rfl
@[simp] theorem State.changeLine_plan (s : State) (f : Line → Line) : (s.changeLine f).plan = s.plan := rfl
@[simp] theorem State.changeLine_machine (s : State) (f : Line → Line) : (s.changeLine f).machine = s.machine := rfl
@[simp] theorem State.changeLine_car (s : State) (f : Line → Line) : (s.changeLine f).car = s.car := rfl
@[simp] theorem State.changeLine_out (s : State) (f : Line → Line) : (s.changeLine f).out = s.out := rfl
@[simp] theorem State.changeLine_port (s : State) (f : Line → Line) : (s.changeLine f).port = s.port := rfl
@[simp] theorem State.changeLine_free (s : State) (f : Line → Line) : (s.changeLine f).free = s.free := rfl
@[simp] theorem State.changeLine_pending (s : State) (f : Line → Line) : (s.changeLine f).pending = s.pending := rfl

@[simp] theorem State.changeLife_straps (s : State) (f : Life → Life) : (s.changeLife f).straps = s.straps := rfl
@[simp] theorem State.changeLife_config (s : State) (f : Life → Life) : (s.changeLife f).config = s.config := rfl
@[simp] theorem State.changeLife_staged (s : State) (f : Life → Life) : (s.changeLife f).staged = s.staged := rfl
@[simp] theorem State.changeLife_life (s : State) (f : Life → Life) : (s.changeLife f).life = f s.life := rfl
@[simp] theorem State.changeLife_time (s : State) (f : Life → Life) : (s.changeLife f).time = s.time := rfl
@[simp] theorem State.changeLife_line (s : State) (f : Life → Life) : (s.changeLife f).line = s.line := rfl
@[simp] theorem State.changeLife_queue (s : State) (f : Life → Life) : (s.changeLife f).queue = s.queue := rfl
@[simp] theorem State.changeLife_table (s : State) (f : Life → Life) : (s.changeLife f).table = s.table := rfl
@[simp] theorem State.changeLife_claims (s : State) (f : Life → Life) : (s.changeLife f).claims = s.claims := rfl
@[simp] theorem State.changeLife_stop (s : State) (f : Life → Life) : (s.changeLife f).stop = s.stop := rfl
@[simp] theorem State.changeLife_bank (s : State) (f : Life → Life) : (s.changeLife f).bank = s.bank := rfl
@[simp] theorem State.changeLife_plan (s : State) (f : Life → Life) : (s.changeLife f).plan = s.plan := rfl
@[simp] theorem State.changeLife_machine (s : State) (f : Life → Life) : (s.changeLife f).machine = s.machine := rfl
@[simp] theorem State.changeLife_car (s : State) (f : Life → Life) : (s.changeLife f).car = s.car := rfl
@[simp] theorem State.changeLife_out (s : State) (f : Life → Life) : (s.changeLife f).out = s.out := rfl
@[simp] theorem State.changeLife_port (s : State) (f : Life → Life) : (s.changeLife f).port = s.port := rfl
@[simp] theorem State.changeLife_free (s : State) (f : Life → Life) : (s.changeLife f).free = s.free := rfl
@[simp] theorem State.changeLife_pending (s : State) (f : Life → Life) : (s.changeLife f).pending = s.pending := rfl

@[simp] theorem State.changeStop_straps (s : State) (f : StopState → StopState) : (s.changeStop f).straps = s.straps := rfl
@[simp] theorem State.changeStop_config (s : State) (f : StopState → StopState) : (s.changeStop f).config = s.config := rfl
@[simp] theorem State.changeStop_staged (s : State) (f : StopState → StopState) : (s.changeStop f).staged = s.staged := rfl
@[simp] theorem State.changeStop_life (s : State) (f : StopState → StopState) : (s.changeStop f).life = s.life := rfl
@[simp] theorem State.changeStop_time (s : State) (f : StopState → StopState) : (s.changeStop f).time = s.time := rfl
@[simp] theorem State.changeStop_line (s : State) (f : StopState → StopState) : (s.changeStop f).line = s.line := rfl
@[simp] theorem State.changeStop_queue (s : State) (f : StopState → StopState) : (s.changeStop f).queue = s.queue := rfl
@[simp] theorem State.changeStop_table (s : State) (f : StopState → StopState) : (s.changeStop f).table = s.table := rfl
@[simp] theorem State.changeStop_claims (s : State) (f : StopState → StopState) : (s.changeStop f).claims = s.claims := rfl
@[simp] theorem State.changeStop_stop (s : State) (f : StopState → StopState) : (s.changeStop f).stop = f s.stop := rfl
@[simp] theorem State.changeStop_bank (s : State) (f : StopState → StopState) : (s.changeStop f).bank = s.bank := rfl
@[simp] theorem State.changeStop_plan (s : State) (f : StopState → StopState) : (s.changeStop f).plan = s.plan := rfl
@[simp] theorem State.changeStop_machine (s : State) (f : StopState → StopState) : (s.changeStop f).machine = s.machine := rfl
@[simp] theorem State.changeStop_car (s : State) (f : StopState → StopState) : (s.changeStop f).car = s.car := rfl
@[simp] theorem State.changeStop_out (s : State) (f : StopState → StopState) : (s.changeStop f).out = s.out := rfl
@[simp] theorem State.changeStop_port (s : State) (f : StopState → StopState) : (s.changeStop f).port = s.port := rfl
@[simp] theorem State.changeStop_free (s : State) (f : StopState → StopState) : (s.changeStop f).free = s.free := rfl
@[simp] theorem State.changeStop_pending (s : State) (f : StopState → StopState) : (s.changeStop f).pending = s.pending := rfl

@[simp] theorem State.changePort_straps (s : State) (f : Port → Port) : (s.changePort f).straps = s.straps := rfl
@[simp] theorem State.changePort_config (s : State) (f : Port → Port) : (s.changePort f).config = s.config := rfl
@[simp] theorem State.changePort_staged (s : State) (f : Port → Port) : (s.changePort f).staged = s.staged := rfl
@[simp] theorem State.changePort_life (s : State) (f : Port → Port) : (s.changePort f).life = s.life := rfl
@[simp] theorem State.changePort_time (s : State) (f : Port → Port) : (s.changePort f).time = s.time := rfl
@[simp] theorem State.changePort_line (s : State) (f : Port → Port) : (s.changePort f).line = s.line := rfl
@[simp] theorem State.changePort_queue (s : State) (f : Port → Port) : (s.changePort f).queue = s.queue := rfl
@[simp] theorem State.changePort_table (s : State) (f : Port → Port) : (s.changePort f).table = s.table := rfl
@[simp] theorem State.changePort_claims (s : State) (f : Port → Port) : (s.changePort f).claims = s.claims := rfl
@[simp] theorem State.changePort_stop (s : State) (f : Port → Port) : (s.changePort f).stop = s.stop := rfl
@[simp] theorem State.changePort_bank (s : State) (f : Port → Port) : (s.changePort f).bank = s.bank := rfl
@[simp] theorem State.changePort_plan (s : State) (f : Port → Port) : (s.changePort f).plan = s.plan := rfl
@[simp] theorem State.changePort_machine (s : State) (f : Port → Port) : (s.changePort f).machine = s.machine := rfl
@[simp] theorem State.changePort_car (s : State) (f : Port → Port) : (s.changePort f).car = s.car := rfl
@[simp] theorem State.changePort_out (s : State) (f : Port → Port) : (s.changePort f).out = s.out := rfl
@[simp] theorem State.changePort_port (s : State) (f : Port → Port) : (s.changePort f).port = f s.port := rfl
@[simp] theorem State.changePort_free (s : State) (f : Port → Port) : (s.changePort f).free = s.free := rfl
@[simp] theorem State.changePort_pending (s : State) (f : Port → Port) : (s.changePort f).pending = s.pending := rfl

@[simp] theorem State.changeMachine_straps (s : State) (f : MachineUnit → MachineUnit) : (s.changeMachine f).straps = s.straps := rfl
@[simp] theorem State.changeMachine_config (s : State) (f : MachineUnit → MachineUnit) : (s.changeMachine f).config = s.config := rfl
@[simp] theorem State.changeMachine_staged (s : State) (f : MachineUnit → MachineUnit) : (s.changeMachine f).staged = s.staged := rfl
@[simp] theorem State.changeMachine_life (s : State) (f : MachineUnit → MachineUnit) : (s.changeMachine f).life = s.life := rfl
@[simp] theorem State.changeMachine_time (s : State) (f : MachineUnit → MachineUnit) : (s.changeMachine f).time = s.time := rfl
@[simp] theorem State.changeMachine_line (s : State) (f : MachineUnit → MachineUnit) : (s.changeMachine f).line = s.line := rfl
@[simp] theorem State.changeMachine_queue (s : State) (f : MachineUnit → MachineUnit) : (s.changeMachine f).queue = s.queue := rfl
@[simp] theorem State.changeMachine_table (s : State) (f : MachineUnit → MachineUnit) : (s.changeMachine f).table = s.table := rfl
@[simp] theorem State.changeMachine_claims (s : State) (f : MachineUnit → MachineUnit) : (s.changeMachine f).claims = s.claims := rfl
@[simp] theorem State.changeMachine_stop (s : State) (f : MachineUnit → MachineUnit) : (s.changeMachine f).stop = s.stop := rfl
@[simp] theorem State.changeMachine_bank (s : State) (f : MachineUnit → MachineUnit) : (s.changeMachine f).bank = s.bank := rfl
@[simp] theorem State.changeMachine_plan (s : State) (f : MachineUnit → MachineUnit) : (s.changeMachine f).plan = s.plan := rfl
@[simp] theorem State.changeMachine_machine (s : State) (f : MachineUnit → MachineUnit) : (s.changeMachine f).machine = f s.machine := rfl
@[simp] theorem State.changeMachine_car (s : State) (f : MachineUnit → MachineUnit) : (s.changeMachine f).car = s.car := rfl
@[simp] theorem State.changeMachine_out (s : State) (f : MachineUnit → MachineUnit) : (s.changeMachine f).out = s.out := rfl
@[simp] theorem State.changeMachine_port (s : State) (f : MachineUnit → MachineUnit) : (s.changeMachine f).port = s.port := rfl
@[simp] theorem State.changeMachine_free (s : State) (f : MachineUnit → MachineUnit) : (s.changeMachine f).free = s.free := rfl
@[simp] theorem State.changeMachine_pending (s : State) (f : MachineUnit → MachineUnit) : (s.changeMachine f).pending = s.pending := rfl

@[simp] theorem State.changeCar_straps (s : State) (f : Car → Car) : (s.changeCar f).straps = s.straps := rfl
@[simp] theorem State.changeCar_config (s : State) (f : Car → Car) : (s.changeCar f).config = s.config := rfl
@[simp] theorem State.changeCar_staged (s : State) (f : Car → Car) : (s.changeCar f).staged = s.staged := rfl
@[simp] theorem State.changeCar_life (s : State) (f : Car → Car) : (s.changeCar f).life = s.life := rfl
@[simp] theorem State.changeCar_time (s : State) (f : Car → Car) : (s.changeCar f).time = s.time := rfl
@[simp] theorem State.changeCar_line (s : State) (f : Car → Car) : (s.changeCar f).line = s.line := rfl
@[simp] theorem State.changeCar_queue (s : State) (f : Car → Car) : (s.changeCar f).queue = s.queue := rfl
@[simp] theorem State.changeCar_table (s : State) (f : Car → Car) : (s.changeCar f).table = s.table := rfl
@[simp] theorem State.changeCar_claims (s : State) (f : Car → Car) : (s.changeCar f).claims = s.claims := rfl
@[simp] theorem State.changeCar_stop (s : State) (f : Car → Car) : (s.changeCar f).stop = s.stop := rfl
@[simp] theorem State.changeCar_bank (s : State) (f : Car → Car) : (s.changeCar f).bank = s.bank := rfl
@[simp] theorem State.changeCar_plan (s : State) (f : Car → Car) : (s.changeCar f).plan = s.plan := rfl
@[simp] theorem State.changeCar_machine (s : State) (f : Car → Car) : (s.changeCar f).machine = s.machine := rfl
@[simp] theorem State.changeCar_car (s : State) (f : Car → Car) : (s.changeCar f).car = f s.car := rfl
@[simp] theorem State.changeCar_out (s : State) (f : Car → Car) : (s.changeCar f).out = s.out := rfl
@[simp] theorem State.changeCar_port (s : State) (f : Car → Car) : (s.changeCar f).port = s.port := rfl
@[simp] theorem State.changeCar_free (s : State) (f : Car → Car) : (s.changeCar f).free = s.free := rfl
@[simp] theorem State.changeCar_pending (s : State) (f : Car → Car) : (s.changeCar f).pending = s.pending := rfl

@[simp] theorem State.changePlan_straps (s : State) (f : Plan → Plan) : (s.changePlan f).straps = s.straps := rfl
@[simp] theorem State.changePlan_config (s : State) (f : Plan → Plan) : (s.changePlan f).config = s.config := rfl
@[simp] theorem State.changePlan_staged (s : State) (f : Plan → Plan) : (s.changePlan f).staged = s.staged := rfl
@[simp] theorem State.changePlan_life (s : State) (f : Plan → Plan) : (s.changePlan f).life = s.life := rfl
@[simp] theorem State.changePlan_time (s : State) (f : Plan → Plan) : (s.changePlan f).time = s.time := rfl
@[simp] theorem State.changePlan_line (s : State) (f : Plan → Plan) : (s.changePlan f).line = s.line := rfl
@[simp] theorem State.changePlan_queue (s : State) (f : Plan → Plan) : (s.changePlan f).queue = s.queue := rfl
@[simp] theorem State.changePlan_table (s : State) (f : Plan → Plan) : (s.changePlan f).table = s.table := rfl
@[simp] theorem State.changePlan_claims (s : State) (f : Plan → Plan) : (s.changePlan f).claims = s.claims := rfl
@[simp] theorem State.changePlan_stop (s : State) (f : Plan → Plan) : (s.changePlan f).stop = s.stop := rfl
@[simp] theorem State.changePlan_bank (s : State) (f : Plan → Plan) : (s.changePlan f).bank = s.bank := rfl
@[simp] theorem State.changePlan_plan (s : State) (f : Plan → Plan) : (s.changePlan f).plan = s.plan.map f := rfl
@[simp] theorem State.changePlan_machine (s : State) (f : Plan → Plan) : (s.changePlan f).machine = s.machine := rfl
@[simp] theorem State.changePlan_car (s : State) (f : Plan → Plan) : (s.changePlan f).car = s.car := rfl
@[simp] theorem State.changePlan_out (s : State) (f : Plan → Plan) : (s.changePlan f).out = s.out := rfl
@[simp] theorem State.changePlan_port (s : State) (f : Plan → Plan) : (s.changePlan f).port = s.port := rfl
@[simp] theorem State.changePlan_free (s : State) (f : Plan → Plan) : (s.changePlan f).free = s.free := rfl
@[simp] theorem State.changePlan_pending (s : State) (f : Plan → Plan) : (s.changePlan f).pending = s.pending := rfl

/-! ## Records by place -/

@[simp] theorem State.setOven_straps (s : State) (i : Nat) (f : Oven → Oven) : (s.setOven i f).straps = s.straps := rfl
@[simp] theorem State.setOven_config (s : State) (i : Nat) (f : Oven → Oven) : (s.setOven i f).config = s.config := rfl
@[simp] theorem State.setOven_staged (s : State) (i : Nat) (f : Oven → Oven) : (s.setOven i f).staged = s.staged := rfl
@[simp] theorem State.setOven_life (s : State) (i : Nat) (f : Oven → Oven) : (s.setOven i f).life = s.life := rfl
@[simp] theorem State.setOven_time (s : State) (i : Nat) (f : Oven → Oven) : (s.setOven i f).time = s.time := rfl
@[simp] theorem State.setOven_line (s : State) (i : Nat) (f : Oven → Oven) : (s.setOven i f).line = s.line := rfl
@[simp] theorem State.setOven_queue (s : State) (i : Nat) (f : Oven → Oven) : (s.setOven i f).queue = s.queue := rfl
@[simp] theorem State.setOven_table (s : State) (i : Nat) (f : Oven → Oven) : (s.setOven i f).table = s.table := rfl
@[simp] theorem State.setOven_claims (s : State) (i : Nat) (f : Oven → Oven) : (s.setOven i f).claims = s.claims := rfl
@[simp] theorem State.setOven_stop (s : State) (i : Nat) (f : Oven → Oven) : (s.setOven i f).stop = s.stop := rfl
@[simp] theorem State.setOven_bank (s : State) (i : Nat) (f : Oven → Oven) : (s.setOven i f).bank = { s.bank with ovens := s.bank.ovens.modify i f } := rfl
@[simp] theorem State.setOven_plan (s : State) (i : Nat) (f : Oven → Oven) : (s.setOven i f).plan = s.plan := rfl
@[simp] theorem State.setOven_machine (s : State) (i : Nat) (f : Oven → Oven) : (s.setOven i f).machine = s.machine := rfl
@[simp] theorem State.setOven_car (s : State) (i : Nat) (f : Oven → Oven) : (s.setOven i f).car = s.car := rfl
@[simp] theorem State.setOven_out (s : State) (i : Nat) (f : Oven → Oven) : (s.setOven i f).out = s.out := rfl
@[simp] theorem State.setOven_port (s : State) (i : Nat) (f : Oven → Oven) : (s.setOven i f).port = s.port := rfl
@[simp] theorem State.setOven_free (s : State) (i : Nat) (f : Oven → Oven) : (s.setOven i f).free = s.free := rfl
@[simp] theorem State.setOven_pending (s : State) (i : Nat) (f : Oven → Oven) : (s.setOven i f).pending = s.pending := rfl

@[simp] theorem State.setLoop_straps (s : State) (i : Nat) (f : Loop → Loop) : (s.setLoop i f).straps = s.straps := rfl
@[simp] theorem State.setLoop_config (s : State) (i : Nat) (f : Loop → Loop) : (s.setLoop i f).config = s.config := rfl
@[simp] theorem State.setLoop_staged (s : State) (i : Nat) (f : Loop → Loop) : (s.setLoop i f).staged = s.staged := rfl
@[simp] theorem State.setLoop_life (s : State) (i : Nat) (f : Loop → Loop) : (s.setLoop i f).life = s.life := rfl
@[simp] theorem State.setLoop_time (s : State) (i : Nat) (f : Loop → Loop) : (s.setLoop i f).time = s.time := rfl
@[simp] theorem State.setLoop_line (s : State) (i : Nat) (f : Loop → Loop) : (s.setLoop i f).line = s.line := rfl
@[simp] theorem State.setLoop_queue (s : State) (i : Nat) (f : Loop → Loop) : (s.setLoop i f).queue = s.queue := rfl
@[simp] theorem State.setLoop_table (s : State) (i : Nat) (f : Loop → Loop) : (s.setLoop i f).table = s.table := rfl
@[simp] theorem State.setLoop_claims (s : State) (i : Nat) (f : Loop → Loop) : (s.setLoop i f).claims = s.claims := rfl
@[simp] theorem State.setLoop_stop (s : State) (i : Nat) (f : Loop → Loop) : (s.setLoop i f).stop = s.stop := rfl
@[simp] theorem State.setLoop_bank (s : State) (i : Nat) (f : Loop → Loop) : (s.setLoop i f).bank = { s.bank with loops := s.bank.loops.modify i f } := rfl
@[simp] theorem State.setLoop_plan (s : State) (i : Nat) (f : Loop → Loop) : (s.setLoop i f).plan = s.plan := rfl
@[simp] theorem State.setLoop_machine (s : State) (i : Nat) (f : Loop → Loop) : (s.setLoop i f).machine = s.machine := rfl
@[simp] theorem State.setLoop_car (s : State) (i : Nat) (f : Loop → Loop) : (s.setLoop i f).car = s.car := rfl
@[simp] theorem State.setLoop_out (s : State) (i : Nat) (f : Loop → Loop) : (s.setLoop i f).out = s.out := rfl
@[simp] theorem State.setLoop_port (s : State) (i : Nat) (f : Loop → Loop) : (s.setLoop i f).port = s.port := rfl
@[simp] theorem State.setLoop_free (s : State) (i : Nat) (f : Loop → Loop) : (s.setLoop i f).free = s.free := rfl
@[simp] theorem State.setLoop_pending (s : State) (i : Nat) (f : Loop → Loop) : (s.setLoop i f).pending = s.pending := rfl

@[simp] theorem State.setDoor_straps (s : State) (i : Nat) (f : Door → Door) : (s.setDoor i f).straps = s.straps := rfl
@[simp] theorem State.setDoor_config (s : State) (i : Nat) (f : Door → Door) : (s.setDoor i f).config = s.config := rfl
@[simp] theorem State.setDoor_staged (s : State) (i : Nat) (f : Door → Door) : (s.setDoor i f).staged = s.staged := rfl
@[simp] theorem State.setDoor_life (s : State) (i : Nat) (f : Door → Door) : (s.setDoor i f).life = s.life := rfl
@[simp] theorem State.setDoor_time (s : State) (i : Nat) (f : Door → Door) : (s.setDoor i f).time = s.time := rfl
@[simp] theorem State.setDoor_line (s : State) (i : Nat) (f : Door → Door) : (s.setDoor i f).line = s.line := rfl
@[simp] theorem State.setDoor_queue (s : State) (i : Nat) (f : Door → Door) : (s.setDoor i f).queue = s.queue := rfl
@[simp] theorem State.setDoor_table (s : State) (i : Nat) (f : Door → Door) : (s.setDoor i f).table = s.table := rfl
@[simp] theorem State.setDoor_claims (s : State) (i : Nat) (f : Door → Door) : (s.setDoor i f).claims = s.claims := rfl
@[simp] theorem State.setDoor_stop (s : State) (i : Nat) (f : Door → Door) : (s.setDoor i f).stop = s.stop := rfl
@[simp] theorem State.setDoor_bank (s : State) (i : Nat) (f : Door → Door) : (s.setDoor i f).bank = { s.bank with doors := s.bank.doors.modify i f } := rfl
@[simp] theorem State.setDoor_plan (s : State) (i : Nat) (f : Door → Door) : (s.setDoor i f).plan = s.plan := rfl
@[simp] theorem State.setDoor_machine (s : State) (i : Nat) (f : Door → Door) : (s.setDoor i f).machine = s.machine := rfl
@[simp] theorem State.setDoor_car (s : State) (i : Nat) (f : Door → Door) : (s.setDoor i f).car = s.car := rfl
@[simp] theorem State.setDoor_out (s : State) (i : Nat) (f : Door → Door) : (s.setDoor i f).out = s.out := rfl
@[simp] theorem State.setDoor_port (s : State) (i : Nat) (f : Door → Door) : (s.setDoor i f).port = s.port := rfl
@[simp] theorem State.setDoor_free (s : State) (i : Nat) (f : Door → Door) : (s.setDoor i f).free = s.free := rfl
@[simp] theorem State.setDoor_pending (s : State) (i : Nat) (f : Door → Door) : (s.setDoor i f).pending = s.pending := rfl

@[simp] theorem State.setRecord_straps (s : State) (r : Option Claim) : (s.setRecord r).straps = s.straps := rfl
@[simp] theorem State.setRecord_config (s : State) (r : Option Claim) : (s.setRecord r).config = s.config := rfl
@[simp] theorem State.setRecord_staged (s : State) (r : Option Claim) : (s.setRecord r).staged = s.staged := rfl
@[simp] theorem State.setRecord_life (s : State) (r : Option Claim) : (s.setRecord r).life = s.life := rfl
@[simp] theorem State.setRecord_time (s : State) (r : Option Claim) : (s.setRecord r).time = s.time := rfl
@[simp] theorem State.setRecord_line (s : State) (r : Option Claim) : (s.setRecord r).line = s.line := rfl
@[simp] theorem State.setRecord_queue (s : State) (r : Option Claim) : (s.setRecord r).queue = s.queue := rfl
@[simp] theorem State.setRecord_table (s : State) (r : Option Claim) : (s.setRecord r).table = s.table := rfl
@[simp] theorem State.setRecord_claims (s : State) (r : Option Claim) : (s.setRecord r).claims = { s.claims with record := r } := rfl
@[simp] theorem State.setRecord_stop (s : State) (r : Option Claim) : (s.setRecord r).stop = s.stop := rfl
@[simp] theorem State.setRecord_bank (s : State) (r : Option Claim) : (s.setRecord r).bank = s.bank := rfl
@[simp] theorem State.setRecord_plan (s : State) (r : Option Claim) : (s.setRecord r).plan = s.plan := rfl
@[simp] theorem State.setRecord_machine (s : State) (r : Option Claim) : (s.setRecord r).machine = s.machine := rfl
@[simp] theorem State.setRecord_car (s : State) (r : Option Claim) : (s.setRecord r).car = s.car := rfl
@[simp] theorem State.setRecord_out (s : State) (r : Option Claim) : (s.setRecord r).out = s.out := rfl
@[simp] theorem State.setRecord_port (s : State) (r : Option Claim) : (s.setRecord r).port = s.port := rfl
@[simp] theorem State.setRecord_free (s : State) (r : Option Claim) : (s.setRecord r).free = s.free := rfl
@[simp] theorem State.setRecord_pending (s : State) (r : Option Claim) : (s.setRecord r).pending = s.pending := rfl

@[simp] theorem State.setReseals_straps (s : State) (l : List (Option Reseal)) : (s.setReseals l).straps = s.straps := rfl
@[simp] theorem State.setReseals_config (s : State) (l : List (Option Reseal)) : (s.setReseals l).config = s.config := rfl
@[simp] theorem State.setReseals_staged (s : State) (l : List (Option Reseal)) : (s.setReseals l).staged = s.staged := rfl
@[simp] theorem State.setReseals_life (s : State) (l : List (Option Reseal)) : (s.setReseals l).life = s.life := rfl
@[simp] theorem State.setReseals_time (s : State) (l : List (Option Reseal)) : (s.setReseals l).time = s.time := rfl
@[simp] theorem State.setReseals_line (s : State) (l : List (Option Reseal)) : (s.setReseals l).line = s.line := rfl
@[simp] theorem State.setReseals_queue (s : State) (l : List (Option Reseal)) : (s.setReseals l).queue = s.queue := rfl
@[simp] theorem State.setReseals_table (s : State) (l : List (Option Reseal)) : (s.setReseals l).table = s.table := rfl
@[simp] theorem State.setReseals_claims (s : State) (l : List (Option Reseal)) : (s.setReseals l).claims = { s.claims with reseals := l } := rfl
@[simp] theorem State.setReseals_stop (s : State) (l : List (Option Reseal)) : (s.setReseals l).stop = s.stop := rfl
@[simp] theorem State.setReseals_bank (s : State) (l : List (Option Reseal)) : (s.setReseals l).bank = s.bank := rfl
@[simp] theorem State.setReseals_plan (s : State) (l : List (Option Reseal)) : (s.setReseals l).plan = s.plan := rfl
@[simp] theorem State.setReseals_machine (s : State) (l : List (Option Reseal)) : (s.setReseals l).machine = s.machine := rfl
@[simp] theorem State.setReseals_car (s : State) (l : List (Option Reseal)) : (s.setReseals l).car = s.car := rfl
@[simp] theorem State.setReseals_out (s : State) (l : List (Option Reseal)) : (s.setReseals l).out = s.out := rfl
@[simp] theorem State.setReseals_port (s : State) (l : List (Option Reseal)) : (s.setReseals l).port = s.port := rfl
@[simp] theorem State.setReseals_free (s : State) (l : List (Option Reseal)) : (s.setReseals l).free = s.free := rfl
@[simp] theorem State.setReseals_pending (s : State) (l : List (Option Reseal)) : (s.setReseals l).pending = s.pending := rfl

@[simp] theorem State.setEntry_straps (s : State) (id : Nat) (f : Entry → Entry) : (s.setEntry id f).straps = s.straps := rfl
@[simp] theorem State.setEntry_config (s : State) (id : Nat) (f : Entry → Entry) : (s.setEntry id f).config = s.config := rfl
@[simp] theorem State.setEntry_staged (s : State) (id : Nat) (f : Entry → Entry) : (s.setEntry id f).staged = s.staged := rfl
@[simp] theorem State.setEntry_life (s : State) (id : Nat) (f : Entry → Entry) : (s.setEntry id f).life = s.life := rfl
@[simp] theorem State.setEntry_time (s : State) (id : Nat) (f : Entry → Entry) : (s.setEntry id f).time = s.time := rfl
@[simp] theorem State.setEntry_line (s : State) (id : Nat) (f : Entry → Entry) : (s.setEntry id f).line = s.line := rfl
@[simp] theorem State.setEntry_queue (s : State) (id : Nat) (f : Entry → Entry) : (s.setEntry id f).queue = s.queue := rfl
@[simp] theorem State.setEntry_table (s : State) (id : Nat) (f : Entry → Entry) : (s.setEntry id f).table = s.table.modify id f := rfl
@[simp] theorem State.setEntry_claims (s : State) (id : Nat) (f : Entry → Entry) : (s.setEntry id f).claims = s.claims := rfl
@[simp] theorem State.setEntry_stop (s : State) (id : Nat) (f : Entry → Entry) : (s.setEntry id f).stop = s.stop := rfl
@[simp] theorem State.setEntry_bank (s : State) (id : Nat) (f : Entry → Entry) : (s.setEntry id f).bank = s.bank := rfl
@[simp] theorem State.setEntry_plan (s : State) (id : Nat) (f : Entry → Entry) : (s.setEntry id f).plan = s.plan := rfl
@[simp] theorem State.setEntry_machine (s : State) (id : Nat) (f : Entry → Entry) : (s.setEntry id f).machine = s.machine := rfl
@[simp] theorem State.setEntry_car (s : State) (id : Nat) (f : Entry → Entry) : (s.setEntry id f).car = s.car := rfl
@[simp] theorem State.setEntry_out (s : State) (id : Nat) (f : Entry → Entry) : (s.setEntry id f).out = s.out := rfl
@[simp] theorem State.setEntry_port (s : State) (id : Nat) (f : Entry → Entry) : (s.setEntry id f).port = s.port := rfl
@[simp] theorem State.setEntry_free (s : State) (id : Nat) (f : Entry → Entry) : (s.setEntry id f).free = s.free := rfl
@[simp] theorem State.setEntry_pending (s : State) (id : Nat) (f : Entry → Entry) : (s.setEntry id f).pending = s.pending := rfl

@[simp] theorem State.setLine_straps (s : State) (x : LineState) : (s.setLine x).straps = s.straps := rfl
@[simp] theorem State.setLine_config (s : State) (x : LineState) : (s.setLine x).config = s.config := rfl
@[simp] theorem State.setLine_staged (s : State) (x : LineState) : (s.setLine x).staged = s.staged := rfl
@[simp] theorem State.setLine_life (s : State) (x : LineState) : (s.setLine x).life = s.life := rfl
@[simp] theorem State.setLine_time (s : State) (x : LineState) : (s.setLine x).time = s.time := rfl
@[simp] theorem State.setLine_line (s : State) (x : LineState) : (s.setLine x).line = { s.line with state := x } := rfl
@[simp] theorem State.setLine_queue (s : State) (x : LineState) : (s.setLine x).queue = s.queue := rfl
@[simp] theorem State.setLine_table (s : State) (x : LineState) : (s.setLine x).table = s.table := rfl
@[simp] theorem State.setLine_claims (s : State) (x : LineState) : (s.setLine x).claims = s.claims := rfl
@[simp] theorem State.setLine_stop (s : State) (x : LineState) : (s.setLine x).stop = s.stop := rfl
@[simp] theorem State.setLine_bank (s : State) (x : LineState) : (s.setLine x).bank = s.bank := rfl
@[simp] theorem State.setLine_plan (s : State) (x : LineState) : (s.setLine x).plan = s.plan := rfl
@[simp] theorem State.setLine_machine (s : State) (x : LineState) : (s.setLine x).machine = s.machine := rfl
@[simp] theorem State.setLine_car (s : State) (x : LineState) : (s.setLine x).car = s.car := rfl
@[simp] theorem State.setLine_out (s : State) (x : LineState) : (s.setLine x).out = s.out := rfl
@[simp] theorem State.setLine_port (s : State) (x : LineState) : (s.setLine x).port = s.port := rfl
@[simp] theorem State.setLine_free (s : State) (x : LineState) : (s.setLine x).free = s.free := rfl
@[simp] theorem State.setLine_pending (s : State) (x : LineState) : (s.setLine x).pending = s.pending := rfl

@[simp] theorem State.setRx_straps (s : State) (x : Assembler) : (s.setRx x).straps = s.straps := rfl
@[simp] theorem State.setRx_config (s : State) (x : Assembler) : (s.setRx x).config = s.config := rfl
@[simp] theorem State.setRx_staged (s : State) (x : Assembler) : (s.setRx x).staged = s.staged := rfl
@[simp] theorem State.setRx_life (s : State) (x : Assembler) : (s.setRx x).life = s.life := rfl
@[simp] theorem State.setRx_time (s : State) (x : Assembler) : (s.setRx x).time = s.time := rfl
@[simp] theorem State.setRx_line (s : State) (x : Assembler) : (s.setRx x).line = s.line := rfl
@[simp] theorem State.setRx_queue (s : State) (x : Assembler) : (s.setRx x).queue = s.queue := rfl
@[simp] theorem State.setRx_table (s : State) (x : Assembler) : (s.setRx x).table = s.table := rfl
@[simp] theorem State.setRx_claims (s : State) (x : Assembler) : (s.setRx x).claims = s.claims := rfl
@[simp] theorem State.setRx_stop (s : State) (x : Assembler) : (s.setRx x).stop = s.stop := rfl
@[simp] theorem State.setRx_bank (s : State) (x : Assembler) : (s.setRx x).bank = s.bank := rfl
@[simp] theorem State.setRx_plan (s : State) (x : Assembler) : (s.setRx x).plan = s.plan := rfl
@[simp] theorem State.setRx_machine (s : State) (x : Assembler) : (s.setRx x).machine = s.machine := rfl
@[simp] theorem State.setRx_car (s : State) (x : Assembler) : (s.setRx x).car = s.car := rfl
@[simp] theorem State.setRx_out (s : State) (x : Assembler) : (s.setRx x).out = s.out := rfl
@[simp] theorem State.setRx_port (s : State) (x : Assembler) : (s.setRx x).port = { s.port with rx := x } := rfl
@[simp] theorem State.setRx_free (s : State) (x : Assembler) : (s.setRx x).free = s.free := rfl
@[simp] theorem State.setRx_pending (s : State) (x : Assembler) : (s.setRx x).pending = s.pending := rfl

@[simp] theorem State.setMarker_straps (s : State) (m : Nat) : (s.setMarker m).straps = s.straps := rfl
@[simp] theorem State.setMarker_config (s : State) (m : Nat) : (s.setMarker m).config = s.config := rfl
@[simp] theorem State.setMarker_staged (s : State) (m : Nat) : (s.setMarker m).staged = s.staged := rfl
@[simp] theorem State.setMarker_life (s : State) (m : Nat) : (s.setMarker m).life = s.life := rfl
@[simp] theorem State.setMarker_time (s : State) (m : Nat) : (s.setMarker m).time = s.time := rfl
@[simp] theorem State.setMarker_line (s : State) (m : Nat) : (s.setMarker m).line = s.line := rfl
@[simp] theorem State.setMarker_queue (s : State) (m : Nat) : (s.setMarker m).queue = s.queue := rfl
@[simp] theorem State.setMarker_table (s : State) (m : Nat) : (s.setMarker m).table = s.table := rfl
@[simp] theorem State.setMarker_claims (s : State) (m : Nat) : (s.setMarker m).claims = s.claims := rfl
@[simp] theorem State.setMarker_stop (s : State) (m : Nat) : (s.setMarker m).stop = s.stop := rfl
@[simp] theorem State.setMarker_bank (s : State) (m : Nat) : (s.setMarker m).bank = s.bank := rfl
@[simp] theorem State.setMarker_plan (s : State) (m : Nat) : (s.setMarker m).plan = s.plan := rfl
@[simp] theorem State.setMarker_machine (s : State) (m : Nat) : (s.setMarker m).machine = s.machine := rfl
@[simp] theorem State.setMarker_car (s : State) (m : Nat) : (s.setMarker m).car = { s.car with marker := m } := rfl
@[simp] theorem State.setMarker_out (s : State) (m : Nat) : (s.setMarker m).out = s.out := rfl
@[simp] theorem State.setMarker_port (s : State) (m : Nat) : (s.setMarker m).port = s.port := rfl
@[simp] theorem State.setMarker_free (s : State) (m : Nat) : (s.setMarker m).free = s.free := rfl
@[simp] theorem State.setMarker_pending (s : State) (m : Nat) : (s.setMarker m).pending = s.pending := rfl

@[simp] theorem State.startReadyTimer_straps (s : State) : (s.startReadyTimer).straps = s.straps := rfl
@[simp] theorem State.startReadyTimer_config (s : State) : (s.startReadyTimer).config = s.config := rfl
@[simp] theorem State.startReadyTimer_staged (s : State) : (s.startReadyTimer).staged = s.staged := rfl
@[simp] theorem State.startReadyTimer_life (s : State) : (s.startReadyTimer).life = s.life := rfl
@[simp] theorem State.startReadyTimer_time (s : State) : (s.startReadyTimer).time = s.time := rfl
@[simp] theorem State.startReadyTimer_line (s : State) : (s.startReadyTimer).line = s.line := rfl
@[simp] theorem State.startReadyTimer_queue (s : State) : (s.startReadyTimer).queue = s.queue := rfl
@[simp] theorem State.startReadyTimer_table (s : State) : (s.startReadyTimer).table = s.table := rfl
@[simp] theorem State.startReadyTimer_claims (s : State) : (s.startReadyTimer).claims = s.claims := rfl
@[simp] theorem State.startReadyTimer_stop (s : State) : (s.startReadyTimer).stop = s.stop := rfl
@[simp] theorem State.startReadyTimer_bank (s : State) : (s.startReadyTimer).bank = s.bank := rfl
@[simp] theorem State.startReadyTimer_plan (s : State) : (s.startReadyTimer).plan = s.plan := rfl
@[simp] theorem State.startReadyTimer_machine (s : State) : (s.startReadyTimer).machine = s.machine := rfl
@[simp] theorem State.startReadyTimer_car (s : State) : (s.startReadyTimer).car = { s.car with readyTimer := some 0 } := rfl
@[simp] theorem State.startReadyTimer_out (s : State) : (s.startReadyTimer).out = s.out := rfl
@[simp] theorem State.startReadyTimer_port (s : State) : (s.startReadyTimer).port = s.port := rfl
@[simp] theorem State.startReadyTimer_free (s : State) : (s.startReadyTimer).free = s.free := rfl
@[simp] theorem State.startReadyTimer_pending (s : State) : (s.startReadyTimer).pending = s.pending := rfl

@[simp] theorem State.clearRevoke_straps (s : State) : (s.clearRevoke).straps = s.straps := rfl
@[simp] theorem State.clearRevoke_config (s : State) : (s.clearRevoke).config = s.config := rfl
@[simp] theorem State.clearRevoke_staged (s : State) : (s.clearRevoke).staged = s.staged := rfl
@[simp] theorem State.clearRevoke_life (s : State) : (s.clearRevoke).life = s.life := rfl
@[simp] theorem State.clearRevoke_time (s : State) : (s.clearRevoke).time = s.time := rfl
@[simp] theorem State.clearRevoke_line (s : State) : (s.clearRevoke).line = s.line := rfl
@[simp] theorem State.clearRevoke_queue (s : State) : (s.clearRevoke).queue = s.queue := rfl
@[simp] theorem State.clearRevoke_table (s : State) : (s.clearRevoke).table = s.table := rfl
@[simp] theorem State.clearRevoke_claims (s : State) : (s.clearRevoke).claims = s.claims := rfl
@[simp] theorem State.clearRevoke_stop (s : State) : (s.clearRevoke).stop = s.stop := rfl
@[simp] theorem State.clearRevoke_bank (s : State) : (s.clearRevoke).bank = s.bank := rfl
@[simp] theorem State.clearRevoke_plan (s : State) : (s.clearRevoke).plan = s.plan := rfl
@[simp] theorem State.clearRevoke_machine (s : State) : (s.clearRevoke).machine = { s.machine with revokeOwed := none, revokeTimer := none } := rfl
@[simp] theorem State.clearRevoke_car (s : State) : (s.clearRevoke).car = s.car := rfl
@[simp] theorem State.clearRevoke_out (s : State) : (s.clearRevoke).out = s.out := rfl
@[simp] theorem State.clearRevoke_port (s : State) : (s.clearRevoke).port = s.port := rfl
@[simp] theorem State.clearRevoke_free (s : State) : (s.clearRevoke).free = s.free := rfl
@[simp] theorem State.clearRevoke_pending (s : State) : (s.clearRevoke).pending = s.pending := rfl

@[simp] theorem State.clearWanted_straps (s : State) : (s.clearWanted).straps = s.straps := rfl
@[simp] theorem State.clearWanted_config (s : State) : (s.clearWanted).config = s.config := rfl
@[simp] theorem State.clearWanted_staged (s : State) : (s.clearWanted).staged = s.staged := rfl
@[simp] theorem State.clearWanted_life (s : State) : (s.clearWanted).life = s.life := rfl
@[simp] theorem State.clearWanted_time (s : State) : (s.clearWanted).time = s.time := rfl
@[simp] theorem State.clearWanted_line (s : State) : (s.clearWanted).line = s.line := rfl
@[simp] theorem State.clearWanted_queue (s : State) : (s.clearWanted).queue = s.queue := rfl
@[simp] theorem State.clearWanted_table (s : State) : (s.clearWanted).table = s.table := rfl
@[simp] theorem State.clearWanted_claims (s : State) : (s.clearWanted).claims = s.claims := rfl
@[simp] theorem State.clearWanted_stop (s : State) : (s.clearWanted).stop = s.stop := rfl
@[simp] theorem State.clearWanted_bank (s : State) : (s.clearWanted).bank = s.bank := rfl
@[simp] theorem State.clearWanted_plan (s : State) : (s.clearWanted).plan = s.plan := rfl
@[simp] theorem State.clearWanted_machine (s : State) : (s.clearWanted).machine = { s.machine with setWanted := none } := rfl
@[simp] theorem State.clearWanted_car (s : State) : (s.clearWanted).car = s.car := rfl
@[simp] theorem State.clearWanted_out (s : State) : (s.clearWanted).out = s.out := rfl
@[simp] theorem State.clearWanted_port (s : State) : (s.clearWanted).port = s.port := rfl
@[simp] theorem State.clearWanted_free (s : State) : (s.clearWanted).free = s.free := rfl
@[simp] theorem State.clearWanted_pending (s : State) : (s.clearWanted).pending = s.pending := rfl

/-! ## Reports and replies -/

@[simp] theorem State.report_straps (s : State) (r : Report) : (s.report r).straps = s.straps := rfl
@[simp] theorem State.report_config (s : State) (r : Report) : (s.report r).config = s.config := rfl
@[simp] theorem State.report_staged (s : State) (r : Report) : (s.report r).staged = s.staged := rfl
@[simp] theorem State.report_life (s : State) (r : Report) : (s.report r).life = s.life := rfl
@[simp] theorem State.report_time (s : State) (r : Report) : (s.report r).time = s.time := rfl
@[simp] theorem State.report_line (s : State) (r : Report) : (s.report r).line = s.line := rfl
@[simp] theorem State.report_queue (s : State) (r : Report) : (s.report r).queue = s.queue := rfl
@[simp] theorem State.report_table (s : State) (r : Report) : (s.report r).table = s.table := rfl
@[simp] theorem State.report_claims (s : State) (r : Report) : (s.report r).claims = s.claims := rfl
@[simp] theorem State.report_stop (s : State) (r : Report) : (s.report r).stop = s.stop := rfl
@[simp] theorem State.report_bank (s : State) (r : Report) : (s.report r).bank = s.bank := rfl
@[simp] theorem State.report_plan (s : State) (r : Report) : (s.report r).plan = s.plan := rfl
@[simp] theorem State.report_machine (s : State) (r : Report) : (s.report r).machine = s.machine := rfl
@[simp] theorem State.report_car (s : State) (r : Report) : (s.report r).car = s.car := rfl
@[simp] theorem State.report_out (s : State) (r : Report) : (s.report r).out = s.out := rfl
@[simp] theorem State.report_port (s : State) (r : Report) : (s.report r).port = s.port.offerReport r := rfl
@[simp] theorem State.report_free (s : State) (r : Report) : (s.report r).free = s.free := rfl
@[simp] theorem State.report_pending (s : State) (r : Report) : (s.report r).pending = s.pending := rfl

@[simp] theorem State.reply_straps (s : State) (k : Byte) (r : Result) (d : Nat) (v : List Byte) : (s.reply k r d v).straps = s.straps := rfl
@[simp] theorem State.reply_config (s : State) (k : Byte) (r : Result) (d : Nat) (v : List Byte) : (s.reply k r d v).config = s.config := rfl
@[simp] theorem State.reply_staged (s : State) (k : Byte) (r : Result) (d : Nat) (v : List Byte) : (s.reply k r d v).staged = s.staged := rfl
@[simp] theorem State.reply_life (s : State) (k : Byte) (r : Result) (d : Nat) (v : List Byte) : (s.reply k r d v).life = s.life := rfl
@[simp] theorem State.reply_time (s : State) (k : Byte) (r : Result) (d : Nat) (v : List Byte) : (s.reply k r d v).time = s.time := rfl
@[simp] theorem State.reply_line (s : State) (k : Byte) (r : Result) (d : Nat) (v : List Byte) : (s.reply k r d v).line = s.line := rfl
@[simp] theorem State.reply_queue (s : State) (k : Byte) (r : Result) (d : Nat) (v : List Byte) : (s.reply k r d v).queue = s.queue := rfl
@[simp] theorem State.reply_table (s : State) (k : Byte) (r : Result) (d : Nat) (v : List Byte) : (s.reply k r d v).table = s.table := rfl
@[simp] theorem State.reply_claims (s : State) (k : Byte) (r : Result) (d : Nat) (v : List Byte) : (s.reply k r d v).claims = s.claims := rfl
@[simp] theorem State.reply_stop (s : State) (k : Byte) (r : Result) (d : Nat) (v : List Byte) : (s.reply k r d v).stop = s.stop := rfl
@[simp] theorem State.reply_bank (s : State) (k : Byte) (r : Result) (d : Nat) (v : List Byte) : (s.reply k r d v).bank = s.bank := rfl
@[simp] theorem State.reply_plan (s : State) (k : Byte) (r : Result) (d : Nat) (v : List Byte) : (s.reply k r d v).plan = s.plan := rfl
@[simp] theorem State.reply_machine (s : State) (k : Byte) (r : Result) (d : Nat) (v : List Byte) : (s.reply k r d v).machine = s.machine := rfl
@[simp] theorem State.reply_car (s : State) (k : Byte) (r : Result) (d : Nat) (v : List Byte) : (s.reply k r d v).car = s.car := rfl
@[simp] theorem State.reply_out (s : State) (k : Byte) (r : Result) (d : Nat) (v : List Byte) : (s.reply k r d v).out = s.out := rfl
@[simp] theorem State.reply_port (s : State) (k : Byte) (r : Result) (d : Nat) (v : List Byte) : (s.reply k r d v).port = s.port.offerReply ⟨k + 0x80#8, r, d, v⟩ := rfl
@[simp] theorem State.reply_free (s : State) (k : Byte) (r : Result) (d : Nat) (v : List Byte) : (s.reply k r d v).free = s.free := rfl
@[simp] theorem State.reply_pending (s : State) (k : Byte) (r : Result) (d : Nat) (v : List Byte) : (s.reply k r d v).pending = s.pending := rfl

@[simp] theorem State.reportIf_straps (s : State) (b : Bool) (r : Report) : (s.reportIf b r).straps = s.straps := by cases b <;> rfl
@[simp] theorem State.reportIf_config (s : State) (b : Bool) (r : Report) : (s.reportIf b r).config = s.config := by cases b <;> rfl
@[simp] theorem State.reportIf_staged (s : State) (b : Bool) (r : Report) : (s.reportIf b r).staged = s.staged := by cases b <;> rfl
@[simp] theorem State.reportIf_life (s : State) (b : Bool) (r : Report) : (s.reportIf b r).life = s.life := by cases b <;> rfl
@[simp] theorem State.reportIf_time (s : State) (b : Bool) (r : Report) : (s.reportIf b r).time = s.time := by cases b <;> rfl
@[simp] theorem State.reportIf_line (s : State) (b : Bool) (r : Report) : (s.reportIf b r).line = s.line := by cases b <;> rfl
@[simp] theorem State.reportIf_queue (s : State) (b : Bool) (r : Report) : (s.reportIf b r).queue = s.queue := by cases b <;> rfl
@[simp] theorem State.reportIf_table (s : State) (b : Bool) (r : Report) : (s.reportIf b r).table = s.table := by cases b <;> rfl
@[simp] theorem State.reportIf_claims (s : State) (b : Bool) (r : Report) : (s.reportIf b r).claims = s.claims := by cases b <;> rfl
@[simp] theorem State.reportIf_stop (s : State) (b : Bool) (r : Report) : (s.reportIf b r).stop = s.stop := by cases b <;> rfl
@[simp] theorem State.reportIf_bank (s : State) (b : Bool) (r : Report) : (s.reportIf b r).bank = s.bank := by cases b <;> rfl
@[simp] theorem State.reportIf_plan (s : State) (b : Bool) (r : Report) : (s.reportIf b r).plan = s.plan := by cases b <;> rfl
@[simp] theorem State.reportIf_machine (s : State) (b : Bool) (r : Report) : (s.reportIf b r).machine = s.machine := by cases b <;> rfl
@[simp] theorem State.reportIf_car (s : State) (b : Bool) (r : Report) : (s.reportIf b r).car = s.car := by cases b <;> rfl
@[simp] theorem State.reportIf_out (s : State) (b : Bool) (r : Report) : (s.reportIf b r).out = s.out := by cases b <;> rfl
@[simp] theorem State.reportIf_port (s : State) (b : Bool) (r : Report) : (s.reportIf b r).port = if b then s.port.offerReport r else s.port := by cases b <;> rfl
@[simp] theorem State.reportIf_free (s : State) (b : Bool) (r : Report) : (s.reportIf b r).free = s.free := by cases b <;> rfl
@[simp] theorem State.reportIf_pending (s : State) (b : Bool) (r : Report) : (s.reportIf b r).pending = s.pending := by cases b <;> rfl

@[simp] theorem State.answer_straps (s : State) (r : Result) (d : Nat) (v : List Byte) : (s.answer r d v).straps = s.straps := by unfold State.answer; split <;> rfl
@[simp] theorem State.answer_config (s : State) (r : Result) (d : Nat) (v : List Byte) : (s.answer r d v).config = s.config := by unfold State.answer; split <;> rfl
@[simp] theorem State.answer_staged (s : State) (r : Result) (d : Nat) (v : List Byte) : (s.answer r d v).staged = s.staged := by unfold State.answer; split <;> rfl
@[simp] theorem State.answer_life (s : State) (r : Result) (d : Nat) (v : List Byte) : (s.answer r d v).life = s.life := by unfold State.answer; split <;> rfl
@[simp] theorem State.answer_time (s : State) (r : Result) (d : Nat) (v : List Byte) : (s.answer r d v).time = s.time := by unfold State.answer; split <;> rfl
@[simp] theorem State.answer_line (s : State) (r : Result) (d : Nat) (v : List Byte) : (s.answer r d v).line = s.line := by unfold State.answer; split <;> rfl
@[simp] theorem State.answer_queue (s : State) (r : Result) (d : Nat) (v : List Byte) : (s.answer r d v).queue = s.queue := by unfold State.answer; split <;> rfl
@[simp] theorem State.answer_table (s : State) (r : Result) (d : Nat) (v : List Byte) : (s.answer r d v).table = s.table := by unfold State.answer; split <;> rfl
@[simp] theorem State.answer_claims (s : State) (r : Result) (d : Nat) (v : List Byte) : (s.answer r d v).claims = s.claims := by unfold State.answer; split <;> rfl
@[simp] theorem State.answer_stop (s : State) (r : Result) (d : Nat) (v : List Byte) : (s.answer r d v).stop = s.stop := by unfold State.answer; split <;> rfl
@[simp] theorem State.answer_bank (s : State) (r : Result) (d : Nat) (v : List Byte) : (s.answer r d v).bank = s.bank := by unfold State.answer; split <;> rfl
@[simp] theorem State.answer_plan (s : State) (r : Result) (d : Nat) (v : List Byte) : (s.answer r d v).plan = s.plan := by unfold State.answer; split <;> rfl
@[simp] theorem State.answer_machine (s : State) (r : Result) (d : Nat) (v : List Byte) : (s.answer r d v).machine = s.machine := by unfold State.answer; split <;> rfl
@[simp] theorem State.answer_car (s : State) (r : Result) (d : Nat) (v : List Byte) : (s.answer r d v).car = s.car := by unfold State.answer; split <;> rfl
@[simp] theorem State.answer_out (s : State) (r : Result) (d : Nat) (v : List Byte) : (s.answer r d v).out = s.out := by unfold State.answer; split <;> rfl
@[simp] theorem State.answer_free (s : State) (r : Result) (d : Nat) (v : List Byte) : (s.answer r d v).free = s.free := by unfold State.answer; split <;> rfl
@[simp] theorem State.answer_pending (s : State) (r : Result) (d : Nat) (v : List Byte) : (s.answer r d v).pending = s.pending := by unfold State.answer; split <;> rfl

/-- An answer takes the command at the head from the buffer and offers its reply (R179, R180). -/
@[simp] theorem State.answer_port (s : State) (r : Result) (d : Nat) (v : List Byte) : (s.answer r d v).port = s.port.answered r d v := by
  unfold State.answer Port.answered; split <;> simp_all

/-- Reports offered one after another change the port only. -/
theorem State.reportAll_eq (s : State) (rs : List Report) : s.reportAll rs = s.withPort (rs.foldl Port.offerReport s.port) := by
  induction rs generalizing s with
  | nil => rfl
  | cons r rs ih => exact ih (s.report r)

@[simp] theorem State.reportAll_straps (s : State) (rs : List Report) : (s.reportAll rs).straps = s.straps := by rw [State.reportAll_eq]; rfl
@[simp] theorem State.reportAll_config (s : State) (rs : List Report) : (s.reportAll rs).config = s.config := by rw [State.reportAll_eq]; rfl
@[simp] theorem State.reportAll_staged (s : State) (rs : List Report) : (s.reportAll rs).staged = s.staged := by rw [State.reportAll_eq]; rfl
@[simp] theorem State.reportAll_life (s : State) (rs : List Report) : (s.reportAll rs).life = s.life := by rw [State.reportAll_eq]; rfl
@[simp] theorem State.reportAll_time (s : State) (rs : List Report) : (s.reportAll rs).time = s.time := by rw [State.reportAll_eq]; rfl
@[simp] theorem State.reportAll_line (s : State) (rs : List Report) : (s.reportAll rs).line = s.line := by rw [State.reportAll_eq]; rfl
@[simp] theorem State.reportAll_queue (s : State) (rs : List Report) : (s.reportAll rs).queue = s.queue := by rw [State.reportAll_eq]; rfl
@[simp] theorem State.reportAll_table (s : State) (rs : List Report) : (s.reportAll rs).table = s.table := by rw [State.reportAll_eq]; rfl
@[simp] theorem State.reportAll_claims (s : State) (rs : List Report) : (s.reportAll rs).claims = s.claims := by rw [State.reportAll_eq]; rfl
@[simp] theorem State.reportAll_stop (s : State) (rs : List Report) : (s.reportAll rs).stop = s.stop := by rw [State.reportAll_eq]; rfl
@[simp] theorem State.reportAll_bank (s : State) (rs : List Report) : (s.reportAll rs).bank = s.bank := by rw [State.reportAll_eq]; rfl
@[simp] theorem State.reportAll_plan (s : State) (rs : List Report) : (s.reportAll rs).plan = s.plan := by rw [State.reportAll_eq]; rfl
@[simp] theorem State.reportAll_machine (s : State) (rs : List Report) : (s.reportAll rs).machine = s.machine := by rw [State.reportAll_eq]; rfl
@[simp] theorem State.reportAll_car (s : State) (rs : List Report) : (s.reportAll rs).car = s.car := by rw [State.reportAll_eq]; rfl
@[simp] theorem State.reportAll_out (s : State) (rs : List Report) : (s.reportAll rs).out = s.out := by rw [State.reportAll_eq]; rfl
@[simp] theorem State.reportAll_port (s : State) (rs : List Report) : (s.reportAll rs).port = rs.foldl Port.offerReport s.port := by rw [State.reportAll_eq]; rfl
@[simp] theorem State.reportAll_free (s : State) (rs : List Report) : (s.reportAll rs).free = s.free := by rw [State.reportAll_eq]; rfl
@[simp] theorem State.reportAll_pending (s : State) (rs : List Report) : (s.reportAll rs).pending = s.pending := by rw [State.reportAll_eq]; rfl

/-! ## The send queue -/

@[simp] theorem State.withdraw_straps (s : State) (p : Body → Bool) : (s.withdraw p).straps = s.straps := rfl
@[simp] theorem State.withdraw_config (s : State) (p : Body → Bool) : (s.withdraw p).config = s.config := rfl
@[simp] theorem State.withdraw_staged (s : State) (p : Body → Bool) : (s.withdraw p).staged = s.staged := rfl
@[simp] theorem State.withdraw_life (s : State) (p : Body → Bool) : (s.withdraw p).life = s.life := rfl
@[simp] theorem State.withdraw_time (s : State) (p : Body → Bool) : (s.withdraw p).time = s.time := rfl
@[simp] theorem State.withdraw_line (s : State) (p : Body → Bool) : (s.withdraw p).line = s.line := rfl
@[simp] theorem State.withdraw_queue (s : State) (p : Body → Bool) : (s.withdraw p).queue = s.queue.filter fun e => e.inFlight || !p e.body := rfl
@[simp] theorem State.withdraw_table (s : State) (p : Body → Bool) : (s.withdraw p).table = s.table := rfl
@[simp] theorem State.withdraw_claims (s : State) (p : Body → Bool) : (s.withdraw p).claims = s.claims := rfl
@[simp] theorem State.withdraw_stop (s : State) (p : Body → Bool) : (s.withdraw p).stop = s.stop := rfl
@[simp] theorem State.withdraw_bank (s : State) (p : Body → Bool) : (s.withdraw p).bank = s.bank := rfl
@[simp] theorem State.withdraw_plan (s : State) (p : Body → Bool) : (s.withdraw p).plan = s.plan := rfl
@[simp] theorem State.withdraw_machine (s : State) (p : Body → Bool) : (s.withdraw p).machine = s.machine := rfl
@[simp] theorem State.withdraw_car (s : State) (p : Body → Bool) : (s.withdraw p).car = s.car := rfl
@[simp] theorem State.withdraw_out (s : State) (p : Body → Bool) : (s.withdraw p).out = s.out := rfl
@[simp] theorem State.withdraw_port (s : State) (p : Body → Bool) : (s.withdraw p).port = s.port := rfl
@[simp] theorem State.withdraw_free (s : State) (p : Body → Bool) : (s.withdraw p).free = s.free := rfl
@[simp] theorem State.withdraw_pending (s : State) (p : Body → Bool) : (s.withdraw p).pending = s.pending := rfl

@[simp] theorem State.dropInFlight_straps (s : State) : (s.dropInFlight).straps = s.straps := rfl
@[simp] theorem State.dropInFlight_config (s : State) : (s.dropInFlight).config = s.config := rfl
@[simp] theorem State.dropInFlight_staged (s : State) : (s.dropInFlight).staged = s.staged := rfl
@[simp] theorem State.dropInFlight_life (s : State) : (s.dropInFlight).life = s.life := rfl
@[simp] theorem State.dropInFlight_time (s : State) : (s.dropInFlight).time = s.time := rfl
@[simp] theorem State.dropInFlight_line (s : State) : (s.dropInFlight).line = s.line := rfl
@[simp] theorem State.dropInFlight_queue (s : State) : (s.dropInFlight).queue = s.queue.filter fun e => !e.inFlight := rfl
@[simp] theorem State.dropInFlight_table (s : State) : (s.dropInFlight).table = s.table := rfl
@[simp] theorem State.dropInFlight_claims (s : State) : (s.dropInFlight).claims = s.claims := rfl
@[simp] theorem State.dropInFlight_stop (s : State) : (s.dropInFlight).stop = s.stop := rfl
@[simp] theorem State.dropInFlight_bank (s : State) : (s.dropInFlight).bank = s.bank := rfl
@[simp] theorem State.dropInFlight_plan (s : State) : (s.dropInFlight).plan = s.plan := rfl
@[simp] theorem State.dropInFlight_machine (s : State) : (s.dropInFlight).machine = s.machine := rfl
@[simp] theorem State.dropInFlight_car (s : State) : (s.dropInFlight).car = s.car := rfl
@[simp] theorem State.dropInFlight_out (s : State) : (s.dropInFlight).out = s.out := rfl
@[simp] theorem State.dropInFlight_port (s : State) : (s.dropInFlight).port = s.port := rfl
@[simp] theorem State.dropInFlight_free (s : State) : (s.dropInFlight).free = s.free := rfl
@[simp] theorem State.dropInFlight_pending (s : State) : (s.dropInFlight).pending = s.pending := rfl

@[simp] theorem State.returnInFlight_straps (s : State) (n : Nat) : (s.returnInFlight n).straps = s.straps := rfl
@[simp] theorem State.returnInFlight_config (s : State) (n : Nat) : (s.returnInFlight n).config = s.config := rfl
@[simp] theorem State.returnInFlight_staged (s : State) (n : Nat) : (s.returnInFlight n).staged = s.staged := rfl
@[simp] theorem State.returnInFlight_life (s : State) (n : Nat) : (s.returnInFlight n).life = s.life := rfl
@[simp] theorem State.returnInFlight_time (s : State) (n : Nat) : (s.returnInFlight n).time = s.time := rfl
@[simp] theorem State.returnInFlight_line (s : State) (n : Nat) : (s.returnInFlight n).line = s.line := rfl
@[simp] theorem State.returnInFlight_queue (s : State) (n : Nat) : (s.returnInFlight n).queue = s.queue.map fun e => if e.inFlight then { e with inFlight := false, retries := e.retries + n } else e := rfl
@[simp] theorem State.returnInFlight_table (s : State) (n : Nat) : (s.returnInFlight n).table = s.table := rfl
@[simp] theorem State.returnInFlight_claims (s : State) (n : Nat) : (s.returnInFlight n).claims = s.claims := rfl
@[simp] theorem State.returnInFlight_stop (s : State) (n : Nat) : (s.returnInFlight n).stop = s.stop := rfl
@[simp] theorem State.returnInFlight_bank (s : State) (n : Nat) : (s.returnInFlight n).bank = s.bank := rfl
@[simp] theorem State.returnInFlight_plan (s : State) (n : Nat) : (s.returnInFlight n).plan = s.plan := rfl
@[simp] theorem State.returnInFlight_machine (s : State) (n : Nat) : (s.returnInFlight n).machine = s.machine := rfl
@[simp] theorem State.returnInFlight_car (s : State) (n : Nat) : (s.returnInFlight n).car = s.car := rfl
@[simp] theorem State.returnInFlight_out (s : State) (n : Nat) : (s.returnInFlight n).out = s.out := rfl
@[simp] theorem State.returnInFlight_port (s : State) (n : Nat) : (s.returnInFlight n).port = s.port := rfl
@[simp] theorem State.returnInFlight_free (s : State) (n : Nat) : (s.returnInFlight n).free = s.free := rfl
@[simp] theorem State.returnInFlight_pending (s : State) (n : Nat) : (s.returnInFlight n).pending = s.pending := rfl

@[simp] theorem State.offer_straps (s : State) (b : Body) (l : Bool) : (s.offer b l).straps = s.straps := by unfold State.offer; split <;> simp
@[simp] theorem State.offer_config (s : State) (b : Body) (l : Bool) : (s.offer b l).config = s.config := by unfold State.offer; split <;> simp
@[simp] theorem State.offer_staged (s : State) (b : Body) (l : Bool) : (s.offer b l).staged = s.staged := by unfold State.offer; split <;> simp
@[simp] theorem State.offer_life (s : State) (b : Body) (l : Bool) : (s.offer b l).life = s.life := by unfold State.offer; split <;> simp
@[simp] theorem State.offer_time (s : State) (b : Body) (l : Bool) : (s.offer b l).time = s.time := by unfold State.offer; split <;> simp
@[simp] theorem State.offer_line (s : State) (b : Body) (l : Bool) : (s.offer b l).line = s.line := by unfold State.offer; split <;> simp
@[simp] theorem State.offer_table (s : State) (b : Body) (l : Bool) : (s.offer b l).table = s.table := by unfold State.offer; split <;> simp
@[simp] theorem State.offer_claims (s : State) (b : Body) (l : Bool) : (s.offer b l).claims = s.claims := by unfold State.offer; split <;> simp
@[simp] theorem State.offer_stop (s : State) (b : Body) (l : Bool) : (s.offer b l).stop = s.stop := by unfold State.offer; split <;> simp
@[simp] theorem State.offer_bank (s : State) (b : Body) (l : Bool) : (s.offer b l).bank = s.bank := by unfold State.offer; split <;> simp
@[simp] theorem State.offer_plan (s : State) (b : Body) (l : Bool) : (s.offer b l).plan = s.plan := by unfold State.offer; split <;> simp
@[simp] theorem State.offer_machine (s : State) (b : Body) (l : Bool) : (s.offer b l).machine = s.machine := by unfold State.offer; split <;> simp
@[simp] theorem State.offer_car (s : State) (b : Body) (l : Bool) : (s.offer b l).car = s.car := by unfold State.offer; split <;> simp
@[simp] theorem State.offer_out (s : State) (b : Body) (l : Bool) : (s.offer b l).out = s.out := by unfold State.offer; split <;> simp
@[simp] theorem State.offer_free (s : State) (b : Body) (l : Bool) : (s.offer b l).free = s.free := by unfold State.offer; split <;> simp
@[simp] theorem State.offer_pending (s : State) (b : Body) (l : Bool) : (s.offer b l).pending = s.pending := by unfold State.offer; split <;> simp

/-- The queue after an offer (R15). -/
@[simp] theorem State.offer_queue (s : State) (b : Body) (l : Bool) :
    (s.offer b l).queue = if s.accepts b then freshQueue b.kind s.queue ++ [s.newEntry b l] else s.queue := by
  unfold State.offer; split <;> simp

/-- The port after an offer (R15). -/
@[simp] theorem State.offer_port (s : State) (b : Body) (l : Bool) :
    (s.offer b l).port = if s.accepts b then s.port else if b.kind.retriable then s.port.offerReport (.frameRefused b) else s.port := by
  unfold State.offer; split <;> simp

/-! ## Outputs and the answer of a row -/

@[simp] theorem State.derive_straps (s : State) : (s.derive).straps = s.straps := rfl
@[simp] theorem State.derive_config (s : State) : (s.derive).config = s.config := rfl
@[simp] theorem State.derive_staged (s : State) : (s.derive).staged = s.staged := rfl
@[simp] theorem State.derive_life (s : State) : (s.derive).life = s.life := rfl
@[simp] theorem State.derive_time (s : State) : (s.derive).time = s.time := rfl
@[simp] theorem State.derive_line (s : State) : (s.derive).line = s.line := rfl
@[simp] theorem State.derive_queue (s : State) : (s.derive).queue = s.queue := rfl
@[simp] theorem State.derive_table (s : State) : (s.derive).table = s.table := rfl
@[simp] theorem State.derive_claims (s : State) : (s.derive).claims = s.claims := rfl
@[simp] theorem State.derive_stop (s : State) : (s.derive).stop = s.stop := rfl
@[simp] theorem State.derive_bank (s : State) : (s.derive).bank = s.bank := rfl
@[simp] theorem State.derive_plan (s : State) : (s.derive).plan = s.plan := rfl
@[simp] theorem State.derive_machine (s : State) : (s.derive).machine = s.machine := rfl
@[simp] theorem State.derive_car (s : State) : (s.derive).car = s.car := rfl
@[simp] theorem State.derive_out (s : State) : (s.derive).out = s.outputs := rfl
@[simp] theorem State.derive_port (s : State) : (s.derive).port = s.port := rfl
@[simp] theorem State.derive_free (s : State) : (s.derive).free = s.free := rfl
@[simp] theorem State.derive_pending (s : State) : (s.derive).pending = s.pending := rfl

@[simp] theorem State.event_some (s t : State) : s.event (some t) = .next t.derive := rfl
@[simp] theorem State.event_none (s : State) : s.event none = .next s := rfl
@[simp] theorem onlyIf_true (s : State) : onlyIf true s = some s := rfl
@[simp] theorem onlyIf_false (s : State) : onlyIf false s = none := rfl

@[simp] theorem State.elapse_straps (s : State) (d : Nat) : (s.elapse d).straps = s.straps := rfl
@[simp] theorem State.elapse_config (s : State) (d : Nat) : (s.elapse d).config = s.config := rfl
@[simp] theorem State.elapse_staged (s : State) (d : Nat) : (s.elapse d).staged = s.staged := rfl
@[simp] theorem State.elapse_queue (s : State) (d : Nat) : (s.elapse d).queue = s.queue := rfl
@[simp] theorem State.elapse_out (s : State) (d : Nat) : (s.elapse d).out = s.out := rfl
@[simp] theorem State.elapse_free (s : State) (d : Nat) : (s.elapse d).free = s.free := rfl
@[simp] theorem State.elapse_pending (s : State) (d : Nat) : (s.elapse d).pending = s.pending := rfl

@[simp] theorem State.elapseTo_straps (s : State) (a b : Nat) : (s.elapseTo a b).straps = s.straps := rfl
@[simp] theorem State.elapseTo_config (s : State) (a b : Nat) : (s.elapseTo a b).config = s.config := rfl
@[simp] theorem State.elapseTo_staged (s : State) (a b : Nat) : (s.elapseTo a b).staged = s.staged := rfl
@[simp] theorem State.elapseTo_queue (s : State) (a b : Nat) : (s.elapseTo a b).queue = s.queue := rfl
@[simp] theorem State.elapseTo_out (s : State) (a b : Nat) : (s.elapseTo a b).out = s.out := rfl
@[simp] theorem State.elapseTo_free (s : State) (a b : Nat) : (s.elapseTo a b).free = s.free := rfl
@[simp] theorem State.elapseTo_pending (s : State) (a b : Nat) : (s.elapseTo a b).pending = s.pending := rfl

end Sys2Proof.Machine
end

