-- ==== Sys2Proof/Laws/Keeps.lean ====
section
/-! SUPPORT. What each shared operation leaves alone: one lemma for each, with every field that the operation does not touch. -/

namespace Sys2Proof.Machine

/-- A property of the state that every step of a fold keeps is kept by the fold. -/
theorem foldl_keeps {α β : Type} (g : State → α) (f : State → β → State) (h : ∀ s x, g (f s x) = g s) (l : List β) (s : State) :
    g (l.foldl f s) = g s := by
  induction l generalizing s with
  | nil => rfl
  | cons x l ih => rw [List.foldl_cons, ih, h]

/-! ## Oven unit -/

@[simp] theorem State.putOven_keeps (s : State) (i : Nat) (o : Oven) :
    (s.putOven i o).straps = s.straps ∧ (s.putOven i o).config = s.config ∧ (s.putOven i o).staged = s.staged ∧ (s.putOven i
      o).life = s.life ∧ (s.putOven i o).time = s.time ∧ (s.putOven i o).line = s.line ∧ (s.putOven i o).queue = s.queue ∧
      (s.putOven i o).table = s.table ∧ (s.putOven i o).claims = s.claims ∧ (s.putOven i o).stop = s.stop ∧ (s.putOven i
      o).plan = s.plan ∧ (s.putOven i o).machine = s.machine ∧ (s.putOven i o).car = s.car ∧ (s.putOven i o).out = s.out ∧
      (s.putOven i o).free = s.free ∧ (s.putOven i o).pending = s.pending := by
  unfold State.putOven
  repeat' (first | split | dsimp only)
  all_goals simp

@[simp] theorem State.reportOven_keeps (s : State) (i : Nat) (b : OvenState) :
    (s.reportOven i b).straps = s.straps ∧ (s.reportOven i b).config = s.config ∧ (s.reportOven i b).staged = s.staged ∧
      (s.reportOven i b).life = s.life ∧ (s.reportOven i b).time = s.time ∧ (s.reportOven i b).line = s.line ∧ (s.reportOven i
      b).queue = s.queue ∧ (s.reportOven i b).table = s.table ∧ (s.reportOven i b).claims = s.claims ∧ (s.reportOven i b).stop
      = s.stop ∧ (s.reportOven i b).bank = s.bank ∧ (s.reportOven i b).plan = s.plan ∧ (s.reportOven i b).machine = s.machine
      ∧ (s.reportOven i b).car = s.car ∧ (s.reportOven i b).out = s.out ∧ (s.reportOven i b).free = s.free ∧ (s.reportOven i
      b).pending = s.pending := by
  unfold State.reportOven
  repeat' (first | split | dsimp only)
  all_goals simp

@[simp] theorem State.reportOvenUnchanged_keeps (s : State) (i : Nat) :
    (s.reportOvenUnchanged i).straps = s.straps ∧ (s.reportOvenUnchanged i).config = s.config ∧ (s.reportOvenUnchanged
      i).staged = s.staged ∧ (s.reportOvenUnchanged i).life = s.life ∧ (s.reportOvenUnchanged i).time = s.time ∧
      (s.reportOvenUnchanged i).line = s.line ∧ (s.reportOvenUnchanged i).queue = s.queue ∧ (s.reportOvenUnchanged i).table =
      s.table ∧ (s.reportOvenUnchanged i).claims = s.claims ∧ (s.reportOvenUnchanged i).stop = s.stop ∧ (s.reportOvenUnchanged
      i).bank = s.bank ∧ (s.reportOvenUnchanged i).plan = s.plan ∧ (s.reportOvenUnchanged i).machine = s.machine ∧
      (s.reportOvenUnchanged i).car = s.car ∧ (s.reportOvenUnchanged i).out = s.out ∧ (s.reportOvenUnchanged i).free = s.free
      ∧ (s.reportOvenUnchanged i).pending = s.pending := by
  unfold State.reportOvenUnchanged
  repeat' (first | split | dsimp only)
  all_goals simp

@[simp] theorem State.enterOven_keeps (s : State) (i : Nat) (n : OvenState) :
    (s.enterOven i n).straps = s.straps ∧ (s.enterOven i n).config = s.config ∧ (s.enterOven i n).staged = s.staged ∧
      (s.enterOven i n).life = s.life ∧ (s.enterOven i n).time = s.time ∧ (s.enterOven i n).line = s.line ∧ (s.enterOven i
      n).queue = s.queue ∧ (s.enterOven i n).table = s.table ∧ (s.enterOven i n).claims = s.claims ∧ (s.enterOven i n).stop =
      s.stop ∧ (s.enterOven i n).plan = s.plan ∧ (s.enterOven i n).machine = s.machine ∧ (s.enterOven i n).car = s.car ∧
      (s.enterOven i n).out = s.out ∧ (s.enterOven i n).free = s.free ∧ (s.enterOven i n).pending = s.pending := by
  unfold State.enterOven
  repeat' (first | split | dsimp only)
  all_goals simp

@[simp] theorem State.tickOven_keeps (s : State) (p : BankPart0) (i : Nat) :
    (State.tickOven p s i).straps = s.straps ∧ (State.tickOven p s i).config = s.config ∧ (State.tickOven p s i).staged =
      s.staged ∧ (State.tickOven p s i).life = s.life ∧ (State.tickOven p s i).time = s.time ∧ (State.tickOven p s i).line =
      s.line ∧ (State.tickOven p s i).queue = s.queue ∧ (State.tickOven p s i).table = s.table ∧ (State.tickOven p s i).claims
      = s.claims ∧ (State.tickOven p s i).stop = s.stop ∧ (State.tickOven p s i).plan = s.plan ∧ (State.tickOven p s
      i).machine = s.machine ∧ (State.tickOven p s i).car = s.car ∧ (State.tickOven p s i).out = s.out ∧ (State.tickOven p s
      i).free = s.free ∧ (State.tickOven p s i).pending = s.pending := by
  unfold State.tickOven
  repeat' (first | split | dsimp only)
  all_goals simp

/-! ## Announce -/

@[simp] theorem State.offerAnnounce_keeps (s : State) :
    (s.offerAnnounce).straps = s.straps ∧ (s.offerAnnounce).config = s.config ∧ (s.offerAnnounce).staged = s.staged ∧
      (s.offerAnnounce).time = s.time ∧ (s.offerAnnounce).line = s.line ∧ (s.offerAnnounce).table = s.table ∧
      (s.offerAnnounce).claims = s.claims ∧ (s.offerAnnounce).stop = s.stop ∧ (s.offerAnnounce).bank = s.bank ∧
      (s.offerAnnounce).plan = s.plan ∧ (s.offerAnnounce).machine = s.machine ∧ (s.offerAnnounce).car = s.car ∧
      (s.offerAnnounce).out = s.out ∧ (s.offerAnnounce).free = s.free ∧ (s.offerAnnounce).pending = s.pending := by
  unfold State.offerAnnounce
  repeat' (first | split | dsimp only)
  all_goals simp

/-! ## Regulator -/

@[simp] theorem State.offerIsolated_keeps (s : State) (i : Nat) :
    (s.offerIsolated i).straps = s.straps ∧ (s.offerIsolated i).config = s.config ∧ (s.offerIsolated i).staged = s.staged ∧
      (s.offerIsolated i).life = s.life ∧ (s.offerIsolated i).time = s.time ∧ (s.offerIsolated i).line = s.line ∧
      (s.offerIsolated i).table = s.table ∧ (s.offerIsolated i).claims = s.claims ∧ (s.offerIsolated i).stop = s.stop ∧
      (s.offerIsolated i).plan = s.plan ∧ (s.offerIsolated i).machine = s.machine ∧ (s.offerIsolated i).car = s.car ∧
      (s.offerIsolated i).out = s.out ∧ (s.offerIsolated i).free = s.free ∧ (s.offerIsolated i).pending = s.pending := by
  unfold State.offerIsolated
  repeat' (first | split | dsimp only)
  all_goals simp

@[simp] theorem State.offerOwed_keeps (s : State) (i : Nat) :
    (s.offerOwed i).straps = s.straps ∧ (s.offerOwed i).config = s.config ∧ (s.offerOwed i).staged = s.staged ∧ (s.offerOwed
      i).life = s.life ∧ (s.offerOwed i).time = s.time ∧ (s.offerOwed i).line = s.line ∧ (s.offerOwed i).table = s.table ∧
      (s.offerOwed i).claims = s.claims ∧ (s.offerOwed i).stop = s.stop ∧ (s.offerOwed i).plan = s.plan ∧ (s.offerOwed
      i).machine = s.machine ∧ (s.offerOwed i).car = s.car ∧ (s.offerOwed i).out = s.out ∧ (s.offerOwed i).free = s.free ∧
      (s.offerOwed i).pending = s.pending := by
  unfold State.offerOwed
  repeat' (first | split | dsimp only)
  all_goals simp

@[simp] theorem State.regulatorStep_keeps (s : State) (i : Nat) (x : Sample) :
    (s.regulatorStep i x).straps = s.straps ∧ (s.regulatorStep i x).config = s.config ∧ (s.regulatorStep i x).staged =
      s.staged ∧ (s.regulatorStep i x).life = s.life ∧ (s.regulatorStep i x).time = s.time ∧ (s.regulatorStep i x).line =
      s.line ∧ (s.regulatorStep i x).table = s.table ∧ (s.regulatorStep i x).claims = s.claims ∧ (s.regulatorStep i x).stop =
      s.stop ∧ (s.regulatorStep i x).plan = s.plan ∧ (s.regulatorStep i x).machine = s.machine ∧ (s.regulatorStep i x).car =
      s.car ∧ (s.regulatorStep i x).out = s.out ∧ (s.regulatorStep i x).free = s.free ∧ (s.regulatorStep i x).pending =
      s.pending := by
  unfold State.regulatorStep
  repeat' (first | split | dsimp only)
  all_goals simp

/-! ## Door monitor -/

@[simp] theorem State.changeDoor_keeps (s : State) (d : Nat) (f : Door → Door) :
    (s.changeDoor d f).straps = s.straps ∧ (s.changeDoor d f).config = s.config ∧ (s.changeDoor d f).staged = s.staged ∧
      (s.changeDoor d f).life = s.life ∧ (s.changeDoor d f).time = s.time ∧ (s.changeDoor d f).line = s.line ∧ (s.changeDoor d
      f).queue = s.queue ∧ (s.changeDoor d f).table = s.table ∧ (s.changeDoor d f).claims = s.claims ∧ (s.changeDoor d f).stop
      = s.stop ∧ (s.changeDoor d f).plan = s.plan ∧ (s.changeDoor d f).machine = s.machine ∧ (s.changeDoor d f).car = s.car ∧
      (s.changeDoor d f).out = s.out ∧ (s.changeDoor d f).free = s.free ∧ (s.changeDoor d f).pending = s.pending := by
  unfold State.changeDoor
  repeat' (first | split | dsimp only)
  all_goals simp

@[simp] theorem State.seatDoor_keeps (s : State) (d : Nat) :
    (s.seatDoor d).straps = s.straps ∧ (s.seatDoor d).config = s.config ∧ (s.seatDoor d).staged = s.staged ∧ (s.seatDoor
      d).life = s.life ∧ (s.seatDoor d).time = s.time ∧ (s.seatDoor d).line = s.line ∧ (s.seatDoor d).queue = s.queue ∧
      (s.seatDoor d).table = s.table ∧ (s.seatDoor d).claims = s.claims ∧ (s.seatDoor d).stop = s.stop ∧ (s.seatDoor d).plan =
      s.plan ∧ (s.seatDoor d).machine = s.machine ∧ (s.seatDoor d).car = s.car ∧ (s.seatDoor d).out = s.out ∧ (s.seatDoor
      d).free = s.free ∧ (s.seatDoor d).pending = s.pending := by
  unfold State.seatDoor
  repeat' (first | split | dsimp only)
  all_goals simp

@[simp] theorem State.seatDoors_keeps (s : State) (i : Nat) :
    (s.seatDoors i).straps = s.straps ∧ (s.seatDoors i).config = s.config ∧ (s.seatDoors i).staged = s.staged ∧ (s.seatDoors
      i).life = s.life ∧ (s.seatDoors i).time = s.time ∧ (s.seatDoors i).line = s.line ∧ (s.seatDoors i).queue = s.queue ∧
      (s.seatDoors i).table = s.table ∧ (s.seatDoors i).claims = s.claims ∧ (s.seatDoors i).stop = s.stop ∧ (s.seatDoors
      i).plan = s.plan ∧ (s.seatDoors i).machine = s.machine ∧ (s.seatDoors i).car = s.car ∧ (s.seatDoors i).out = s.out ∧
      (s.seatDoors i).free = s.free ∧ (s.seatDoors i).pending = s.pending := by
  unfold State.seatDoors
  all_goals simp

@[simp] theorem State.endWatches_keeps (s : State) (i : Nat) :
    (s.endWatches i).straps = s.straps ∧ (s.endWatches i).config = s.config ∧ (s.endWatches i).staged = s.staged ∧
      (s.endWatches i).life = s.life ∧ (s.endWatches i).time = s.time ∧ (s.endWatches i).line = s.line ∧ (s.endWatches
      i).queue = s.queue ∧ (s.endWatches i).table = s.table ∧ (s.endWatches i).claims = s.claims ∧ (s.endWatches i).stop =
      s.stop ∧ (s.endWatches i).plan = s.plan ∧ (s.endWatches i).machine = s.machine ∧ (s.endWatches i).car = s.car ∧
      (s.endWatches i).out = s.out ∧ (s.endWatches i).free = s.free ∧ (s.endWatches i).pending = s.pending := by
  unfold State.endWatches
  all_goals simp

@[simp] theorem State.heldLatch_keeps (s : State) (i : Nat) (l : Latch) :
    (s.heldLatch i l).straps = s.straps ∧ (s.heldLatch i l).config = s.config ∧ (s.heldLatch i l).staged = s.staged ∧
      (s.heldLatch i l).life = s.life ∧ (s.heldLatch i l).time = s.time ∧ (s.heldLatch i l).line = s.line ∧ (s.heldLatch i
      l).queue = s.queue ∧ (s.heldLatch i l).table = s.table ∧ (s.heldLatch i l).claims = s.claims ∧ (s.heldLatch i l).stop =
      s.stop ∧ (s.heldLatch i l).plan = s.plan ∧ (s.heldLatch i l).machine = s.machine ∧ (s.heldLatch i l).car = s.car ∧
      (s.heldLatch i l).out = s.out ∧ (s.heldLatch i l).port = s.port ∧ (s.heldLatch i l).free = s.free ∧ (s.heldLatch i
      l).pending = s.pending := by
  unfold State.heldLatch
  repeat' (first | split | dsimp only)
  all_goals simp

@[simp] theorem State.freeLatch_keeps (s : State) (d : Nat) :
    (s.freeLatch d).straps = s.straps ∧ (s.freeLatch d).config = s.config ∧ (s.freeLatch d).staged = s.staged ∧ (s.freeLatch
      d).life = s.life ∧ (s.freeLatch d).time = s.time ∧ (s.freeLatch d).line = s.line ∧ (s.freeLatch d).queue = s.queue ∧
      (s.freeLatch d).table = s.table ∧ (s.freeLatch d).claims = s.claims ∧ (s.freeLatch d).stop = s.stop ∧ (s.freeLatch
      d).plan = s.plan ∧ (s.freeLatch d).machine = s.machine ∧ (s.freeLatch d).car = s.car ∧ (s.freeLatch d).out = s.out ∧
      (s.freeLatch d).free = s.free ∧ (s.freeLatch d).pending = s.pending := by
  unfold State.freeLatch
  repeat' (first | split | dsimp only)
  all_goals simp

@[simp] theorem State.freeOven_keeps (s : State) (i : Nat) :
    (s.freeOven i).straps = s.straps ∧ (s.freeOven i).config = s.config ∧ (s.freeOven i).staged = s.staged ∧ (s.freeOven
      i).life = s.life ∧ (s.freeOven i).time = s.time ∧ (s.freeOven i).line = s.line ∧ (s.freeOven i).queue = s.queue ∧
      (s.freeOven i).table = s.table ∧ (s.freeOven i).claims = s.claims ∧ (s.freeOven i).stop = s.stop ∧ (s.freeOven i).plan =
      s.plan ∧ (s.freeOven i).machine = s.machine ∧ (s.freeOven i).car = s.car ∧ (s.freeOven i).out = s.out ∧ (s.freeOven
      i).free = s.free ∧ (s.freeOven i).pending = s.pending := by
  unfold State.freeOven
  all_goals simp

@[simp] theorem State.callReseal_keeps (s : State) (d : Nat) :
    (s.callReseal d).straps = s.straps ∧ (s.callReseal d).config = s.config ∧ (s.callReseal d).staged = s.staged ∧
      (s.callReseal d).life = s.life ∧ (s.callReseal d).time = s.time ∧ (s.callReseal d).line = s.line ∧ (s.callReseal
      d).table = s.table ∧ (s.callReseal d).claims = s.claims ∧ (s.callReseal d).stop = s.stop ∧ (s.callReseal d).plan =
      s.plan ∧ (s.callReseal d).machine = s.machine ∧ (s.callReseal d).car = s.car ∧ (s.callReseal d).out = s.out ∧
      (s.callReseal d).free = s.free ∧ (s.callReseal d).pending = s.pending := by
  unfold State.callReseal
  all_goals simp

/-! ## Plan unit -/

@[simp] theorem State.makeChoice_keeps (s : State) :
    (s.makeChoice).straps = s.straps ∧ (s.makeChoice).config = s.config ∧ (s.makeChoice).staged = s.staged ∧
      (s.makeChoice).life = s.life ∧ (s.makeChoice).time = s.time ∧ (s.makeChoice).line = s.line ∧ (s.makeChoice).queue =
      s.queue ∧ (s.makeChoice).table = s.table ∧ (s.makeChoice).claims = s.claims ∧ (s.makeChoice).stop = s.stop ∧
      (s.makeChoice).bank = s.bank ∧ (s.makeChoice).machine = s.machine ∧ (s.makeChoice).car = s.car ∧ (s.makeChoice).out =
      s.out ∧ (s.makeChoice).port = s.port ∧ (s.makeChoice).free = s.free ∧ (s.makeChoice).pending = s.pending := by
  unfold State.makeChoice
  repeat' (first | split | dsimp only)
  all_goals simp

/-! ## Car unit -/

@[simp] theorem State.compareReady_keeps (s : State) :
    (s.compareReady).straps = s.straps ∧ (s.compareReady).config = s.config ∧ (s.compareReady).staged = s.staged ∧
      (s.compareReady).life = s.life ∧ (s.compareReady).time = s.time ∧ (s.compareReady).line = s.line ∧
      (s.compareReady).table = s.table ∧ (s.compareReady).claims = s.claims ∧ (s.compareReady).stop = s.stop ∧
      (s.compareReady).bank = s.bank ∧ (s.compareReady).plan = s.plan ∧ (s.compareReady).machine = s.machine ∧
      (s.compareReady).out = s.out ∧ (s.compareReady).free = s.free ∧ (s.compareReady).pending = s.pending := by
  unfold State.compareReady
  repeat' (first | split | dsimp only)
  all_goals simp

@[simp] theorem State.carFaults_keeps (s : State) :
    (s.carFaults).straps = s.straps ∧ (s.carFaults).config = s.config ∧ (s.carFaults).staged = s.staged ∧ (s.carFaults).life =
      s.life ∧ (s.carFaults).time = s.time ∧ (s.carFaults).line = s.line ∧ (s.carFaults).queue = s.queue ∧ (s.carFaults).table
      = s.table ∧ (s.carFaults).claims = s.claims ∧ (s.carFaults).stop = s.stop ∧ (s.carFaults).bank = s.bank ∧
      (s.carFaults).plan = s.plan ∧ (s.carFaults).machine = s.machine ∧ (s.carFaults).out = s.out ∧ (s.carFaults).free =
      s.free ∧ (s.carFaults).pending = s.pending := by
  unfold State.carFaults
  all_goals simp

@[simp] theorem State.offerCarAbandon_keeps (s : State) :
    (s.offerCarAbandon).straps = s.straps ∧ (s.offerCarAbandon).config = s.config ∧ (s.offerCarAbandon).staged = s.staged ∧
      (s.offerCarAbandon).life = s.life ∧ (s.offerCarAbandon).time = s.time ∧ (s.offerCarAbandon).line = s.line ∧
      (s.offerCarAbandon).table = s.table ∧ (s.offerCarAbandon).claims = s.claims ∧ (s.offerCarAbandon).stop = s.stop ∧
      (s.offerCarAbandon).bank = s.bank ∧ (s.offerCarAbandon).plan = s.plan ∧ (s.offerCarAbandon).machine = s.machine ∧
      (s.offerCarAbandon).car = s.car ∧ (s.offerCarAbandon).out = s.out ∧ (s.offerCarAbandon).free = s.free ∧
      (s.offerCarAbandon).pending = s.pending := by
  unfold State.offerCarAbandon
  repeat' (first | split | dsimp only)
  all_goals simp

@[simp] theorem State.carDisplacedOut_keeps (s : State) :
    (s.carDisplacedOut).straps = s.straps ∧ (s.carDisplacedOut).config = s.config ∧ (s.carDisplacedOut).staged = s.staged ∧
      (s.carDisplacedOut).life = s.life ∧ (s.carDisplacedOut).time = s.time ∧ (s.carDisplacedOut).line = s.line ∧
      (s.carDisplacedOut).table = s.table ∧ (s.carDisplacedOut).claims = s.claims ∧ (s.carDisplacedOut).stop = s.stop ∧
      (s.carDisplacedOut).bank = s.bank ∧ (s.carDisplacedOut).plan = s.plan ∧ (s.carDisplacedOut).machine = s.machine ∧
      (s.carDisplacedOut).out = s.out ∧ (s.carDisplacedOut).free = s.free ∧ (s.carDisplacedOut).pending = s.pending := by
  unfold State.carDisplacedOut
  all_goals simp

@[simp] theorem State.carRamOut_keeps (s : State) (n : Nat) :
    (s.carRamOut n).straps = s.straps ∧ (s.carRamOut n).config = s.config ∧ (s.carRamOut n).staged = s.staged ∧ (s.carRamOut
      n).life = s.life ∧ (s.carRamOut n).time = s.time ∧ (s.carRamOut n).line = s.line ∧ (s.carRamOut n).table = s.table ∧
      (s.carRamOut n).claims = s.claims ∧ (s.carRamOut n).stop = s.stop ∧ (s.carRamOut n).bank = s.bank ∧ (s.carRamOut n).plan
      = s.plan ∧ (s.carRamOut n).machine = s.machine ∧ (s.carRamOut n).out = s.out ∧ (s.carRamOut n).free = s.free ∧
      (s.carRamOut n).pending = s.pending := by
  unfold State.carRamOut
  repeat' (first | split | dsimp only)
  all_goals simp

@[simp] theorem State.carLoadedTaken_keeps (s : State) :
    (s.carLoadedTaken).straps = s.straps ∧ (s.carLoadedTaken).config = s.config ∧ (s.carLoadedTaken).staged = s.staged ∧
      (s.carLoadedTaken).life = s.life ∧ (s.carLoadedTaken).time = s.time ∧ (s.carLoadedTaken).line = s.line ∧
      (s.carLoadedTaken).queue = s.queue ∧ (s.carLoadedTaken).table = s.table ∧ (s.carLoadedTaken).claims = s.claims ∧
      (s.carLoadedTaken).stop = s.stop ∧ (s.carLoadedTaken).bank = s.bank ∧ (s.carLoadedTaken).plan = s.plan ∧
      (s.carLoadedTaken).machine = s.machine ∧ (s.carLoadedTaken).out = s.out ∧ (s.carLoadedTaken).port = s.port ∧
      (s.carLoadedTaken).free = s.free ∧ (s.carLoadedTaken).pending = s.pending := by
  unfold State.carLoadedTaken
  repeat' (first | split | dsimp only)
  all_goals simp

@[simp] theorem State.carClaimAbandoned_keeps (s : State) :
    (s.carClaimAbandoned).straps = s.straps ∧ (s.carClaimAbandoned).config = s.config ∧ (s.carClaimAbandoned).staged =
      s.staged ∧ (s.carClaimAbandoned).life = s.life ∧ (s.carClaimAbandoned).time = s.time ∧ (s.carClaimAbandoned).line =
      s.line ∧ (s.carClaimAbandoned).queue = s.queue ∧ (s.carClaimAbandoned).table = s.table ∧ (s.carClaimAbandoned).claims =
      s.claims ∧ (s.carClaimAbandoned).stop = s.stop ∧ (s.carClaimAbandoned).bank = s.bank ∧ (s.carClaimAbandoned).plan =
      s.plan ∧ (s.carClaimAbandoned).machine = s.machine ∧ (s.carClaimAbandoned).out = s.out ∧ (s.carClaimAbandoned).port =
      s.port ∧ (s.carClaimAbandoned).free = s.free ∧ (s.carClaimAbandoned).pending = s.pending := by
  unfold State.carClaimAbandoned
  repeat' (first | split | dsimp only)
  all_goals simp

@[simp] theorem State.completeMove_keeps (s : State) (m : Move) :
    (s.completeMove m).straps = s.straps ∧ (s.completeMove m).config = s.config ∧ (s.completeMove m).staged = s.staged ∧
      (s.completeMove m).life = s.life ∧ (s.completeMove m).time = s.time ∧ (s.completeMove m).line = s.line ∧ (s.completeMove
      m).table = s.table ∧ (s.completeMove m).claims = s.claims ∧ (s.completeMove m).stop = s.stop ∧ (s.completeMove m).bank =
      s.bank ∧ (s.completeMove m).plan = s.plan ∧ (s.completeMove m).machine = s.machine ∧ (s.completeMove m).out = s.out ∧
      (s.completeMove m).free = s.free ∧ (s.completeMove m).pending = s.pending := by
  unfold State.completeMove
  repeat' (first | split | dsimp only)
  all_goals simp

@[simp] theorem State.startMove_keeps (s : State) (m : Move) (rest : List Move) :
    (s.startMove m rest).straps = s.straps ∧ (s.startMove m rest).config = s.config ∧ (s.startMove m rest).staged = s.staged ∧
      (s.startMove m rest).life = s.life ∧ (s.startMove m rest).time = s.time ∧ (s.startMove m rest).line = s.line ∧
      (s.startMove m rest).table = s.table ∧ (s.startMove m rest).claims = s.claims ∧ (s.startMove m rest).stop = s.stop ∧
      (s.startMove m rest).bank = s.bank ∧ (s.startMove m rest).plan = s.plan ∧ (s.startMove m rest).machine = s.machine ∧
      (s.startMove m rest).out = s.out ∧ (s.startMove m rest).free = s.free ∧ (s.startMove m rest).pending = s.pending := by
  unfold State.startMove
  repeat' (first | split | dsimp only)
  all_goals simp

/-! ## Machine unit -/

@[simp] theorem State.offerRevoke_keeps (s : State) :
    (s.offerRevoke).straps = s.straps ∧ (s.offerRevoke).config = s.config ∧ (s.offerRevoke).staged = s.staged ∧
      (s.offerRevoke).life = s.life ∧ (s.offerRevoke).time = s.time ∧ (s.offerRevoke).line = s.line ∧ (s.offerRevoke).table =
      s.table ∧ (s.offerRevoke).claims = s.claims ∧ (s.offerRevoke).stop = s.stop ∧ (s.offerRevoke).bank = s.bank ∧
      (s.offerRevoke).plan = s.plan ∧ (s.offerRevoke).car = s.car ∧ (s.offerRevoke).out = s.out ∧ (s.offerRevoke).free =
      s.free ∧ (s.offerRevoke).pending = s.pending := by
  unfold State.offerRevoke
  repeat' (first | split | dsimp only)
  all_goals simp

@[simp] theorem State.wantSet_keeps (s : State) (k : Nat) :
    (s.wantSet k).straps = s.straps ∧ (s.wantSet k).config = s.config ∧ (s.wantSet k).staged = s.staged ∧ (s.wantSet k).life
      = s.life ∧ (s.wantSet k).time = s.time ∧ (s.wantSet k).line = s.line ∧ (s.wantSet k).table = s.table ∧ (s.wantSet
      k).claims = s.claims ∧ (s.wantSet k).stop = s.stop ∧ (s.wantSet k).bank = s.bank ∧ (s.wantSet k).plan = s.plan ∧
      (s.wantSet k).car = s.car ∧ (s.wantSet k).out = s.out ∧ (s.wantSet k).port = s.port ∧ (s.wantSet k).free = s.free ∧
      (s.wantSet k).pending = s.pending := by
  unfold State.wantSet
  repeat' (first | split | dsimp only)
  all_goals simp

@[simp] theorem State.offerWanted_keeps (s : State) (n k : Nat) :
    (s.offerWanted n k).straps = s.straps ∧ (s.offerWanted n k).config = s.config ∧ (s.offerWanted n k).staged = s.staged ∧
      (s.offerWanted n k).life = s.life ∧ (s.offerWanted n k).time = s.time ∧ (s.offerWanted n k).line = s.line ∧
      (s.offerWanted n k).table = s.table ∧ (s.offerWanted n k).claims = s.claims ∧ (s.offerWanted n k).stop = s.stop ∧
      (s.offerWanted n k).bank = s.bank ∧ (s.offerWanted n k).plan = s.plan ∧ (s.offerWanted n k).car = s.car ∧
      (s.offerWanted n k).out = s.out ∧ (s.offerWanted n k).free = s.free ∧ (s.offerWanted n k).pending = s.pending := by
  unfold State.offerWanted
  repeat' (first | split | dsimp only)
  all_goals simp

@[simp] theorem State.guideLeaves_keeps (s : State) (c : Claim) :
    (s.guideLeaves c).straps = s.straps ∧ (s.guideLeaves c).config = s.config ∧ (s.guideLeaves c).staged = s.staged ∧
      (s.guideLeaves c).life = s.life ∧ (s.guideLeaves c).time = s.time ∧ (s.guideLeaves c).line = s.line ∧ (s.guideLeaves
      c).table = s.table ∧ (s.guideLeaves c).claims = s.claims ∧ (s.guideLeaves c).stop = s.stop ∧ (s.guideLeaves c).bank =
      s.bank ∧ (s.guideLeaves c).plan = s.plan ∧ (s.guideLeaves c).car = s.car ∧ (s.guideLeaves c).out = s.out ∧
      (s.guideLeaves c).free = s.free ∧ (s.guideLeaves c).pending = s.pending := by
  unfold State.guideLeaves
  repeat' (first | split | dsimp only)
  all_goals simp

@[simp] theorem State.queueReseal_keeps (s : State) (n : Nat) (j : Side) :
    (s.queueReseal n j).straps = s.straps ∧ (s.queueReseal n j).config = s.config ∧ (s.queueReseal n j).staged = s.staged ∧
      (s.queueReseal n j).life = s.life ∧ (s.queueReseal n j).time = s.time ∧ (s.queueReseal n j).line = s.line ∧
      (s.queueReseal n j).queue = s.queue ∧ (s.queueReseal n j).table = s.table ∧ (s.queueReseal n j).claims = s.claims ∧
      (s.queueReseal n j).stop = s.stop ∧ (s.queueReseal n j).bank = s.bank ∧ (s.queueReseal n j).plan = s.plan ∧
      (s.queueReseal n j).car = s.car ∧ (s.queueReseal n j).out = s.out ∧ (s.queueReseal n j).free = s.free ∧ (s.queueReseal n
      j).pending = s.pending := by
  unfold State.queueReseal
  repeat' (first | split | dsimp only)
  all_goals simp

@[simp] theorem State.unqueueReseal_keeps (s : State) (n : Nat) :
    (s.unqueueReseal n).straps = s.straps ∧ (s.unqueueReseal n).config = s.config ∧ (s.unqueueReseal n).staged = s.staged ∧
      (s.unqueueReseal n).life = s.life ∧ (s.unqueueReseal n).time = s.time ∧ (s.unqueueReseal n).line = s.line ∧
      (s.unqueueReseal n).queue = s.queue ∧ (s.unqueueReseal n).table = s.table ∧ (s.unqueueReseal n).claims = s.claims ∧
      (s.unqueueReseal n).stop = s.stop ∧ (s.unqueueReseal n).bank = s.bank ∧ (s.unqueueReseal n).plan = s.plan ∧
      (s.unqueueReseal n).car = s.car ∧ (s.unqueueReseal n).out = s.out ∧ (s.unqueueReseal n).port = s.port ∧ (s.unqueueReseal
      n).free = s.free ∧ (s.unqueueReseal n).pending = s.pending := by
  unfold State.unqueueReseal
  all_goals simp

/-! ## Claim tracker -/

@[simp] theorem State.endDoorReseal_keeps (s : State) (n : Nat) (j : Side) :
    (s.endDoorReseal n j).straps = s.straps ∧ (s.endDoorReseal n j).config = s.config ∧ (s.endDoorReseal n j).staged =
      s.staged ∧ (s.endDoorReseal n j).life = s.life ∧ (s.endDoorReseal n j).time = s.time ∧ (s.endDoorReseal n j).line =
      s.line ∧ (s.endDoorReseal n j).queue = s.queue ∧ (s.endDoorReseal n j).table = s.table ∧ (s.endDoorReseal n j).claims =
      s.claims ∧ (s.endDoorReseal n j).stop = s.stop ∧ (s.endDoorReseal n j).plan = s.plan ∧ (s.endDoorReseal n j).machine =
      s.machine ∧ (s.endDoorReseal n j).car = s.car ∧ (s.endDoorReseal n j).out = s.out ∧ (s.endDoorReseal n j).free = s.free
      ∧ (s.endDoorReseal n j).pending = s.pending := by
  unfold State.endDoorReseal
  repeat' (first | split | dsimp only)
  all_goals simp

@[simp] theorem State.loseReseal_keeps (s : State) (r : Reseal) :
    (s.loseReseal r).straps = s.straps ∧ (s.loseReseal r).config = s.config ∧ (s.loseReseal r).staged = s.staged ∧
      (s.loseReseal r).life = s.life ∧ (s.loseReseal r).time = s.time ∧ (s.loseReseal r).line = s.line ∧ (s.loseReseal
      r).queue = s.queue ∧ (s.loseReseal r).table = s.table ∧ (s.loseReseal r).claims = s.claims ∧ (s.loseReseal r).stop =
      s.stop ∧ (s.loseReseal r).plan = s.plan ∧ (s.loseReseal r).machine = s.machine ∧ (s.loseReseal r).car = s.car ∧
      (s.loseReseal r).out = s.out ∧ (s.loseReseal r).free = s.free ∧ (s.loseReseal r).pending = s.pending := by
  unfold State.loseReseal
  repeat' (first | split | dsimp only)
  all_goals simp

@[simp] theorem State.giveUpReseal_keeps (s : State) (n : Nat) (j : Side) :
    (s.giveUpReseal n j).straps = s.straps ∧ (s.giveUpReseal n j).config = s.config ∧ (s.giveUpReseal n j).staged = s.staged ∧
      (s.giveUpReseal n j).life = s.life ∧ (s.giveUpReseal n j).time = s.time ∧ (s.giveUpReseal n j).line = s.line ∧
      (s.giveUpReseal n j).table = s.table ∧ (s.giveUpReseal n j).stop = s.stop ∧ (s.giveUpReseal n j).plan = s.plan ∧
      (s.giveUpReseal n j).machine = s.machine ∧ (s.giveUpReseal n j).car = s.car ∧ (s.giveUpReseal n j).out = s.out ∧
      (s.giveUpReseal n j).free = s.free ∧ (s.giveUpReseal n j).pending = s.pending := by
  unfold State.giveUpReseal
  repeat' (first | split | dsimp only)
  all_goals simp

@[simp] theorem State.withdrawLate_keeps (s : State) (c : Nat) (a : Bool) :
    (s.withdrawLate c a).straps = s.straps ∧ (s.withdrawLate c a).config = s.config ∧ (s.withdrawLate c a).staged = s.staged ∧
      (s.withdrawLate c a).life = s.life ∧ (s.withdrawLate c a).time = s.time ∧ (s.withdrawLate c a).line = s.line ∧
      (s.withdrawLate c a).table = s.table ∧ (s.withdrawLate c a).claims = s.claims ∧ (s.withdrawLate c a).stop = s.stop ∧
      (s.withdrawLate c a).bank = s.bank ∧ (s.withdrawLate c a).plan = s.plan ∧ (s.withdrawLate c a).machine = s.machine ∧
      (s.withdrawLate c a).car = s.car ∧ (s.withdrawLate c a).out = s.out ∧ (s.withdrawLate c a).free = s.free ∧
      (s.withdrawLate c a).pending = s.pending := by
  unfold State.withdrawLate
  all_goals simp

@[simp] theorem State.bankClaimEnds_keeps (s : State) (n : Nat) (t : StageSet) (how : ClaimEnd) :
    (s.bankClaimEnds n t how).straps = s.straps ∧ (s.bankClaimEnds n t how).config = s.config ∧ (s.bankClaimEnds n t
      how).staged = s.staged ∧ (s.bankClaimEnds n t how).life = s.life ∧ (s.bankClaimEnds n t how).time = s.time ∧
      (s.bankClaimEnds n t how).line = s.line ∧ (s.bankClaimEnds n t how).queue = s.queue ∧ (s.bankClaimEnds n t how).table =
      s.table ∧ (s.bankClaimEnds n t how).claims = s.claims ∧ (s.bankClaimEnds n t how).stop = s.stop ∧ (s.bankClaimEnds n t
      how).plan = s.plan ∧ (s.bankClaimEnds n t how).machine = s.machine ∧ (s.bankClaimEnds n t how).car = s.car ∧
      (s.bankClaimEnds n t how).out = s.out ∧ (s.bankClaimEnds n t how).free = s.free ∧ (s.bankClaimEnds n t how).pending =
      s.pending := by
  unfold State.bankClaimEnds
  repeat' (first | split | dsimp only)
  all_goals simp

@[simp] theorem State.planClaimEnds_keeps (s : State) (n : Nat) (t : StageSet) (how : ClaimEnd) :
    (s.planClaimEnds n t how).straps = s.straps ∧ (s.planClaimEnds n t how).config = s.config ∧ (s.planClaimEnds n t
      how).staged = s.staged ∧ (s.planClaimEnds n t how).life = s.life ∧ (s.planClaimEnds n t how).time = s.time ∧
      (s.planClaimEnds n t how).line = s.line ∧ (s.planClaimEnds n t how).queue = s.queue ∧ (s.planClaimEnds n t how).table =
      s.table ∧ (s.planClaimEnds n t how).claims = s.claims ∧ (s.planClaimEnds n t how).stop = s.stop ∧ (s.planClaimEnds n t
      how).bank = s.bank ∧ (s.planClaimEnds n t how).machine = s.machine ∧ (s.planClaimEnds n t how).car = s.car ∧
      (s.planClaimEnds n t how).out = s.out ∧ (s.planClaimEnds n t how).port = s.port ∧ (s.planClaimEnds n t how).free =
      s.free ∧ (s.planClaimEnds n t how).pending = s.pending := by
  unfold State.planClaimEnds
  repeat' (first | split | dsimp only)
  all_goals simp

@[simp] theorem State.carClaimEnds_keeps (s : State) (how : ClaimEnd) :
    (s.carClaimEnds how).straps = s.straps ∧ (s.carClaimEnds how).config = s.config ∧ (s.carClaimEnds how).staged = s.staged ∧
      (s.carClaimEnds how).life = s.life ∧ (s.carClaimEnds how).time = s.time ∧ (s.carClaimEnds how).line = s.line ∧
      (s.carClaimEnds how).queue = s.queue ∧ (s.carClaimEnds how).table = s.table ∧ (s.carClaimEnds how).claims = s.claims ∧
      (s.carClaimEnds how).stop = s.stop ∧ (s.carClaimEnds how).bank = s.bank ∧ (s.carClaimEnds how).plan = s.plan ∧
      (s.carClaimEnds how).machine = s.machine ∧ (s.carClaimEnds how).out = s.out ∧ (s.carClaimEnds how).port = s.port ∧
      (s.carClaimEnds how).free = s.free ∧ (s.carClaimEnds how).pending = s.pending := by
  unfold State.carClaimEnds
  repeat' (first | split | dsimp only)
  all_goals simp

@[simp] theorem State.endClaim_keeps (s : State) (how : ClaimEnd) :
    (s.endClaim how).straps = s.straps ∧ (s.endClaim how).config = s.config ∧ (s.endClaim how).staged = s.staged ∧ (s.endClaim
      how).life = s.life ∧ (s.endClaim how).time = s.time ∧ (s.endClaim how).line = s.line ∧ (s.endClaim how).table = s.table
      ∧ (s.endClaim how).stop = s.stop ∧ (s.endClaim how).out = s.out ∧ (s.endClaim how).free = s.free ∧ (s.endClaim
      how).pending = s.pending := by
  unfold State.endClaim
  repeat' (first | split | dsimp only)
  all_goals simp

@[simp] theorem State.dropClaim_keeps (s : State) :
    (s.dropClaim).straps = s.straps ∧ (s.dropClaim).config = s.config ∧ (s.dropClaim).staged = s.staged ∧ (s.dropClaim).life =
      s.life ∧ (s.dropClaim).time = s.time ∧ (s.dropClaim).line = s.line ∧ (s.dropClaim).table = s.table ∧ (s.dropClaim).stop
      = s.stop ∧ (s.dropClaim).out = s.out ∧ (s.dropClaim).free = s.free ∧ (s.dropClaim).pending = s.pending := by
  unfold State.dropClaim
  all_goals simp

@[simp] theorem State.bankClaimTaken_keeps (s : State) (n : Nat) :
    (s.bankClaimTaken n).straps = s.straps ∧ (s.bankClaimTaken n).config = s.config ∧ (s.bankClaimTaken n).staged = s.staged ∧
      (s.bankClaimTaken n).life = s.life ∧ (s.bankClaimTaken n).time = s.time ∧ (s.bankClaimTaken n).line = s.line ∧
      (s.bankClaimTaken n).table = s.table ∧ (s.bankClaimTaken n).stop = s.stop ∧ (s.bankClaimTaken n).plan = s.plan ∧
      (s.bankClaimTaken n).machine = s.machine ∧ (s.bankClaimTaken n).car = s.car ∧ (s.bankClaimTaken n).out = s.out ∧
      (s.bankClaimTaken n).free = s.free ∧ (s.bankClaimTaken n).pending = s.pending := by
  unfold State.bankClaimTaken
  repeat' (first | split | dsimp only)
  all_goals simp

@[simp] theorem State.bankClaimAdopted_keeps (s : State) (n : Nat) (t : StageSet) :
    (s.bankClaimAdopted n t).straps = s.straps ∧ (s.bankClaimAdopted n t).config = s.config ∧ (s.bankClaimAdopted n t).staged
      = s.staged ∧ (s.bankClaimAdopted n t).life = s.life ∧ (s.bankClaimAdopted n t).time = s.time ∧ (s.bankClaimAdopted n
      t).line = s.line ∧ (s.bankClaimAdopted n t).table = s.table ∧ (s.bankClaimAdopted n t).stop = s.stop ∧
      (s.bankClaimAdopted n t).plan = s.plan ∧ (s.bankClaimAdopted n t).machine = s.machine ∧ (s.bankClaimAdopted n t).car =
      s.car ∧ (s.bankClaimAdopted n t).out = s.out ∧ (s.bankClaimAdopted n t).free = s.free ∧ (s.bankClaimAdopted n t).pending
      = s.pending := by
  unfold State.bankClaimAdopted
  repeat' (first | split | dsimp only)
  all_goals simp

@[simp] theorem State.takeClaim_keeps (s : State) (n c sender : Nat) (forced : Bool) :
    (s.takeClaim n c sender forced).straps = s.straps ∧ (s.takeClaim n c sender forced).config = s.config ∧ (s.takeClaim n c
      sender forced).staged = s.staged ∧ (s.takeClaim n c sender forced).life = s.life ∧ (s.takeClaim n c sender forced).time
      = s.time ∧ (s.takeClaim n c sender forced).line = s.line ∧ (s.takeClaim n c sender forced).table = s.table ∧
      (s.takeClaim n c sender forced).stop = s.stop ∧ (s.takeClaim n c sender forced).out = s.out ∧ (s.takeClaim n c sender
      forced).free = s.free ∧ (s.takeClaim n c sender forced).pending = s.pending := by
  unfold State.takeClaim
  repeat' (first | split | dsimp only)
  all_goals simp

@[simp] theorem State.adoptTrailer_keeps (s : State) (t : Trailer) :
    (s.adoptTrailer t).straps = s.straps ∧ (s.adoptTrailer t).config = s.config ∧ (s.adoptTrailer t).staged = s.staged ∧
      (s.adoptTrailer t).life = s.life ∧ (s.adoptTrailer t).time = s.time ∧ (s.adoptTrailer t).line = s.line ∧ (s.adoptTrailer
      t).table = s.table ∧ (s.adoptTrailer t).stop = s.stop ∧ (s.adoptTrailer t).out = s.out ∧ (s.adoptTrailer t).free =
      s.free ∧ (s.adoptTrailer t).pending = s.pending := by
  unfold State.adoptTrailer
  repeat' (first | split | dsimp only)
  all_goals simp

@[simp] theorem State.doorStage_keeps (s : State) (i : Nat) (j : Side) (on : Bool) :
    (s.doorStage i j on).straps = s.straps ∧ (s.doorStage i j on).config = s.config ∧ (s.doorStage i j on).staged = s.staged ∧
      (s.doorStage i j on).life = s.life ∧ (s.doorStage i j on).time = s.time ∧ (s.doorStage i j on).line = s.line ∧
      (s.doorStage i j on).queue = s.queue ∧ (s.doorStage i j on).table = s.table ∧ (s.doorStage i j on).claims = s.claims ∧
      (s.doorStage i j on).stop = s.stop ∧ (s.doorStage i j on).plan = s.plan ∧ (s.doorStage i j on).machine = s.machine ∧
      (s.doorStage i j on).car = s.car ∧ (s.doorStage i j on).out = s.out ∧ (s.doorStage i j on).free = s.free ∧ (s.doorStage
      i j on).pending = s.pending := by
  unfold State.doorStage
  repeat' (first | split | dsimp only)
  all_goals simp

@[simp] theorem State.bankStage_keeps (s : State) (n : Nat) (x : Stage) :
    (s.bankStage n x).straps = s.straps ∧ (s.bankStage n x).config = s.config ∧ (s.bankStage n x).staged = s.staged ∧
      (s.bankStage n x).life = s.life ∧ (s.bankStage n x).time = s.time ∧ (s.bankStage n x).line = s.line ∧ (s.bankStage n
      x).queue = s.queue ∧ (s.bankStage n x).table = s.table ∧ (s.bankStage n x).claims = s.claims ∧ (s.bankStage n x).stop =
      s.stop ∧ (s.bankStage n x).plan = s.plan ∧ (s.bankStage n x).machine = s.machine ∧ (s.bankStage n x).car = s.car ∧
      (s.bankStage n x).out = s.out ∧ (s.bankStage n x).free = s.free ∧ (s.bankStage n x).pending = s.pending := by
  unfold State.bankStage
  repeat' (first | split | dsimp only)
  all_goals simp

@[simp] theorem State.carStage_keeps (s : State) (n : Nat) (x : Stage) (r : Bool) :
    (s.carStage n x r).straps = s.straps ∧ (s.carStage n x r).config = s.config ∧ (s.carStage n x r).staged = s.staged ∧
      (s.carStage n x r).life = s.life ∧ (s.carStage n x r).time = s.time ∧ (s.carStage n x r).line = s.line ∧ (s.carStage n x
      r).table = s.table ∧ (s.carStage n x r).claims = s.claims ∧ (s.carStage n x r).stop = s.stop ∧ (s.carStage n x r).bank =
      s.bank ∧ (s.carStage n x r).plan = s.plan ∧ (s.carStage n x r).machine = s.machine ∧ (s.carStage n x r).out = s.out ∧
      (s.carStage n x r).free = s.free ∧ (s.carStage n x r).pending = s.pending := by
  unfold State.carStage
  repeat' (first | split | dsimp only)
  all_goals simp

@[simp] theorem State.guideStage_keeps (s : State) (x : Stage) (r : Bool) :
    (s.guideStage x r).straps = s.straps ∧ (s.guideStage x r).config = s.config ∧ (s.guideStage x r).staged = s.staged ∧
      (s.guideStage x r).life = s.life ∧ (s.guideStage x r).time = s.time ∧ (s.guideStage x r).line = s.line ∧ (s.guideStage x
      r).queue = s.queue ∧ (s.guideStage x r).table = s.table ∧ (s.guideStage x r).claims = s.claims ∧ (s.guideStage x r).stop
      = s.stop ∧ (s.guideStage x r).bank = s.bank ∧ (s.guideStage x r).plan = s.plan ∧ (s.guideStage x r).car = s.car ∧
      (s.guideStage x r).out = s.out ∧ (s.guideStage x r).port = s.port ∧ (s.guideStage x r).free = s.free ∧ (s.guideStage x
      r).pending = s.pending := by
  unfold State.guideStage
  repeat' (first | split | dsimp only)
  all_goals simp

@[simp] theorem State.applyStage_keeps (s : State) (c : Claim) (x : Stage) (r : Bool) :
    (s.applyStage c x r).straps = s.straps ∧ (s.applyStage c x r).config = s.config ∧ (s.applyStage c x r).staged = s.staged ∧
      (s.applyStage c x r).life = s.life ∧ (s.applyStage c x r).time = s.time ∧ (s.applyStage c x r).line = s.line ∧
      (s.applyStage c x r).table = s.table ∧ (s.applyStage c x r).stop = s.stop ∧ (s.applyStage c x r).out = s.out ∧
      (s.applyStage c x r).free = s.free ∧ (s.applyStage c x r).pending = s.pending := by
  unfold State.applyStage
  repeat' (first | split | dsimp only)
  all_goals simp

/-! ## Life -/

@[simp] theorem State.reportLife_keeps (s : State) :
    (s.reportLife).straps = s.straps ∧ (s.reportLife).config = s.config ∧ (s.reportLife).staged = s.staged ∧
      (s.reportLife).life = s.life ∧ (s.reportLife).time = s.time ∧ (s.reportLife).line = s.line ∧ (s.reportLife).queue =
      s.queue ∧ (s.reportLife).table = s.table ∧ (s.reportLife).claims = s.claims ∧ (s.reportLife).stop = s.stop ∧
      (s.reportLife).bank = s.bank ∧ (s.reportLife).plan = s.plan ∧ (s.reportLife).machine = s.machine ∧ (s.reportLife).car =
      s.car ∧ (s.reportLife).out = s.out ∧ (s.reportLife).free = s.free ∧ (s.reportLife).pending = s.pending := by
  unfold State.reportLife
  all_goals simp

@[simp] theorem State.answerHeld_keeps (s : State) (r : Result) (d : Nat) :
    (s.answerHeld r d).straps = s.straps ∧ (s.answerHeld r d).config = s.config ∧ (s.answerHeld r d).staged = s.staged ∧
      (s.answerHeld r d).life = s.life ∧ (s.answerHeld r d).time = s.time ∧ (s.answerHeld r d).line = s.line ∧ (s.answerHeld r
      d).queue = s.queue ∧ (s.answerHeld r d).table = s.table ∧ (s.answerHeld r d).claims = s.claims ∧ (s.answerHeld r d).stop
      = s.stop ∧ (s.answerHeld r d).bank = s.bank ∧ (s.answerHeld r d).plan = s.plan ∧ (s.answerHeld r d).machine = s.machine
      ∧ (s.answerHeld r d).car = s.car ∧ (s.answerHeld r d).out = s.out ∧ (s.answerHeld r d).free = s.free ∧ (s.answerHeld r
      d).pending = s.pending := by
  unfold State.answerHeld
  all_goals simp

@[simp] theorem State.abandonWithdrawn_keeps (s : State) :
    (s.abandonWithdrawn).straps = s.straps ∧ (s.abandonWithdrawn).config = s.config ∧ (s.abandonWithdrawn).staged = s.staged ∧
      (s.abandonWithdrawn).life = s.life ∧ (s.abandonWithdrawn).time = s.time ∧ (s.abandonWithdrawn).line = s.line ∧
      (s.abandonWithdrawn).queue = s.queue ∧ (s.abandonWithdrawn).table = s.table ∧ (s.abandonWithdrawn).claims = s.claims ∧
      (s.abandonWithdrawn).stop = s.stop ∧ (s.abandonWithdrawn).bank = s.bank ∧ (s.abandonWithdrawn).plan = s.plan ∧
      (s.abandonWithdrawn).machine = s.machine ∧ (s.abandonWithdrawn).car = s.car ∧ (s.abandonWithdrawn).out = s.out ∧
      (s.abandonWithdrawn).free = s.free ∧ (s.abandonWithdrawn).pending = s.pending := by
  unfold State.abandonWithdrawn
  repeat' (first | split | dsimp only)
  all_goals simp

@[simp] theorem State.givePulse_keeps (s : State) (c : StopCause) :
    (s.givePulse c).straps = s.straps ∧ (s.givePulse c).config = s.config ∧ (s.givePulse c).staged = s.staged ∧ (s.givePulse
      c).life = s.life ∧ (s.givePulse c).time = s.time ∧ (s.givePulse c).table = s.table ∧ (s.givePulse c).claims = s.claims ∧
      (s.givePulse c).stop = s.stop ∧ (s.givePulse c).bank = s.bank ∧ (s.givePulse c).plan = s.plan ∧ (s.givePulse c).machine
      = s.machine ∧ (s.givePulse c).car = s.car ∧ (s.givePulse c).out = s.out ∧ (s.givePulse c).pending = s.pending := by
  unfold State.givePulse
  repeat' (first | split | dsimp only)
  all_goals simp

@[simp] theorem State.pulseIfAsserted_keeps (s : State) :
    (s.pulseIfAsserted).straps = s.straps ∧ (s.pulseIfAsserted).config = s.config ∧ (s.pulseIfAsserted).staged = s.staged ∧
      (s.pulseIfAsserted).life = s.life ∧ (s.pulseIfAsserted).time = s.time ∧ (s.pulseIfAsserted).table = s.table ∧
      (s.pulseIfAsserted).claims = s.claims ∧ (s.pulseIfAsserted).stop = s.stop ∧ (s.pulseIfAsserted).bank = s.bank ∧
      (s.pulseIfAsserted).plan = s.plan ∧ (s.pulseIfAsserted).machine = s.machine ∧ (s.pulseIfAsserted).car = s.car ∧
      (s.pulseIfAsserted).out = s.out ∧ (s.pulseIfAsserted).pending = s.pending := by
  unfold State.pulseIfAsserted
  repeat' (first | split | dsimp only)
  all_goals simp

@[simp] theorem State.emptyReseals_keeps (s : State) :
    (s.emptyReseals).straps = s.straps ∧ (s.emptyReseals).config = s.config ∧ (s.emptyReseals).staged = s.staged ∧
      (s.emptyReseals).life = s.life ∧ (s.emptyReseals).time = s.time ∧ (s.emptyReseals).line = s.line ∧
      (s.emptyReseals).queue = s.queue ∧ (s.emptyReseals).table = s.table ∧ (s.emptyReseals).stop = s.stop ∧
      (s.emptyReseals).plan = s.plan ∧ (s.emptyReseals).machine = s.machine ∧ (s.emptyReseals).car = s.car ∧
      (s.emptyReseals).out = s.out ∧ (s.emptyReseals).free = s.free ∧ (s.emptyReseals).pending = s.pending := by
  unfold State.emptyReseals
  simp [foldl_keeps State.straps, foldl_keeps State.config, foldl_keeps State.staged, foldl_keeps State.life, foldl_keeps State.time,
    foldl_keeps State.line, foldl_keeps State.queue, foldl_keeps State.table, foldl_keeps State.stop, foldl_keeps State.plan,
    foldl_keeps State.machine, foldl_keeps State.car, foldl_keeps State.out, foldl_keeps State.free, foldl_keeps State.pending]

@[simp] theorem State.emptyClaims_keeps (s : State) :
    (s.emptyClaims).straps = s.straps ∧ (s.emptyClaims).config = s.config ∧ (s.emptyClaims).staged = s.staged ∧
      (s.emptyClaims).life = s.life ∧ (s.emptyClaims).time = s.time ∧ (s.emptyClaims).line = s.line ∧ (s.emptyClaims).table =
      s.table ∧ (s.emptyClaims).stop = s.stop ∧ (s.emptyClaims).out = s.out ∧ (s.emptyClaims).free = s.free ∧
      (s.emptyClaims).pending = s.pending := by
  unfold State.emptyClaims
  repeat' (first | split | dsimp only)
  all_goals simp

@[simp] theorem State.leaveBlocks_keeps (s : State) :
    (s.leaveBlocks).straps = s.straps ∧ (s.leaveBlocks).config = s.config ∧ (s.leaveBlocks).staged = s.staged ∧
      (s.leaveBlocks).life = s.life ∧ (s.leaveBlocks).time = s.time ∧ (s.leaveBlocks).table = s.table ∧ (s.leaveBlocks).out =
      s.out ∧ (s.leaveBlocks).free = s.free ∧ (s.leaveBlocks).pending = s.pending := by
  unfold State.leaveBlocks
  repeat' (first | split | dsimp only)
  all_goals simp

@[simp] theorem State.enterOffLine_keeps (s : State) :
    (s.enterOffLine).straps = s.straps ∧ (s.enterOffLine).config = s.config ∧ (s.enterOffLine).staged = s.staged ∧
      (s.enterOffLine).time = s.time ∧ (s.enterOffLine).out = s.out ∧ (s.enterOffLine).free = s.free ∧
      (s.enterOffLine).pending = s.pending := by
  unfold State.enterOffLine
  repeat' (first | split | dsimp only)
  all_goals simp

@[simp] theorem State.enterConflict_keeps (s : State) (c : Cause) :
    (s.enterConflict c).straps = s.straps ∧ (s.enterConflict c).config = s.config ∧ (s.enterConflict c).staged = s.staged ∧
      (s.enterConflict c).time = s.time ∧ (s.enterConflict c).table = s.table ∧ (s.enterConflict c).out = s.out ∧
      (s.enterConflict c).free = s.free ∧ (s.enterConflict c).pending = s.pending := by
  unfold State.enterConflict
  repeat' (first | split | dsimp only)
  all_goals simp

@[simp] theorem State.retryAbandon_keeps (s : State) (a : Nat) :
    (s.retryAbandon a).straps = s.straps ∧ (s.retryAbandon a).config = s.config ∧ (s.retryAbandon a).staged = s.staged ∧
      (s.retryAbandon a).life = s.life ∧ (s.retryAbandon a).time = s.time ∧ (s.retryAbandon a).line = s.line ∧ (s.retryAbandon
      a).queue = s.queue ∧ (s.retryAbandon a).table = s.table ∧ (s.retryAbandon a).stop = s.stop ∧ (s.retryAbandon a).bank =
      s.bank ∧ (s.retryAbandon a).plan = s.plan ∧ (s.retryAbandon a).machine = s.machine ∧ (s.retryAbandon a).car = s.car ∧
      (s.retryAbandon a).out = s.out ∧ (s.retryAbandon a).port = s.port ∧ (s.retryAbandon a).free = s.free ∧ (s.retryAbandon
      a).pending = s.pending := by
  unfold State.retryAbandon
  repeat' (first | split | dsimp only)
  all_goals simp

@[simp] theorem State.retryLater_keeps (s : State) (b : Body) :
    (s.retryLater b).straps = s.straps ∧ (s.retryLater b).config = s.config ∧ (s.retryLater b).staged = s.staged ∧
      (s.retryLater b).life = s.life ∧ (s.retryLater b).time = s.time ∧ (s.retryLater b).line = s.line ∧ (s.retryLater
      b).queue = s.queue ∧ (s.retryLater b).table = s.table ∧ (s.retryLater b).stop = s.stop ∧ (s.retryLater b).bank = s.bank
      ∧ (s.retryLater b).plan = s.plan ∧ (s.retryLater b).out = s.out ∧ (s.retryLater b).port = s.port ∧ (s.retryLater b).free
      = s.free ∧ (s.retryLater b).pending = s.pending := by
  unfold State.retryLater
  repeat' (first | split | dsimp only)
  all_goals simp

@[simp] theorem State.enterListenOnly_keeps (s : State) :
    (s.enterListenOnly).straps = s.straps ∧ (s.enterListenOnly).config = s.config ∧ (s.enterListenOnly).staged = s.staged ∧
      (s.enterListenOnly).time = s.time ∧ (s.enterListenOnly).table = s.table ∧ (s.enterListenOnly).stop = s.stop ∧
      (s.enterListenOnly).bank = s.bank ∧ (s.enterListenOnly).out = s.out ∧ (s.enterListenOnly).free = s.free ∧
      (s.enterListenOnly).pending = s.pending := by
  unfold State.enterListenOnly
  simp [foldl_keeps State.straps, foldl_keeps State.config, foldl_keeps State.staged, foldl_keeps State.time, foldl_keeps State.table,
    foldl_keeps State.stop, foldl_keeps State.bank, foldl_keeps State.out, foldl_keeps State.free, foldl_keeps State.pending]

@[simp] theorem State.enterJoining_keeps (s : State) :
    (s.enterJoining).straps = s.straps ∧ (s.enterJoining).config = s.config ∧ (s.enterJoining).staged = s.staged ∧
      (s.enterJoining).time = s.time ∧ (s.enterJoining).claims = s.claims ∧ (s.enterJoining).stop = s.stop ∧
      (s.enterJoining).bank = s.bank ∧ (s.enterJoining).plan = s.plan ∧ (s.enterJoining).machine = s.machine ∧
      (s.enterJoining).car = s.car ∧ (s.enterJoining).out = s.out ∧ (s.enterJoining).pending = s.pending := by
  unfold State.enterJoining
  repeat' (first | split | dsimp only)
  all_goals simp

@[simp] theorem State.returnToJoining_keeps (s : State) :
    (s.returnToJoining).straps = s.straps ∧ (s.returnToJoining).config = s.config ∧ (s.returnToJoining).staged = s.staged ∧
      (s.returnToJoining).time = s.time ∧ (s.returnToJoining).table = s.table ∧ (s.returnToJoining).claims = s.claims ∧
      (s.returnToJoining).stop = s.stop ∧ (s.returnToJoining).bank = s.bank ∧ (s.returnToJoining).plan = s.plan ∧
      (s.returnToJoining).machine = s.machine ∧ (s.returnToJoining).car = s.car ∧ (s.returnToJoining).out = s.out ∧
      (s.returnToJoining).pending = s.pending := by
  unfold State.returnToJoining
  repeat' (first | split | dsimp only)
  all_goals simp

@[simp] theorem State.enterOnLine_keeps (s : State) :
    (s.enterOnLine).straps = s.straps ∧ (s.enterOnLine).config = s.config ∧ (s.enterOnLine).staged = s.staged ∧
      (s.enterOnLine).time = s.time ∧ (s.enterOnLine).line = s.line ∧ (s.enterOnLine).table = s.table ∧ (s.enterOnLine).claims
      = s.claims ∧ (s.enterOnLine).stop = s.stop ∧ (s.enterOnLine).out = s.out ∧ (s.enterOnLine).free = s.free ∧
      (s.enterOnLine).pending = s.pending := by
  unfold State.enterOnLine
  simp [foldl_keeps State.straps, foldl_keeps State.config, foldl_keeps State.staged, foldl_keeps State.time, foldl_keeps State.line,
    foldl_keeps State.table, foldl_keeps State.claims, foldl_keeps State.stop, foldl_keeps State.out, foldl_keeps State.free,
    foldl_keeps State.pending]

/-! ## Frames taken -/

@[simp] theorem State.entryAnnounced_keeps (s : State) (f : Frame) (p : Payload) (t : Trailer) :
    (s.entryAnnounced f p t).straps = s.straps ∧ (s.entryAnnounced f p t).config = s.config ∧ (s.entryAnnounced f p t).staged
      = s.staged ∧ (s.entryAnnounced f p t).life = s.life ∧ (s.entryAnnounced f p t).time = s.time ∧ (s.entryAnnounced f p
      t).line = s.line ∧ (s.entryAnnounced f p t).queue = s.queue ∧ (s.entryAnnounced f p t).claims = s.claims ∧
      (s.entryAnnounced f p t).stop = s.stop ∧ (s.entryAnnounced f p t).bank = s.bank ∧ (s.entryAnnounced f p t).plan = s.plan
      ∧ (s.entryAnnounced f p t).machine = s.machine ∧ (s.entryAnnounced f p t).car = s.car ∧ (s.entryAnnounced f p t).out =
      s.out ∧ (s.entryAnnounced f p t).free = s.free ∧ (s.entryAnnounced f p t).pending = s.pending := by
  unfold State.entryAnnounced
  repeat' (first | split | dsimp only)
  all_goals simp

@[simp] theorem State.censusTaken_keeps (s : State) (c : List Byte) :
    (s.censusTaken c).straps = s.straps ∧ (s.censusTaken c).config = s.config ∧ (s.censusTaken c).staged = s.staged ∧
      (s.censusTaken c).time = s.time ∧ (s.censusTaken c).line = s.line ∧ (s.censusTaken c).claims = s.claims ∧ (s.censusTaken
      c).stop = s.stop ∧ (s.censusTaken c).out = s.out ∧ (s.censusTaken c).free = s.free ∧ (s.censusTaken c).pending =
      s.pending := by
  unfold State.censusTaken
  repeat' (first | split | dsimp only)
  all_goals simp

@[simp] theorem State.duplicateCheck_keeps (s : State) (f : Frame) (p : Payload) :
    (s.duplicateCheck f p).straps = s.straps ∧ (s.duplicateCheck f p).config = s.config ∧ (s.duplicateCheck f p).staged =
      s.staged ∧ (s.duplicateCheck f p).time = s.time ∧ (s.duplicateCheck f p).table = s.table ∧ (s.duplicateCheck f p).out =
      s.out ∧ (s.duplicateCheck f p).free = s.free ∧ (s.duplicateCheck f p).pending = s.pending := by
  unfold State.duplicateCheck
  repeat' (first | split | dsimp only)
  all_goals simp

@[simp] theorem State.adoptClaim_keeps (s : State) (f : Frame) (t : Trailer) :
    (s.adoptClaim f t).straps = s.straps ∧ (s.adoptClaim f t).config = s.config ∧ (s.adoptClaim f t).staged = s.staged ∧
      (s.adoptClaim f t).time = s.time ∧ (s.adoptClaim f t).line = s.line ∧ (s.adoptClaim f t).table = s.table ∧ (s.adoptClaim
      f t).stop = s.stop ∧ (s.adoptClaim f t).out = s.out ∧ (s.adoptClaim f t).free = s.free ∧ (s.adoptClaim f t).pending =
      s.pending := by
  unfold State.adoptClaim
  repeat' (first | split | dsimp only)
  all_goals simp

@[simp] theorem State.followPusher_keeps (s : State) (f : Frame) (p : Payload) :
    (s.followPusher f p).straps = s.straps ∧ (s.followPusher f p).config = s.config ∧ (s.followPusher f p).staged = s.staged ∧
      (s.followPusher f p).life = s.life ∧ (s.followPusher f p).time = s.time ∧ (s.followPusher f p).line = s.line ∧
      (s.followPusher f p).queue = s.queue ∧ (s.followPusher f p).table = s.table ∧ (s.followPusher f p).claims = s.claims ∧
      (s.followPusher f p).stop = s.stop ∧ (s.followPusher f p).bank = s.bank ∧ (s.followPusher f p).plan = s.plan ∧
      (s.followPusher f p).machine = s.machine ∧ (s.followPusher f p).out = s.out ∧ (s.followPusher f p).port = s.port ∧
      (s.followPusher f p).free = s.free ∧ (s.followPusher f p).pending = s.pending := by
  unfold State.followPusher
  repeat' (first | split | dsimp only)
  all_goals simp

@[simp] theorem State.announceTaken_keeps (s : State) (f : Frame) (p : Payload) (t : Trailer) :
    (s.announceTaken f p t).straps = s.straps ∧ (s.announceTaken f p t).config = s.config ∧ (s.announceTaken f p t).staged =
      s.staged ∧ (s.announceTaken f p t).time = s.time ∧ (s.announceTaken f p t).table = s.table ∧ (s.announceTaken f p t).out
      = s.out ∧ (s.announceTaken f p t).free = s.free ∧ (s.announceTaken f p t).pending = s.pending := by
  unfold State.announceTaken
  repeat' (first | split | dsimp only)
  all_goals simp

@[simp] theorem State.mainPressureTaken_keeps (s : State) (p : Int) (q : Nat) :
    (s.mainPressureTaken p q).straps = s.straps ∧ (s.mainPressureTaken p q).config = s.config ∧ (s.mainPressureTaken p
      q).staged = s.staged ∧ (s.mainPressureTaken p q).life = s.life ∧ (s.mainPressureTaken p q).time = s.time ∧
      (s.mainPressureTaken p q).line = s.line ∧ (s.mainPressureTaken p q).queue = s.queue ∧ (s.mainPressureTaken p q).table =
      s.table ∧ (s.mainPressureTaken p q).claims = s.claims ∧ (s.mainPressureTaken p q).stop = s.stop ∧ (s.mainPressureTaken p
      q).plan = s.plan ∧ (s.mainPressureTaken p q).machine = s.machine ∧ (s.mainPressureTaken p q).car = s.car ∧
      (s.mainPressureTaken p q).out = s.out ∧ (s.mainPressureTaken p q).port = s.port ∧ (s.mainPressureTaken p q).free =
      s.free ∧ (s.mainPressureTaken p q).pending = s.pending := by
  unfold State.mainPressureTaken
  repeat' (first | split | dsimp only)
  all_goals simp

@[simp] theorem State.chargedTaken_keeps (s : State) (n : Nat) :
    (s.chargedTaken n).straps = s.straps ∧ (s.chargedTaken n).config = s.config ∧ (s.chargedTaken n).staged = s.staged ∧
      (s.chargedTaken n).life = s.life ∧ (s.chargedTaken n).time = s.time ∧ (s.chargedTaken n).line = s.line ∧ (s.chargedTaken
      n).queue = s.queue ∧ (s.chargedTaken n).table = s.table ∧ (s.chargedTaken n).claims = s.claims ∧ (s.chargedTaken n).stop
      = s.stop ∧ (s.chargedTaken n).plan = s.plan ∧ (s.chargedTaken n).machine = s.machine ∧ (s.chargedTaken n).car = s.car ∧
      (s.chargedTaken n).out = s.out ∧ (s.chargedTaken n).free = s.free ∧ (s.chargedTaken n).pending = s.pending := by
  unfold State.chargedTaken
  repeat' (first | split | dsimp only)
  all_goals simp

@[simp] theorem State.resealCallTaken_keeps (s : State) (sender n side : Nat) :
    (s.resealCallTaken sender n side).straps = s.straps ∧ (s.resealCallTaken sender n side).config = s.config ∧
      (s.resealCallTaken sender n side).staged = s.staged ∧ (s.resealCallTaken sender n side).life = s.life ∧
      (s.resealCallTaken sender n side).time = s.time ∧ (s.resealCallTaken sender n side).line = s.line ∧ (s.resealCallTaken
      sender n side).queue = s.queue ∧ (s.resealCallTaken sender n side).table = s.table ∧ (s.resealCallTaken sender n
      side).claims = s.claims ∧ (s.resealCallTaken sender n side).stop = s.stop ∧ (s.resealCallTaken sender n side).bank =
      s.bank ∧ (s.resealCallTaken sender n side).plan = s.plan ∧ (s.resealCallTaken sender n side).car = s.car ∧
      (s.resealCallTaken sender n side).out = s.out ∧ (s.resealCallTaken sender n side).free = s.free ∧ (s.resealCallTaken
      sender n side).pending = s.pending := by
  unfold State.resealCallTaken
  repeat' (first | split | dsimp only)
  all_goals simp

@[simp] theorem State.recordReseal_keeps (s : State) (sender n : Nat) (j : Side) (r : Nat) :
    (s.recordReseal sender n j r).straps = s.straps ∧ (s.recordReseal sender n j r).config = s.config ∧ (s.recordReseal sender
      n j r).staged = s.staged ∧ (s.recordReseal sender n j r).life = s.life ∧ (s.recordReseal sender n j r).time = s.time ∧
      (s.recordReseal sender n j r).line = s.line ∧ (s.recordReseal sender n j r).queue = s.queue ∧ (s.recordReseal sender n j
      r).table = s.table ∧ (s.recordReseal sender n j r).stop = s.stop ∧ (s.recordReseal sender n j r).plan = s.plan ∧
      (s.recordReseal sender n j r).machine = s.machine ∧ (s.recordReseal sender n j r).car = s.car ∧ (s.recordReseal sender n
      j r).out = s.out ∧ (s.recordReseal sender n j r).free = s.free ∧ (s.recordReseal sender n j r).pending = s.pending := by
  unfold State.recordReseal
  repeat' (first | split | dsimp only)
  all_goals simp

@[simp] theorem State.doorResealing_keeps (s : State) (n : Nat) (j : Side) :
    (s.doorResealing n j).straps = s.straps ∧ (s.doorResealing n j).config = s.config ∧ (s.doorResealing n j).staged =
      s.staged ∧ (s.doorResealing n j).life = s.life ∧ (s.doorResealing n j).time = s.time ∧ (s.doorResealing n j).line =
      s.line ∧ (s.doorResealing n j).queue = s.queue ∧ (s.doorResealing n j).table = s.table ∧ (s.doorResealing n j).claims =
      s.claims ∧ (s.doorResealing n j).stop = s.stop ∧ (s.doorResealing n j).plan = s.plan ∧ (s.doorResealing n j).machine =
      s.machine ∧ (s.doorResealing n j).car = s.car ∧ (s.doorResealing n j).out = s.out ∧ (s.doorResealing n j).free = s.free
      ∧ (s.doorResealing n j).pending = s.pending := by
  unfold State.doorResealing
  repeat' (first | split | dsimp only)
  all_goals simp

@[simp] theorem State.resealClaimTaken_keeps (s : State) (sender n side r : Nat) :
    (s.resealClaimTaken sender n side r).straps = s.straps ∧ (s.resealClaimTaken sender n side r).config = s.config ∧
      (s.resealClaimTaken sender n side r).staged = s.staged ∧ (s.resealClaimTaken sender n side r).life = s.life ∧
      (s.resealClaimTaken sender n side r).time = s.time ∧ (s.resealClaimTaken sender n side r).line = s.line ∧
      (s.resealClaimTaken sender n side r).queue = s.queue ∧ (s.resealClaimTaken sender n side r).table = s.table ∧
      (s.resealClaimTaken sender n side r).stop = s.stop ∧ (s.resealClaimTaken sender n side r).plan = s.plan ∧
      (s.resealClaimTaken sender n side r).car = s.car ∧ (s.resealClaimTaken sender n side r).out = s.out ∧
      (s.resealClaimTaken sender n side r).free = s.free ∧ (s.resealClaimTaken sender n side r).pending = s.pending := by
  unfold State.resealClaimTaken
  repeat' (first | split | dsimp only)
  all_goals simp

@[simp] theorem State.endReseal_keeps (s : State) (x : Reseal) (how : ResealEnd) :
    (s.endReseal x how).straps = s.straps ∧ (s.endReseal x how).config = s.config ∧ (s.endReseal x how).staged = s.staged ∧
      (s.endReseal x how).life = s.life ∧ (s.endReseal x how).time = s.time ∧ (s.endReseal x how).line = s.line ∧ (s.endReseal
      x how).queue = s.queue ∧ (s.endReseal x how).table = s.table ∧ (s.endReseal x how).claims = s.claims ∧ (s.endReseal x
      how).stop = s.stop ∧ (s.endReseal x how).plan = s.plan ∧ (s.endReseal x how).machine = s.machine ∧ (s.endReseal x
      how).car = s.car ∧ (s.endReseal x how).out = s.out ∧ (s.endReseal x how).free = s.free ∧ (s.endReseal x how).pending =
      s.pending := by
  unfold State.endReseal
  all_goals simp

@[simp] theorem State.endReseals_keeps (s : State) (r : Nat) (how : ResealEnd) :
    (s.endReseals r how).straps = s.straps ∧ (s.endReseals r how).config = s.config ∧ (s.endReseals r how).staged = s.staged ∧
      (s.endReseals r how).life = s.life ∧ (s.endReseals r how).time = s.time ∧ (s.endReseals r how).line = s.line ∧
      (s.endReseals r how).queue = s.queue ∧ (s.endReseals r how).table = s.table ∧ (s.endReseals r how).stop = s.stop ∧
      (s.endReseals r how).plan = s.plan ∧ (s.endReseals r how).machine = s.machine ∧ (s.endReseals r how).car = s.car ∧
      (s.endReseals r how).out = s.out ∧ (s.endReseals r how).free = s.free ∧ (s.endReseals r how).pending = s.pending := by
  unfold State.endReseals
  simp [foldl_keeps State.straps, foldl_keeps State.config, foldl_keeps State.staged, foldl_keeps State.life, foldl_keeps State.time,
    foldl_keeps State.line, foldl_keeps State.queue, foldl_keeps State.table, foldl_keeps State.stop, foldl_keeps State.plan,
    foldl_keeps State.machine, foldl_keeps State.car, foldl_keeps State.out, foldl_keeps State.free, foldl_keeps State.pending]

@[simp] theorem State.resealDoneTaken_keeps (s : State) (r outcome : Nat) :
    (s.resealDoneTaken r outcome).straps = s.straps ∧ (s.resealDoneTaken r outcome).config = s.config ∧ (s.resealDoneTaken r
      outcome).staged = s.staged ∧ (s.resealDoneTaken r outcome).life = s.life ∧ (s.resealDoneTaken r outcome).time = s.time ∧
      (s.resealDoneTaken r outcome).line = s.line ∧ (s.resealDoneTaken r outcome).table = s.table ∧ (s.resealDoneTaken r
      outcome).stop = s.stop ∧ (s.resealDoneTaken r outcome).plan = s.plan ∧ (s.resealDoneTaken r outcome).machine = s.machine
      ∧ (s.resealDoneTaken r outcome).car = s.car ∧ (s.resealDoneTaken r outcome).out = s.out ∧ (s.resealDoneTaken r
      outcome).free = s.free ∧ (s.resealDoneTaken r outcome).pending = s.pending := by
  unfold State.resealDoneTaken
  repeat' (first | split | dsimp only)
  all_goals simp

@[simp] theorem State.stageTaken_keeps (s : State) (n c x : Nat) (revoke : Bool) :
    (s.stageTaken n c x revoke).straps = s.straps ∧ (s.stageTaken n c x revoke).config = s.config ∧ (s.stageTaken n c x
      revoke).staged = s.staged ∧ (s.stageTaken n c x revoke).life = s.life ∧ (s.stageTaken n c x revoke).time = s.time ∧
      (s.stageTaken n c x revoke).line = s.line ∧ (s.stageTaken n c x revoke).table = s.table ∧ (s.stageTaken n c x
      revoke).stop = s.stop ∧ (s.stageTaken n c x revoke).out = s.out ∧ (s.stageTaken n c x revoke).free = s.free ∧
      (s.stageTaken n c x revoke).pending = s.pending := by
  unfold State.stageTaken
  repeat' (first | split | dsimp only)
  all_goals simp

@[simp] theorem State.abandonTaken_keeps (s : State) (n c cause : Nat) :
    (s.abandonTaken n c cause).straps = s.straps ∧ (s.abandonTaken n c cause).config = s.config ∧ (s.abandonTaken n c
      cause).staged = s.staged ∧ (s.abandonTaken n c cause).life = s.life ∧ (s.abandonTaken n c cause).time = s.time ∧
      (s.abandonTaken n c cause).line = s.line ∧ (s.abandonTaken n c cause).table = s.table ∧ (s.abandonTaken n c cause).stop
      = s.stop ∧ (s.abandonTaken n c cause).out = s.out ∧ (s.abandonTaken n c cause).free = s.free ∧ (s.abandonTaken n c
      cause).pending = s.pending := by
  unfold State.abandonTaken
  repeat' (first | split | dsimp only)
  all_goals simp

@[simp] theorem State.othersOutcome_keeps (s : State) (own : Bool) (f : Frame) (v : Verdict) (vetoed : Bool) :
    (s.othersOutcome own f v vetoed).straps = s.straps ∧ (s.othersOutcome own f v vetoed).config = s.config ∧ (s.othersOutcome
      own f v vetoed).staged = s.staged ∧ (s.othersOutcome own f v vetoed).life = s.life ∧ (s.othersOutcome own f v
      vetoed).time = s.time ∧ (s.othersOutcome own f v vetoed).line = s.line ∧ (s.othersOutcome own f v vetoed).queue =
      s.queue ∧ (s.othersOutcome own f v vetoed).table = s.table ∧ (s.othersOutcome own f v vetoed).claims = s.claims ∧
      (s.othersOutcome own f v vetoed).stop = s.stop ∧ (s.othersOutcome own f v vetoed).bank = s.bank ∧ (s.othersOutcome own f
      v vetoed).plan = s.plan ∧ (s.othersOutcome own f v vetoed).machine = s.machine ∧ (s.othersOutcome own f v vetoed).car =
      s.car ∧ (s.othersOutcome own f v vetoed).out = s.out ∧ (s.othersOutcome own f v vetoed).free = s.free ∧ (s.othersOutcome
      own f v vetoed).pending = s.pending := by
  unfold State.othersOutcome
  repeat' (first | split | dsimp only)
  all_goals simp

@[simp] theorem State.stopNoteTaken_keeps (s : State) (sender cause serial : Nat) :
    (s.stopNoteTaken sender cause serial).straps = s.straps ∧ (s.stopNoteTaken sender cause serial).config = s.config ∧
      (s.stopNoteTaken sender cause serial).staged = s.staged ∧ (s.stopNoteTaken sender cause serial).life = s.life ∧
      (s.stopNoteTaken sender cause serial).time = s.time ∧ (s.stopNoteTaken sender cause serial).line = s.line ∧
      (s.stopNoteTaken sender cause serial).queue = s.queue ∧ (s.stopNoteTaken sender cause serial).table = s.table ∧
      (s.stopNoteTaken sender cause serial).claims = s.claims ∧ (s.stopNoteTaken sender cause serial).bank = s.bank ∧
      (s.stopNoteTaken sender cause serial).plan = s.plan ∧ (s.stopNoteTaken sender cause serial).machine = s.machine ∧
      (s.stopNoteTaken sender cause serial).car = s.car ∧ (s.stopNoteTaken sender cause serial).out = s.out ∧ (s.stopNoteTaken
      sender cause serial).free = s.free ∧ (s.stopNoteTaken sender cause serial).pending = s.pending := by
  unfold State.stopNoteTaken
  all_goals simp

@[simp] theorem State.resumeTaken_keeps (s : State) (sender serial : Nat) :
    (s.resumeTaken sender serial).straps = s.straps ∧ (s.resumeTaken sender serial).config = s.config ∧ (s.resumeTaken sender
      serial).staged = s.staged ∧ (s.resumeTaken sender serial).life = s.life ∧ (s.resumeTaken sender serial).time = s.time ∧
      (s.resumeTaken sender serial).line = s.line ∧ (s.resumeTaken sender serial).queue = s.queue ∧ (s.resumeTaken sender
      serial).table = s.table ∧ (s.resumeTaken sender serial).claims = s.claims ∧ (s.resumeTaken sender serial).bank = s.bank
      ∧ (s.resumeTaken sender serial).plan = s.plan ∧ (s.resumeTaken sender serial).machine = s.machine ∧ (s.resumeTaken
      sender serial).car = s.car ∧ (s.resumeTaken sender serial).out = s.out ∧ (s.resumeTaken sender serial).free = s.free ∧
      (s.resumeTaken sender serial).pending = s.pending := by
  unfold State.resumeTaken
  all_goals simp

@[simp] theorem State.adoptStopped_keeps (s : State) (f : Frame) :
    (s.adoptStopped f).straps = s.straps ∧ (s.adoptStopped f).config = s.config ∧ (s.adoptStopped f).staged = s.staged ∧
      (s.adoptStopped f).life = s.life ∧ (s.adoptStopped f).time = s.time ∧ (s.adoptStopped f).line = s.line ∧ (s.adoptStopped
      f).queue = s.queue ∧ (s.adoptStopped f).table = s.table ∧ (s.adoptStopped f).claims = s.claims ∧ (s.adoptStopped f).bank
      = s.bank ∧ (s.adoptStopped f).plan = s.plan ∧ (s.adoptStopped f).machine = s.machine ∧ (s.adoptStopped f).car = s.car ∧
      (s.adoptStopped f).out = s.out ∧ (s.adoptStopped f).free = s.free ∧ (s.adoptStopped f).pending = s.pending := by
  unfold State.adoptStopped
  repeat' (first | split | dsimp only)
  all_goals simp

@[simp] theorem State.entryTaken_keeps (s : State) (f : Frame) :
    (s.entryTaken f).straps = s.straps ∧ (s.entryTaken f).config = s.config ∧ (s.entryTaken f).staged = s.staged ∧
      (s.entryTaken f).life = s.life ∧ (s.entryTaken f).time = s.time ∧ (s.entryTaken f).line = s.line ∧ (s.entryTaken
      f).queue = s.queue ∧ (s.entryTaken f).claims = s.claims ∧ (s.entryTaken f).stop = s.stop ∧ (s.entryTaken f).bank =
      s.bank ∧ (s.entryTaken f).plan = s.plan ∧ (s.entryTaken f).machine = s.machine ∧ (s.entryTaken f).car = s.car ∧
      (s.entryTaken f).out = s.out ∧ (s.entryTaken f).free = s.free ∧ (s.entryTaken f).pending = s.pending := by
  unfold State.entryTaken
  repeat' (first | split | dsimp only)
  all_goals simp

@[simp] theorem State.kindTaken_keeps (s : State) (f : Frame) (c : List Byte) :
    (s.kindTaken f c).straps = s.straps ∧ (s.kindTaken f c).config = s.config ∧ (s.kindTaken f c).staged = s.staged ∧
      (s.kindTaken f c).time = s.time ∧ (s.kindTaken f c).out = s.out ∧ (s.kindTaken f c).free = s.free ∧ (s.kindTaken f
      c).pending = s.pending := by
  unfold State.kindTaken
  repeat' (first | split | dsimp only)
  all_goals simp

@[simp] theorem State.frameTaken_keeps (s : State) (f : Frame) (c : List Byte) :
    (s.frameTaken f c).straps = s.straps ∧ (s.frameTaken f c).config = s.config ∧ (s.frameTaken f c).staged = s.staged ∧
      (s.frameTaken f c).time = s.time ∧ (s.frameTaken f c).out = s.out ∧ (s.frameTaken f c).free = s.free ∧ (s.frameTaken f
      c).pending = s.pending := by
  unfold State.frameTaken
  all_goals simp

/-! ## Outcomes -/

@[simp] theorem State.ownClaimTaken_keeps (s : State) (n c : Nat) (f : Bool) :
    (s.ownClaimTaken n c f).straps = s.straps ∧ (s.ownClaimTaken n c f).config = s.config ∧ (s.ownClaimTaken n c f).staged =
      s.staged ∧ (s.ownClaimTaken n c f).life = s.life ∧ (s.ownClaimTaken n c f).time = s.time ∧ (s.ownClaimTaken n c f).line
      = s.line ∧ (s.ownClaimTaken n c f).table = s.table ∧ (s.ownClaimTaken n c f).claims = s.claims ∧ (s.ownClaimTaken n c
      f).stop = s.stop ∧ (s.ownClaimTaken n c f).bank = s.bank ∧ (s.ownClaimTaken n c f).plan = s.plan ∧ (s.ownClaimTaken n c
      f).machine = s.machine ∧ (s.ownClaimTaken n c f).car = s.car ∧ (s.ownClaimTaken n c f).out = s.out ∧ (s.ownClaimTaken n
      c f).free = s.free ∧ (s.ownClaimTaken n c f).pending = s.pending := by
  unfold State.ownClaimTaken
  repeat' (first | split | dsimp only)
  all_goals simp

@[simp] theorem State.ownStageTaken_keeps (s : State) (n c x : Nat) (r : Bool) :
    (s.ownStageTaken n c x r).straps = s.straps ∧ (s.ownStageTaken n c x r).config = s.config ∧ (s.ownStageTaken n c x r).staged =
      s.staged ∧ (s.ownStageTaken n c x r).life = s.life ∧ (s.ownStageTaken n c x r).time = s.time ∧ (s.ownStageTaken n c x r).line
      = s.line ∧ (s.ownStageTaken n c x r).table = s.table ∧ (s.ownStageTaken n c x r).claims = s.claims ∧ (s.ownStageTaken n c x
      r).stop = s.stop ∧ (s.ownStageTaken n c x r).bank = s.bank ∧ (s.ownStageTaken n c x r).plan = s.plan ∧ (s.ownStageTaken n c x
      r).out = s.out ∧ (s.ownStageTaken n c x r).free = s.free ∧ (s.ownStageTaken n c x r).pending = s.pending := by
  unfold State.ownStageTaken
  repeat' (first | split | dsimp only)
  all_goals simp

@[simp] theorem State.ownTaken_keeps (s : State) (e : QueueEntry) :
    (s.ownTaken e).straps = s.straps ∧ (s.ownTaken e).config = s.config ∧ (s.ownTaken e).staged = s.staged ∧ (s.ownTaken
      e).time = s.time ∧ (s.ownTaken e).out = s.out ∧ (s.ownTaken e).free = s.free ∧ (s.ownTaken e).pending = s.pending := by
  unfold State.ownTaken
  repeat' (first | split | dsimp only)
  all_goals simp

@[simp] theorem State.reportLate_keeps (s : State) (b : Body) :
    (s.reportLate b).straps = s.straps ∧ (s.reportLate b).config = s.config ∧ (s.reportLate b).staged = s.staged ∧
      (s.reportLate b).life = s.life ∧ (s.reportLate b).time = s.time ∧ (s.reportLate b).line = s.line ∧ (s.reportLate
      b).queue = s.queue ∧ (s.reportLate b).table = s.table ∧ (s.reportLate b).claims = s.claims ∧ (s.reportLate b).stop =
      s.stop ∧ (s.reportLate b).bank = s.bank ∧ (s.reportLate b).plan = s.plan ∧ (s.reportLate b).machine = s.machine ∧
      (s.reportLate b).car = s.car ∧ (s.reportLate b).out = s.out ∧ (s.reportLate b).free = s.free ∧ (s.reportLate b).pending
      = s.pending := by
  unfold State.reportLate
  repeat' (first | split | dsimp only)
  all_goals simp

@[simp] theorem State.afterThird_keeps (s : State) (b : Body) :
    (s.afterThird b).straps = s.straps ∧ (s.afterThird b).config = s.config ∧ (s.afterThird b).staged = s.staged ∧
      (s.afterThird b).life = s.life ∧ (s.afterThird b).time = s.time ∧ (s.afterThird b).line = s.line ∧ (s.afterThird
      b).queue = s.queue ∧ (s.afterThird b).table = s.table ∧ (s.afterThird b).stop = s.stop ∧ (s.afterThird b).plan = s.plan
      ∧ (s.afterThird b).out = s.out ∧ (s.afterThird b).port = s.port ∧ (s.afterThird b).free = s.free ∧ (s.afterThird
      b).pending = s.pending := by
  unfold State.afterThird
  repeat' (first | split | dsimp only)
  all_goals simp

@[simp] theorem State.ownRetried_keeps (s : State) (e : QueueEntry) :
    (s.ownRetried e).straps = s.straps ∧ (s.ownRetried e).config = s.config ∧ (s.ownRetried e).staged = s.staged ∧
      (s.ownRetried e).life = s.life ∧ (s.ownRetried e).time = s.time ∧ (s.ownRetried e).line = s.line ∧ (s.ownRetried
      e).table = s.table ∧ (s.ownRetried e).stop = s.stop ∧ (s.ownRetried e).plan = s.plan ∧ (s.ownRetried e).out = s.out ∧
      (s.ownRetried e).free = s.free ∧ (s.ownRetried e).pending = s.pending := by
  unfold State.ownRetried
  repeat' (first | split | dsimp only)
  all_goals simp

@[simp] theorem State.ownVetoed_keeps (s : State) (e : QueueEntry) :
    (s.ownVetoed e).straps = s.straps ∧ (s.ownVetoed e).config = s.config ∧ (s.ownVetoed e).staged = s.staged ∧ (s.ownVetoed
      e).time = s.time ∧ (s.ownVetoed e).out = s.out ∧ (s.ownVetoed e).free = s.free ∧ (s.ownVetoed e).pending = s.pending := by
  unfold State.ownVetoed
  repeat' (first | split | dsimp only)
  all_goals simp

@[simp] theorem State.ownOutcome_keeps (s : State) (v : Bool) :
    (s.ownOutcome v).straps = s.straps ∧ (s.ownOutcome v).config = s.config ∧ (s.ownOutcome v).staged = s.staged ∧
      (s.ownOutcome v).time = s.time ∧ (s.ownOutcome v).out = s.out ∧ (s.ownOutcome v).free = s.free ∧ (s.ownOutcome
      v).pending = s.pending := by
  unfold State.ownOutcome
  repeat' (first | split | dsimp only)
  all_goals simp

@[simp] theorem State.counters_keeps (s : State) (f : Bool) :
    (s.counters f).straps = s.straps ∧ (s.counters f).config = s.config ∧ (s.counters f).staged = s.staged ∧ (s.counters
      f).time = s.time ∧ (s.counters f).table = s.table ∧ (s.counters f).stop = s.stop ∧ (s.counters f).bank = s.bank ∧
      (s.counters f).out = s.out ∧ (s.counters f).pending = s.pending := by
  unfold State.counters
  repeat' (first | split | dsimp only)
  all_goals simp

@[simp] theorem State.handOn_keeps (s : State) (w : Window) (v : Bool) :
    (s.handOn w v).straps = s.straps ∧ (s.handOn w v).config = s.config ∧ (s.handOn w v).staged = s.staged ∧ (s.handOn w
      v).time = s.time ∧ (s.handOn w v).out = s.out ∧ (s.handOn w v).free = s.free ∧ (s.handOn w v).pending = s.pending := by
  unfold State.handOn
  repeat' (first | split | dsimp only)
  all_goals simp

@[simp] theorem State.clashCheck_keeps (s : State) (w : Window) :
    (s.clashCheck w).straps = s.straps ∧ (s.clashCheck w).config = s.config ∧ (s.clashCheck w).staged = s.staged ∧
      (s.clashCheck w).time = s.time ∧ (s.clashCheck w).table = s.table ∧ (s.clashCheck w).out = s.out ∧ (s.clashCheck w).free
      = s.free ∧ (s.clashCheck w).pending = s.pending := by
  unfold State.clashCheck
  repeat' (first | split | dsimp only)
  all_goals simp

@[simp] theorem State.conclude_keeps (s : State) (w : Window) (v : Bool) :
    (s.conclude w v).straps = s.straps ∧ (s.conclude w v).config = s.config ∧ (s.conclude w v).staged = s.staged ∧ (s.conclude
      w v).time = s.time ∧ (s.conclude w v).out = s.out ∧ (s.conclude w v).pending = s.pending := by
  unfold State.conclude
  repeat' (first | split | dsimp only)
  all_goals simp

@[simp] theorem State.ownCut_keeps (s : State) (e : QueueEntry) :
    (s.ownCut e).straps = s.straps ∧ (s.ownCut e).config = s.config ∧ (s.ownCut e).staged = s.staged ∧ (s.ownCut e).time =
      s.time ∧ (s.ownCut e).out = s.out ∧ (s.ownCut e).free = s.free ∧ (s.ownCut e).pending = s.pending := by
  unfold State.ownCut
  repeat' (first | split | dsimp only)
  all_goals simp

@[simp] theorem State.cutInFlight_keeps (s : State) :
    (s.cutInFlight).straps = s.straps ∧ (s.cutInFlight).config = s.config ∧ (s.cutInFlight).staged = s.staged ∧
      (s.cutInFlight).time = s.time ∧ (s.cutInFlight).out = s.out ∧ (s.cutInFlight).free = s.free ∧ (s.cutInFlight).pending =
      s.pending := by
  unfold State.cutInFlight
  repeat' (first | split | dsimp only)
  all_goals simp

@[simp] theorem State.cutUnsampled_keeps (s : State) :
    (s.cutUnsampled).straps = s.straps ∧ (s.cutUnsampled).config = s.config ∧ (s.cutUnsampled).staged = s.staged ∧
      (s.cutUnsampled).time = s.time ∧ (s.cutUnsampled).out = s.out ∧ (s.cutUnsampled).free = s.free ∧
      (s.cutUnsampled).pending = s.pending := by
  unfold State.cutUnsampled
  repeat' (first | split | dsimp only)
  all_goals simp

/-! ## Windows -/

@[simp] theorem State.recordVeto_keeps (s : State) (w : Window) (c : Cause) :
    (s.recordVeto w c).straps = s.straps ∧ (s.recordVeto w c).config = s.config ∧ (s.recordVeto w c).staged = s.staged ∧
      (s.recordVeto w c).life = s.life ∧ (s.recordVeto w c).time = s.time ∧ (s.recordVeto w c).line = s.line ∧ (s.recordVeto w
      c).queue = s.queue ∧ (s.recordVeto w c).table = s.table ∧ (s.recordVeto w c).stop = s.stop ∧ (s.recordVeto w c).bank =
      s.bank ∧ (s.recordVeto w c).plan = s.plan ∧ (s.recordVeto w c).machine = s.machine ∧ (s.recordVeto w c).car = s.car ∧
      (s.recordVeto w c).out = s.out ∧ (s.recordVeto w c).free = s.free ∧ (s.recordVeto w c).pending = s.pending := by
  unfold State.recordVeto
  repeat' (first | split | dsimp only)
  all_goals simp

@[simp] theorem State.askConsent_keeps (s : State) (f : Frame) :
    (s.askConsent f).straps = s.straps ∧ (s.askConsent f).config = s.config ∧ (s.askConsent f).staged = s.staged ∧
      (s.askConsent f).life = s.life ∧ (s.askConsent f).time = s.time ∧ (s.askConsent f).line = s.line ∧ (s.askConsent
      f).queue = s.queue ∧ (s.askConsent f).table = s.table ∧ (s.askConsent f).stop = s.stop ∧ (s.askConsent f).bank = s.bank
      ∧ (s.askConsent f).plan = s.plan ∧ (s.askConsent f).machine = s.machine ∧ (s.askConsent f).car = s.car ∧ (s.askConsent
      f).out = s.out ∧ (s.askConsent f).free = s.free ∧ (s.askConsent f).pending = s.pending := by
  unfold State.askConsent
  repeat' (first | split | dsimp only)
  all_goals simp

@[simp] theorem State.openWindow_keeps (s : State) (w : Window) :
    (s.openWindow w).straps = s.straps ∧ (s.openWindow w).config = s.config ∧ (s.openWindow w).staged = s.staged ∧
      (s.openWindow w).life = s.life ∧ (s.openWindow w).time = s.time ∧ (s.openWindow w).queue = s.queue ∧ (s.openWindow
      w).table = s.table ∧ (s.openWindow w).stop = s.stop ∧ (s.openWindow w).bank = s.bank ∧ (s.openWindow w).plan = s.plan ∧
      (s.openWindow w).machine = s.machine ∧ (s.openWindow w).car = s.car ∧ (s.openWindow w).out = s.out ∧ (s.openWindow
      w).free = s.free ∧ (s.openWindow w).pending = s.pending := by
  unfold State.openWindow
  repeat' (first | split | dsimp only)
  all_goals simp

@[simp] theorem State.changeWindow_keeps (s : State) (f : Window → Window) :
    (s.changeWindow f).straps = s.straps ∧ (s.changeWindow f).config = s.config ∧ (s.changeWindow f).staged = s.staged ∧
      (s.changeWindow f).life = s.life ∧ (s.changeWindow f).time = s.time ∧ (s.changeWindow f).queue = s.queue ∧
      (s.changeWindow f).table = s.table ∧ (s.changeWindow f).claims = s.claims ∧ (s.changeWindow f).stop = s.stop ∧
      (s.changeWindow f).bank = s.bank ∧ (s.changeWindow f).plan = s.plan ∧ (s.changeWindow f).machine = s.machine ∧
      (s.changeWindow f).car = s.car ∧ (s.changeWindow f).out = s.out ∧ (s.changeWindow f).port = s.port ∧ (s.changeWindow
      f).free = s.free ∧ (s.changeWindow f).pending = s.pending := by
  unfold State.changeWindow
  all_goals simp

@[simp] theorem State.releaseHold_keeps (s : State) (w : Window) :
    (s.releaseHold w).straps = s.straps ∧ (s.releaseHold w).config = s.config ∧ (s.releaseHold w).staged = s.staged ∧
      (s.releaseHold w).life = s.life ∧ (s.releaseHold w).time = s.time ∧ (s.releaseHold w).queue = s.queue ∧ (s.releaseHold
      w).table = s.table ∧ (s.releaseHold w).stop = s.stop ∧ (s.releaseHold w).bank = s.bank ∧ (s.releaseHold w).plan = s.plan
      ∧ (s.releaseHold w).machine = s.machine ∧ (s.releaseHold w).car = s.car ∧ (s.releaseHold w).out = s.out ∧ (s.releaseHold
      w).free = s.free ∧ (s.releaseHold w).pending = s.pending := by
  unfold State.releaseHold
  repeat' (first | split | dsimp only)
  all_goals simp

@[simp] theorem State.putWindow_keeps (s : State) (w : Window) :
    (s.putWindow w).straps = s.straps ∧ (s.putWindow w).config = s.config ∧ (s.putWindow w).staged = s.staged ∧ (s.putWindow
      w).life = s.life ∧ (s.putWindow w).time = s.time ∧ (s.putWindow w).queue = s.queue ∧ (s.putWindow w).table = s.table ∧
      (s.putWindow w).stop = s.stop ∧ (s.putWindow w).bank = s.bank ∧ (s.putWindow w).plan = s.plan ∧ (s.putWindow w).machine
      = s.machine ∧ (s.putWindow w).car = s.car ∧ (s.putWindow w).out = s.out ∧ (s.putWindow w).free = s.free ∧ (s.putWindow
      w).pending = s.pending := by
  unfold State.putWindow
  all_goals simp

@[simp] theorem State.closeAsk_keeps (s : State) (w : Window) (v : Verdict) :
    (s.closeAsk w v).straps = s.straps ∧ (s.closeAsk w v).config = s.config ∧ (s.closeAsk w v).staged = s.staged ∧ (s.closeAsk
      w v).life = s.life ∧ (s.closeAsk w v).time = s.time ∧ (s.closeAsk w v).queue = s.queue ∧ (s.closeAsk w v).table =
      s.table ∧ (s.closeAsk w v).stop = s.stop ∧ (s.closeAsk w v).bank = s.bank ∧ (s.closeAsk w v).plan = s.plan ∧ (s.closeAsk
      w v).machine = s.machine ∧ (s.closeAsk w v).car = s.car ∧ (s.closeAsk w v).out = s.out ∧ (s.closeAsk w v).free = s.free
      ∧ (s.closeAsk w v).pending = s.pending := by
  unfold State.closeAsk
  all_goals simp

@[simp] theorem State.holdTimeout_keeps (s : State) (w : Window) :
    (s.holdTimeout w).straps = s.straps ∧ (s.holdTimeout w).config = s.config ∧ (s.holdTimeout w).staged = s.staged ∧
      (s.holdTimeout w).life = s.life ∧ (s.holdTimeout w).time = s.time ∧ (s.holdTimeout w).queue = s.queue ∧ (s.holdTimeout
      w).table = s.table ∧ (s.holdTimeout w).stop = s.stop ∧ (s.holdTimeout w).bank = s.bank ∧ (s.holdTimeout w).plan = s.plan
      ∧ (s.holdTimeout w).machine = s.machine ∧ (s.holdTimeout w).car = s.car ∧ (s.holdTimeout w).out = s.out ∧ (s.holdTimeout
      w).free = s.free ∧ (s.holdTimeout w).pending = s.pending := by
  unfold State.holdTimeout
  repeat' (first | split | dsimp only)
  all_goals simp

/-! ## Local port -/

@[simp] theorem State.badMessage_keeps (s : State) (k : Option Byte) :
    (s.badMessage k).straps = s.straps ∧ (s.badMessage k).config = s.config ∧ (s.badMessage k).staged = s.staged ∧
      (s.badMessage k).life = s.life ∧ (s.badMessage k).time = s.time ∧ (s.badMessage k).line = s.line ∧ (s.badMessage
      k).queue = s.queue ∧ (s.badMessage k).table = s.table ∧ (s.badMessage k).claims = s.claims ∧ (s.badMessage k).stop =
      s.stop ∧ (s.badMessage k).bank = s.bank ∧ (s.badMessage k).plan = s.plan ∧ (s.badMessage k).machine = s.machine ∧
      (s.badMessage k).car = s.car ∧ (s.badMessage k).out = s.out ∧ (s.badMessage k).free = s.free ∧ (s.badMessage k).pending
      = s.pending := by
  unfold State.badMessage
  all_goals simp

@[simp] theorem State.handCommand_keeps (s : State) (c : Command) :
    (s.handCommand c).straps = s.straps ∧ (s.handCommand c).config = s.config ∧ (s.handCommand c).staged = s.staged ∧
      (s.handCommand c).life = s.life ∧ (s.handCommand c).time = s.time ∧ (s.handCommand c).line = s.line ∧ (s.handCommand
      c).queue = s.queue ∧ (s.handCommand c).table = s.table ∧ (s.handCommand c).claims = s.claims ∧ (s.handCommand c).stop =
      s.stop ∧ (s.handCommand c).bank = s.bank ∧ (s.handCommand c).plan = s.plan ∧ (s.handCommand c).machine = s.machine ∧
      (s.handCommand c).car = s.car ∧ (s.handCommand c).out = s.out ∧ (s.handCommand c).free = s.free ∧ (s.handCommand
      c).pending = s.pending := by
  unfold State.handCommand
  repeat' (first | split | dsimp only)
  all_goals simp

@[simp] theorem State.receiveByte_keeps (s : State) (b : RxChar) :
    (s.receiveByte b).straps = s.straps ∧ (s.receiveByte b).config = s.config ∧ (s.receiveByte b).staged = s.staged ∧
      (s.receiveByte b).life = s.life ∧ (s.receiveByte b).time = s.time ∧ (s.receiveByte b).line = s.line ∧ (s.receiveByte
      b).queue = s.queue ∧ (s.receiveByte b).table = s.table ∧ (s.receiveByte b).claims = s.claims ∧ (s.receiveByte b).stop =
      s.stop ∧ (s.receiveByte b).bank = s.bank ∧ (s.receiveByte b).plan = s.plan ∧ (s.receiveByte b).machine = s.machine ∧
      (s.receiveByte b).car = s.car ∧ (s.receiveByte b).out = s.out ∧ (s.receiveByte b).free = s.free ∧ (s.receiveByte
      b).pending = s.pending := by
  unfold State.receiveByte
  repeat' (first | split | dsimp only)
  all_goals simp

@[simp] theorem State.refuse_keeps (s : State) (c : Cause) :
    (s.refuse c).straps = s.straps ∧ (s.refuse c).config = s.config ∧ (s.refuse c).staged = s.staged ∧ (s.refuse c).life =
      s.life ∧ (s.refuse c).time = s.time ∧ (s.refuse c).line = s.line ∧ (s.refuse c).queue = s.queue ∧ (s.refuse c).table =
      s.table ∧ (s.refuse c).claims = s.claims ∧ (s.refuse c).stop = s.stop ∧ (s.refuse c).bank = s.bank ∧ (s.refuse c).plan =
      s.plan ∧ (s.refuse c).machine = s.machine ∧ (s.refuse c).car = s.car ∧ (s.refuse c).out = s.out ∧ (s.refuse c).free =
      s.free ∧ (s.refuse c).pending = s.pending := by
  unfold State.refuse
  all_goals simp

@[simp] theorem State.offerFor_keeps (s : State) (b : Body) (v : List Byte) :
    (s.offerFor b v).straps = s.straps ∧ (s.offerFor b v).config = s.config ∧ (s.offerFor b v).staged = s.staged ∧ (s.offerFor
      b v).life = s.life ∧ (s.offerFor b v).time = s.time ∧ (s.offerFor b v).line = s.line ∧ (s.offerFor b v).table = s.table
      ∧ (s.offerFor b v).claims = s.claims ∧ (s.offerFor b v).stop = s.stop ∧ (s.offerFor b v).bank = s.bank ∧ (s.offerFor b
      v).plan = s.plan ∧ (s.offerFor b v).machine = s.machine ∧ (s.offerFor b v).car = s.car ∧ (s.offerFor b v).out = s.out ∧
      (s.offerFor b v).free = s.free ∧ (s.offerFor b v).pending = s.pending := by
  unfold State.offerFor
  repeat' (first | split | dsimp only)
  all_goals simp

end Sys2Proof.Machine
end

