-- ==== Sys2Proof/Laws/Offers.lean ====
section
/-! SUPPORT. What a station's own offers do, once for each shared operation: the offer of a stage or abandon frame (R15), the comparison of the
ready wish (R162), the abandon of a displacement (R167) and the revoke that a guide owes (R141), each in the words of the statements. -/

namespace Sys2Proof.Machine

/-- A stage or abandon frame is queued exactly ON_LINE with room in the queue (R15, R32). -/
theorem State.accepts_iff (s : State) (b : Body) (h : b.kind = .pushStage ∨ b.kind = .pushAbandon) :
    s.accepts b = true ↔ s.life.state = .onLine ∧ s.queue.length < 8 := by
  have fresh : freshQueue b.kind s.queue = s.queue := by
    refine List.filter_eq_self.2 fun e _ => ?_
    rcases h with h | h <;> simp [QueueEntry.obsolete, h]
  have may : s.maySend b.kind = true ↔ s.life.state = .onLine := by
    rcases h with h | h <;> cases hs : s.life.state <;> simp [State.maySend, hs, h]
  rw [State.accepts, fresh, Bool.and_eq_true, may, decide_eq_true_eq]

/-- The offer of such a frame: at the tail of the queue, or refused with a report (R15). -/
theorem State.offer_stands (s : State) (b : Body) (h : b.kind = .pushStage ∨ b.kind = .pushAbandon) :
    (s.life.state = .onLine ∧ s.queue.length < 8 → s.offer b = s.withQueue (s.queue ++ [⟨b, false, s.time, 0, false⟩])) ∧
    (¬(s.life.state = .onLine ∧ s.queue.length < 8) → s.offer b = s.report (.frameRefused b)) := by
  have fresh : freshQueue b.kind s.queue = s.queue := by
    refine List.filter_eq_self.2 fun e _ => ?_
    rcases h with h | h <;> simp [QueueEntry.obsolete, h]
  refine ⟨fun hs => ?_, fun hs => ?_⟩
  · rw [State.offer, if_pos ((s.accepts_iff b h).2 hs), fresh]; rfl
  · rw [State.offer, if_neg (fun ha => hs ((s.accepts_iff b h).1 ha))]
    rcases h with h | h <;> simp [State.reportIf, FrameKind.retriable, h]

/-- The frames of a stage, in the words of the statements. -/
theorem Body.isStageTo_eq (c : Nat) (x : Stage) (r : Bool) (b : Body) : Body.isStageTo c x r b = b.ofStage c x.code r := by
  cases b <;> rfl

theorem Body.isStage_eq (c : Nat) (x : Stage) (b : Body) : Body.isStage c x b = (b.ofStage c x.code false || b.ofStage c x.code true) := by
  cases b with
  | pushStage n k y r => cases r <;> simp [Body.isStage, Body.ofStage]
  | _ => rfl

theorem Body.isAbandonOf_eq (c : Nat) (b : Body) : Body.isAbandonOf c b = b.ofAbandon c := by cases b <;> rfl

theorem any_or {α : Type} (l : List α) (p q : α → Bool) : (l.any fun x => p x || q x) = (l.any p || l.any q) := by
  induction l with
  | nil => rfl
  | cons x l ih => simp [ih, Bool.or_assoc, Bool.or_left_comm]

/-- The open claim's wish, as the statements have it (R162). -/
theorem State.readyWish_eq {s : State} {c : Claim} (h : s.openClaim = some c) : s.readyWish = s.car.readyWish c := by
  simp [State.readyWish, Car.readyWish, h, Car.wishesReady, Bool.and_assoc]

/-- What the car unit's offers leave of a state: car, queue and port. -/
def State.carOffers (s : State) : CarOffers := ⟨s.car, s.queue, s.port⟩

/-- One offer of the car unit. -/
theorem State.offer_carOffers (s : State) (b : Body) (h : b.kind = .pushStage ∨ b.kind = .pushAbandon) :
    (s.offer b).carOffers = s.carOffers.offer s b id := by
  by_cases hs : s.life.state = .onLine ∧ s.queue.length < 8
  · simp [(s.offer_stands b h).1 hs, State.carOffers, CarOffers.offer, hs]
  · simp [(s.offer_stands b h).2 hs, State.carOffers, CarOffers.offer, hs]

/-- The comparison of the ready wish (R126, R162). -/
theorem State.compareReady_carOffers (s : State) (h : s.role = .quench) : s.compareReady.carOffers = s.carOffers.compared s := by
  cases hc : s.openClaim with
  | none => simp [State.compareReady, CarOffers.compared, h, hc]
  | some c =>
    have any : (s.queue.any fun e => e.body.ofStage c.serial 9 false || e.body.ofStage c.serial 9 true) =
        s.queued (Body.isStage c.serial .carReady) := by
      unfold State.queued
      congr 1; funext e
      exact (Body.isStage_eq c.serial .carReady e.body).symm
    have opposite (r : Bool) : (fun e : QueueEntry => e.inFlight || !e.body.ofStage c.serial 9 r) =
        fun e => e.inFlight || !Body.isStageTo c.serial .carReady r e.body := by
      funext e; rw [Body.isStageTo_eq c.serial .carReady r e.body]; rfl
    simp only [State.compareReady, CarOffers.compared, h, hc, State.readyWish_eq hc, State.carOffers]
    generalize s.car.readyWish c = wish
    have b : (Body.pushStage c.oven c.serial Stage.carReady.code (!wish)).kind = .pushStage := rfl
    simp only [CarOffers.wishing, any, opposite]
    by_cases hq : s.queued (Body.isStage c.serial .carReady) = true
    · simp [hq, State.withdraw]
    · rw [if_neg hq, if_neg hq]
      by_cases hd : wish = c.stages.carReady ∨ c.stages.carLoaded = true
      · rw [if_pos hd, if_neg (by rcases hd with hd | hd <;> simp [hd])]
      · have hd' : wish ≠ c.stages.carReady ∧ c.stages.carLoaded = false := by simpa [not_or] using hd
        rw [if_neg hd, if_pos hd']
        by_cases hl : s.life.state = .onLine
        · rw [if_pos (by simp [State.onLine, hl]), if_pos hl]
          by_cases hs : s.life.state = .onLine ∧ s.queue.length < 8
          · rw [if_pos ((s.accepts_iff _ (.inl b)).2 hs), (s.offer_stands _ (.inl b)).1 hs]
            simp [CarOffers.offer, hs, Stage.code]
          · rw [if_neg fun a => hs ((s.accepts_iff _ (.inl b)).1 a), (s.offer_stands _ (.inl b)).2 hs]
            simp [State.startReadyTimer, State.changeCar, CarOffers.offer, hs, Stage.code]
        · rw [if_neg (by simp [State.onLine, hl]), if_neg hl]
          rfl

/-- The abandon of a displacement (R167). -/
theorem State.offerCarAbandon_carOffers (s : State) : s.offerCarAbandon.carOffers = s.carOffers.abandoning s := by
  cases hc : s.openClaim with
  | none => simp [State.offerCarAbandon, CarOffers.abandoning, hc]
  | some c =>
    have any : (s.queue.any fun e => e.body.ofAbandon c.serial) = s.queued (Body.isAbandonOf c.serial) := by
      simp only [State.queued, Body.isAbandonOf_eq]
    simp only [State.offerCarAbandon, CarOffers.abandoning, hc, State.carOffers, any]
    split
    · rfl
    · exact s.offer_carOffers _ (.inr rfl)

/-- The revoke that a guide owes for the OPEN claim (R126, R141). -/
theorem State.offerRevoke_revokeOffers (s : State) (c : Claim) (h : s.openClaim = some c) (ho : s.machine.revokeOwed = some c.serial) :
    s.offerRevoke.machine = (s.revokeOffers c s.machine).machine ∧ s.offerRevoke.queue = (s.revokeOffers c s.machine).queue ∧
      s.offerRevoke.port = (s.revokeOffers c s.machine).port := by
  have stage (r : Bool) : (fun e : QueueEntry => e.body.ofStage c.serial 8 r) = fun e => Body.isStageTo c.serial .guideSet r e.body := by
    funext e; exact (Body.isStageTo_eq c.serial .guideSet r e.body).symm
  have any : (s.queue.any fun e => e.body.ofStage c.serial 8 true || (e.inFlight && e.body.ofStage c.serial 8 false)) =
      (s.queued (Body.isStageTo c.serial .guideSet true) || s.queuedInFlight (Body.isStageTo c.serial .guideSet false)) := by
    simp only [State.queued, State.queuedInFlight, ← any_or, Body.isStageTo_eq]
    rfl
  simp only [State.offerRevoke, State.revokeOffers, ho, h, any, stage, ne_eq, not_true, if_false]
  by_cases h1 : s.queued (Body.isStageTo c.serial .guideSet true) = true
  · simp [h1]
  by_cases h2 : s.queuedInFlight (Body.isStageTo c.serial .guideSet false) = true
  · simp [h1, h2]
  have pending : ∀ e ∈ s.queue, Body.isStageTo c.serial .guideSet false e.body = true → e.inFlight = false := by
    intro e he hb
    cases hf : e.inFlight
    · rfl
    · exact absurd (List.any_eq_true.2 ⟨e, he, by simp [hf, hb]⟩) h2
  have same : s.queuedPending (Body.isStageTo c.serial .guideSet false) = s.queued (Body.isStageTo c.serial .guideSet false) := by
    rw [Bool.eq_iff_iff, State.queuedPending, State.queued, List.any_eq_true, List.any_eq_true]
    exact ⟨fun ⟨e, he, hb⟩ => ⟨e, he, by simpa using (Bool.and_eq_true _ _ ▸ hb).2⟩, fun ⟨e, he, hb⟩ => ⟨e, he, by simp [pending e he hb, hb]⟩⟩
  have left : s.queue.filter (fun e => e.inFlight || !Body.isStageTo c.serial .guideSet false e.body) =
      s.queue.filter fun e => !e.body.ofStage c.serial 8 false := by
    refine List.filter_congr fun e he => ?_
    rw [Body.isStageTo_eq]
    cases hb : Body.isStageTo c.serial .guideSet false e.body
    · rw [← Body.isStageTo_eq, hb]; simp [← Body.isStageTo_eq, show (8 : Nat) = Stage.guideSet.code from rfl, hb]
    · simp [pending e he hb, show Stage.guideSet.code = 8 from rfl]
  simp only [Bool.not_eq_true] at h1 h2
  simp only [h1, h2, same, Bool.or_self, Bool.false_eq_true, if_false]
  by_cases h3 : s.queued (Body.isStageTo c.serial .guideSet false) = true
  · have h3' : (s.queue.any fun e => Body.isStageTo c.serial .guideSet false e.body) = true := h3
    simp [h3, h3', State.withdraw, State.changeMachine, left, ho]
  · have h3' : ¬(s.queue.any fun e => Body.isStageTo c.serial .guideSet false e.body) = true := h3
    rw [if_neg h3, if_neg h3']
    have b : (Body.pushStage c.oven c.serial Stage.guideSet.code true).kind = .pushStage := rfl
    by_cases hs : s.life.state = .onLine ∧ s.queue.length < 8
    · have a := ((s.changeMachine fun m => { m with revokeTimer := none }).accepts_iff _ (.inl b)).2 hs
      rw [if_pos a, ((s.changeMachine fun m => { m with revokeTimer := none }).offer_stands _ (.inl b)).1 hs, if_pos hs]
      exact ⟨by simp [State.changeMachine, ho], rfl, rfl⟩
    · have a := fun a => hs (((s.changeMachine fun m => { m with revokeTimer := none }).accepts_iff _ (.inl b)).1 a)
      rw [if_neg a, ((s.changeMachine fun m => { m with revokeTimer := none }).offer_stands _ (.inl b)).2 hs, if_neg hs]
      exact ⟨by simp [State.changeMachine, ho], rfl, rfl⟩

end Sys2Proof.Machine
end

