-- ==== Sys2Proof/Laws/Outputs.lean ====
section
/-! SUPPORT. The outputs: what they are read from, what `derive` leaves, and the spelled-out form of `State.OutputsSound`. -/

namespace Sys2Proof.Machine

/-- Two states that agree in everything the outputs are read from have the same outputs. -/
theorem State.outputs_congr {s t : State} (h1 : t.straps = s.straps) (h2 : t.config = s.config) (h3 : t.life.state = s.life.state)
    (h4 : t.stop.stopped = s.stop.stopped) (h5 : t.claims.record = s.claims.record) (h6 : t.claims.reseals = s.claims.reseals)
    (h7 : t.machine.chain = s.machine.chain) (h8 : t.machine.position = s.machine.position) (h9 : t.car.state = s.car.state)
    (h10 : t.car.chain = s.car.chain) : t.outputs = s.outputs := by
  simp only [State.outputs, State.ramPermit, State.extractorPermit, State.carActive, State.pushGround, State.resealOn, State.openReseals,
    State.openClaim, State.side?, State.role, State.onLine, State.started, h1, h2, h3, h4, h5, h6, h7, h8, h9, h10]
  rfl

/-- The outputs of a state that has had them derived are its outputs. -/
@[simp] theorem State.derive_outputs (s : State) : s.derive.outputs = s.outputs := rfl

/-- The ram permit, spelled out (R145). -/
theorem State.ramPermit_iff (s : State) :
    s.ramPermit = true ↔
      s.role = .pusher ∧ s.life.state = .onLine ∧ s.stop.stopped = false ∧ s.machine.chain = true ∧
        ∃ c, s.claims.record = some c ∧ c.ending = .opened ∧ c.oven = s.machine.position ∧ c.stages.isolated = true ∧
          c.stages.psDoorOff = true ∧ c.stages.csDoorOff = true ∧ c.stages.guideSet = true ∧ c.stages.carReady = true ∧
          c.stages.ramHome = false := by
  cases h : s.claims.record with
  | none => simp [State.ramPermit, State.openClaim, State.onLine, h]
  | some c =>
    by_cases ho : c.ending = .opened
    · simp [State.ramPermit, State.openClaim, State.onLine, h, ho, and_assoc]
    · simp [State.ramPermit, State.openClaim, State.onLine, h, ho]

/-- The extractor permit, spelled out (R146). -/
theorem State.extractorPermit_iff (s : State) :
    s.extractorPermit = true ↔
      ∃ j : Side, s.role = j.role ∧ s.life.state = .onLine ∧ s.stop.stopped = false ∧ s.machine.chain = true ∧
        ((∃ c, s.claims.record = some c ∧ c.ending = .opened ∧ c.oven = s.machine.position ∧ c.stages.isolated = true ∧
            c.stages.has j.doorOn = false) ∨
          ∃ r, some r ∈ s.claims.reseals ∧ r.ending = .opened ∧ r.oven = s.machine.position ∧ r.side = j) := by
  have push : ∀ x : Stage, s.pushGround x = true ↔
      ∃ c, s.claims.record = some c ∧ c.ending = .opened ∧ c.oven = s.machine.position ∧ c.stages.isolated = true ∧
        c.stages.has x = false := by
    intro x
    cases h : s.claims.record with
    | none => simp [State.pushGround, State.openClaim, h]
    | some c =>
      by_cases ho : c.ending = .opened
      · simp [State.pushGround, State.openClaim, h, ho, and_assoc]
      · simp [State.pushGround, State.openClaim, h, ho]
  have reseal : ∀ j : Side, s.resealOn s.machine.position j = true ↔
      ∃ r, some r ∈ s.claims.reseals ∧ r.ending = .opened ∧ r.oven = s.machine.position ∧ r.side = j := by
    intro j
    simp only [State.resealOn, State.openReseals, Reseal.isOpen, List.any_filter, List.any_filterMap, List.any_eq_true]
    constructor
    · rintro ⟨x, hx, h⟩
      cases x with
      | none => simp at h
      | some r => exact ⟨r, hx, by simpa using h⟩
    · rintro ⟨r, hr, h⟩
      exact ⟨some r, hr, by simpa using h⟩
  have split : s.extractorPermit = true ↔ ∃ j : Side, s.role = j.role ∧ s.onLine = true ∧ s.stop.stopped = false ∧
      s.machine.chain = true ∧ (s.pushGround j.doorOn = true ∨ s.resealOn s.machine.position j = true) := by
    unfold State.extractorPermit State.side?
    constructor
    · intro h
      cases hr : s.role <;> simp [hr, and_assoc] at h
      · exact ⟨.ps, by simpa [Side.role, Side.doorOn, and_assoc] using h⟩
      · exact ⟨.cs, by simpa [Side.role, Side.doorOn, and_assoc] using h⟩
    · rintro ⟨j, hr, h⟩
      cases j <;> simp_all [Side.role, Side.doorOn]
  simp [split, push, reseal, State.onLine]

/-- The invariant of the outputs, in the form in which a row derives them. -/
theorem State.outputsSound_iff (s : State) : s.OutputsSound ↔ s.out = s.outputs := by
  have car : s.carActive = true ↔ s.role = .quench ∧ s.config ≠ none := by
    simp [State.carActive, State.started, Option.isSome_iff_ne_none]
  have eq (o p : Outputs) : o = p ↔ (o.ram = true ↔ p.ram = true) ∧ (o.extractor = true ↔ p.extractor = true) ∧
      (o.travel = true ↔ p.travel = true) ∧ (o.spray = true ↔ p.spray = true) ∧ (o.gate = true ↔ p.gate = true) := by
    rcases o with ⟨a, b, c, d, e⟩
    rcases p with ⟨a', b', c', d', e'⟩
    cases a <;> cases b <;> cases c <;> cases d <;> cases e <;> cases a' <;> cases b' <;> cases c' <;> cases d' <;> cases e' <;> simp
  rw [eq]
  simp only [State.OutputsSound, ← State.ramPermit_iff, ← State.extractorPermit_iff, State.outputs, Bool.and_eq_true, decide_eq_true_eq,
    Bool.not_eq_true', car, and_assoc]

/-- A row that leaves what the outputs are read from leaves sound outputs as they are. -/
theorem State.derive_eq {s t : State} (h : s.OutputsSound) (ho : t.out = s.out) (he : t.outputs = s.outputs) : t.derive = t := by
  rw [State.outputsSound_iff] at h
  show { t with out := t.outputs } = t
  rw [he, ← h, ← ho]

/-- What a row derives is sound. -/
theorem State.derive_sound (s : State) : s.derive.OutputsSound := by
  rw [State.outputsSound_iff]
  rfl

end Sys2Proof.Machine
end

