-- ==== Sys2Proof/WellFormed.lean ====
section
/-! DEFINITION. Which operands the part's pins and links can carry. -/

namespace Sys2Proof

/-- A loop, oven or pressure channel of a bank: 0..7 (R53). -/
abbrev ovenIndexOk (i : Nat) : Bool := decide (i < 8)

/-- A latch input or leak channel: 0..15 (R77). -/
abbrev doorIndexOk (d : Nat) : Bool := decide (d < 16)

/-- A slot of the reseal claim records: 0..3 (R90). -/
abbrev slotOk (r : Nat) : Bool := decide (r < 4)

/-- A frame has at most 4 + 16 characters and a census field at most 16 (R4). -/
abbrev receptionOk (rx : Reception) : Bool := decide (rx.chars.length ≤ 20) && decide (rx.census.length ≤ 16)

/-- At most the 31 other stations of a line contend with this one (scope, section 1). -/
abbrev rivalsOk (rs : List Byte) : Bool := decide (rs.length ≤ 31)

/-- The operands lie in the ranges of the pins and links they come from. -/
def wellFormed : Instr → Bool
  | .contend rs => rivalsOk rs
  | .frameEnd rx => receptionOk rx
  | .heldTimerExpiry i | .pressureSample i _ | .sampleWatchExpiry i | .lostTimerExpiry i | .chargeTimerExpiry i => ovenIndexOk i
  | .latchEvent d _ | .leakLevel d _ | .seatTimerExpiry d | .leakingTimerExpiry d | .callTimerExpiry d
  | .mismatchWatchExpiry d | .resealTimerExpiry d => doorIndexOk d
  | .resealRecordTimerExpiry r => slotOk r
  | .hardwareReset .. | .idleGapComplete | .otherStartBit | .idClash _ | .voidFrame | .consentTimeout | .holdTimeout
  | .settleOutcome _ | .lineBlocked | .blockedCleared _ | .stopRunDetected | .stopRunEnd _ | .stuckLine | .unnotedMarkExpiry
  | .stopInputAsserted | .stopInputClear | .censusTimerExpiry | .announceTimer _ | .leaveTimeout | .ovenTick | .mainSample _
  | .mainReportTimer | .planTimerExpiry | .chainOpens | .chainClosed | .revokeRetryTimer | .moveStart | .moveTimerExpiry
  | .quenchTimeExpiry | .drainTimeExpiry | .readyRetryTimer | .claimTimerExpiry | .abandonRetry | .abandonWaitTimeout
  | .messageReceived _ | .interByteGap | .messageSent | .unassignedCommand | .start _ | .rejoin | .leave | .stop | .resume
  | .consent | .pushRequest | .abandon | .stage | .machineAt | .levelDone | .resealStart | .resealFinish | .carAt | .loadSensed
  | .gateClosed | .park | .clearCar | .setWallTemp | .restoreOven | .setService | .setValve | .clearFault | .freeDoorLatch
  | .planChange | .readStatus | .readView | .readClaim | .readOven | .readPlan | .readCar | .holdOrVetoAssertedInIdle
  | .minimumHoldElapsed | .dominantBitInSettle => true

end Sys2Proof
end

