-- ==== Sys2Proof/Laws/PerInstr.lean ====
section
/-! SUPPORT. The family OperandRange, constructor by constructor: the ranges a row's operands must keep (R4, R53, R77, R90; scope section
1) are what well-formedness checks, no more and no less. -/

namespace Sys2Proof.Laws.OperandRange

/-- The row is well formed exactly where its operands lie in the ranges of the pins, links and records they come from. -/
def Statement (i : Instr) : Prop :=
  wellFormed i = true ↔
    match i with
    | .contend rs => rs.length ≤ 31
    | .frameEnd rx => rx.chars.length ≤ 20 ∧ rx.census.length ≤ 16
    | .heldTimerExpiry k | .pressureSample k _ | .sampleWatchExpiry k | .lostTimerExpiry k | .chargeTimerExpiry k => k < 8
    | .latchEvent d _ | .leakLevel d _ | .seatTimerExpiry d | .leakingTimerExpiry d | .callTimerExpiry d | .mismatchWatchExpiry d
    | .resealTimerExpiry d => d < 16
    | .resealRecordTimerExpiry slot => slot < 4
    | _ => True

theorem hardwareReset (id : BitVec 5) (role lineRate portRate : BitVec 2) (stopInput : Bool) : Statement (.hardwareReset id role lineRate portRate stopInput) :=
  iff_of_true rfl trivial
theorem idleGapComplete : Statement (.idleGapComplete) := iff_of_true rfl trivial
theorem contend (rivals : List Byte) : Statement (.contend rivals) := decide_eq_true_iff
theorem otherStartBit : Statement (.otherStartBit) := iff_of_true rfl trivial
theorem idClash (recessive : Bool) : Statement (.idClash recessive) := iff_of_true rfl trivial
theorem voidFrame : Statement (.voidFrame) := iff_of_true rfl trivial
theorem frameEnd (rx : Reception) : Statement (.frameEnd rx) := by
  simp only [Statement, wellFormed, receptionOk, Bool.and_eq_true, decide_eq_true_eq]
theorem consentTimeout : Statement (.consentTimeout) := iff_of_true rfl trivial
theorem holdTimeout : Statement (.holdTimeout) := iff_of_true rfl trivial
theorem settleOutcome (vto : Bool) : Statement (.settleOutcome vto) := iff_of_true rfl trivial
theorem lineBlocked : Statement .lineBlocked := iff_of_true rfl trivial
theorem blockedCleared (vto : Bool) : Statement (.blockedCleared vto) := iff_of_true rfl trivial
theorem stopRunDetected : Statement (.stopRunDetected) := iff_of_true rfl trivial
theorem stopRunEnd (asserted : Bool) : Statement (.stopRunEnd asserted) := iff_of_true rfl trivial
theorem stuckLine : Statement (.stuckLine) := iff_of_true rfl trivial
theorem unnotedMarkExpiry : Statement (.unnotedMarkExpiry) := iff_of_true rfl trivial
theorem stopInputAsserted : Statement (.stopInputAsserted) := iff_of_true rfl trivial
theorem stopInputClear : Statement (.stopInputClear) := iff_of_true rfl trivial
theorem censusTimerExpiry : Statement (.censusTimerExpiry) := iff_of_true rfl trivial
theorem announceTimer (full : Bool) : Statement (.announceTimer full) := iff_of_true rfl trivial
theorem leaveTimeout : Statement (.leaveTimeout) := iff_of_true rfl trivial
theorem ovenTick : Statement (.ovenTick) := iff_of_true rfl trivial
theorem heldTimerExpiry (i : Nat) : Statement (.heldTimerExpiry i) := decide_eq_true_iff
theorem pressureSample (i : Nat) (x : BitVec 12) : Statement (.pressureSample i x) := decide_eq_true_iff
theorem sampleWatchExpiry (i : Nat) : Statement (.sampleWatchExpiry i) := decide_eq_true_iff
theorem lostTimerExpiry (i : Nat) : Statement (.lostTimerExpiry i) := decide_eq_true_iff
theorem mainSample (x : BitVec 12) : Statement (.mainSample x) := iff_of_true rfl trivial
theorem mainReportTimer : Statement (.mainReportTimer) := iff_of_true rfl trivial
theorem chargeTimerExpiry (i : Nat) : Statement (.chargeTimerExpiry i) := decide_eq_true_iff
theorem latchEvent (d : Nat) (level : Latch) : Statement (.latchEvent d level) := decide_eq_true_iff
theorem leakLevel (d : Nat) (level : BitVec 10) : Statement (.leakLevel d level) := decide_eq_true_iff
theorem seatTimerExpiry (d : Nat) : Statement (.seatTimerExpiry d) := decide_eq_true_iff
theorem leakingTimerExpiry (d : Nat) : Statement (.leakingTimerExpiry d) := decide_eq_true_iff
theorem callTimerExpiry (d : Nat) : Statement (.callTimerExpiry d) := decide_eq_true_iff
theorem mismatchWatchExpiry (d : Nat) : Statement (.mismatchWatchExpiry d) := decide_eq_true_iff
theorem resealTimerExpiry (d : Nat) : Statement (.resealTimerExpiry d) := decide_eq_true_iff
theorem resealRecordTimerExpiry (slot : Nat) : Statement (.resealRecordTimerExpiry slot) := decide_eq_true_iff
theorem planTimerExpiry : Statement (.planTimerExpiry) := iff_of_true rfl trivial
theorem chainOpens : Statement (.chainOpens) := iff_of_true rfl trivial
theorem chainClosed : Statement (.chainClosed) := iff_of_true rfl trivial
theorem revokeRetryTimer : Statement (.revokeRetryTimer) := iff_of_true rfl trivial
theorem moveStart : Statement (.moveStart) := iff_of_true rfl trivial
theorem moveTimerExpiry : Statement (.moveTimerExpiry) := iff_of_true rfl trivial
theorem quenchTimeExpiry : Statement (.quenchTimeExpiry) := iff_of_true rfl trivial
theorem drainTimeExpiry : Statement (.drainTimeExpiry) := iff_of_true rfl trivial
theorem readyRetryTimer : Statement (.readyRetryTimer) := iff_of_true rfl trivial
theorem claimTimerExpiry : Statement (.claimTimerExpiry) := iff_of_true rfl trivial
theorem abandonRetry : Statement (.abandonRetry) := iff_of_true rfl trivial
theorem abandonWaitTimeout : Statement (.abandonWaitTimeout) := iff_of_true rfl trivial
theorem messageReceived (bytes : List RxChar) : Statement (.messageReceived bytes) := iff_of_true rfl trivial
theorem interByteGap : Statement (.interByteGap) := iff_of_true rfl trivial
theorem messageSent : Statement (.messageSent) := iff_of_true rfl trivial
theorem unassignedCommand : Statement (.unassignedCommand) := iff_of_true rfl trivial
theorem start (latches : BitVec 16) : Statement (.start latches) := iff_of_true rfl trivial
theorem rejoin : Statement (.rejoin) := iff_of_true rfl trivial
theorem leave : Statement (.leave) := iff_of_true rfl trivial
theorem stop : Statement (.stop) := iff_of_true rfl trivial
theorem resume : Statement (.resume) := iff_of_true rfl trivial
theorem consent : Statement (.consent) := iff_of_true rfl trivial
theorem pushRequest : Statement (.pushRequest) := iff_of_true rfl trivial
theorem abandon : Statement (.abandon) := iff_of_true rfl trivial
theorem stage : Statement (.stage) := iff_of_true rfl trivial
theorem machineAt : Statement (.machineAt) := iff_of_true rfl trivial
theorem levelDone : Statement (.levelDone) := iff_of_true rfl trivial
theorem resealStart : Statement (.resealStart) := iff_of_true rfl trivial
theorem resealFinish : Statement (.resealFinish) := iff_of_true rfl trivial
theorem carAt : Statement (.carAt) := iff_of_true rfl trivial
theorem loadSensed : Statement (.loadSensed) := iff_of_true rfl trivial
theorem gateClosed : Statement (.gateClosed) := iff_of_true rfl trivial
theorem park : Statement (.park) := iff_of_true rfl trivial
theorem clearCar : Statement (.clearCar) := iff_of_true rfl trivial
theorem setWallTemp : Statement (.setWallTemp) := iff_of_true rfl trivial
theorem restoreOven : Statement (.restoreOven) := iff_of_true rfl trivial
theorem setService : Statement (.setService) := iff_of_true rfl trivial
theorem setValve : Statement (.setValve) := iff_of_true rfl trivial
theorem clearFault : Statement (.clearFault) := iff_of_true rfl trivial
theorem freeDoorLatch : Statement (.freeDoorLatch) := iff_of_true rfl trivial
theorem planChange : Statement (.planChange) := iff_of_true rfl trivial
theorem readStatus : Statement (.readStatus) := iff_of_true rfl trivial
theorem readView : Statement (.readView) := iff_of_true rfl trivial
theorem readClaim : Statement (.readClaim) := iff_of_true rfl trivial
theorem readOven : Statement (.readOven) := iff_of_true rfl trivial
theorem readPlan : Statement (.readPlan) := iff_of_true rfl trivial
theorem readCar : Statement (.readCar) := iff_of_true rfl trivial
theorem holdOrVetoAssertedInIdle : Statement (.holdOrVetoAssertedInIdle) := iff_of_true rfl trivial
theorem minimumHoldElapsed : Statement (.minimumHoldElapsed) := iff_of_true rfl trivial
theorem dominantBitInSettle : Statement (.dominantBitInSettle) := iff_of_true rfl trivial

end Sys2Proof.Laws.OperandRange
end

