-- ==== Sys2Proof/Laws/Reports.lean ====
section
/-! SUPPORT. Operations that touch the local port by reports alone: what they leave of it is the old port with some reports offered. Entry
to OFF_LINE is one of them, up to the answer of a LEAVE that waits. -/

namespace Sys2Proof.Machine

/-- The port of t is that of s with some reports offered one after another. -/
def State.Told (s t : State) : Prop := ∃ rs : List Report, t.port = rs.foldl Port.offerReport s.port

theorem State.told_of_port {s t : State} (h : t.port = s.port) : s.Told t := ⟨[], h⟩

theorem State.Told.trans {s t u : State} (h1 : s.Told t) (h2 : t.Told u) : s.Told u := by
  obtain ⟨a, ha⟩ := h1
  obtain ⟨b, hb⟩ := h2
  exact ⟨a ++ b, by rw [hb, ha, List.foldl_append]⟩

/-- A step that leaves the port alone may follow. -/
theorem State.Told.same {s t u : State} (h1 : s.Told t) (h2 : u.port = t.port) : s.Told u := h1.trans (told_of_port h2)

theorem State.report_told (s : State) (r : Report) : s.Told (s.report r) := ⟨[r], rfl⟩

theorem State.reportIf_told (s : State) (b : Bool) (r : Report) : s.Told (s.reportIf b r) := by
  cases b
  · exact told_of_port rfl
  · exact s.report_told r

theorem State.foldl_told {α : Type} (f : State → α → State) (h : ∀ (s : State) x, s.Told (f s x)) (l : List α) (s : State) :
    s.Told (l.foldl f s) := by
  induction l generalizing s with
  | nil => exact told_of_port rfl
  | cons x l ih => exact (h s x).trans (ih _)

theorem State.reportAll_told (s : State) (rs : List Report) : s.Told (s.reportAll rs) := foldl_told _ State.report_told rs s

theorem State.putOven_told (s : State) (i : Nat) (o : Oven) : s.Told (s.putOven i o) := by
  unfold State.putOven
  repeat' (first | split | dsimp only)
  all_goals first
    | exact told_of_port rfl
    | exact ((told_of_port (by simp)).trans (reportIf_told _ _ _)).trans (reportIf_told _ _ _)

theorem State.reportOven_told (s : State) (i : Nat) (b : OvenState) : s.Told (s.reportOven i b) := by
  unfold State.reportOven
  split
  · exact told_of_port rfl
  · exact report_told _ _

theorem State.reportOvenUnchanged_told (s : State) (i : Nat) : s.Told (s.reportOvenUnchanged i) := by
  unfold State.reportOvenUnchanged
  split
  · exact told_of_port rfl
  · exact reportOven_told _ _ _

theorem State.enterOven_told (s : State) (i : Nat) (n : OvenState) : s.Told (s.enterOven i n) := by
  unfold State.enterOven
  split
  · exact (putOven_told _ _ _).trans (reportOven_told _ _ _)
  · exact told_of_port rfl

theorem State.changeDoor_told (s : State) (d : Nat) (f : Door → Door) : s.Told (s.changeDoor d f) := by
  unfold State.changeDoor
  split
  · exact told_of_port rfl
  · exact (((told_of_port (by simp)).trans (reportIf_told _ _ _)).trans (reportIf_told _ _ _)).trans (reportIf_told _ _ _)

theorem State.seatDoor_told (s : State) (d : Nat) : s.Told (s.seatDoor d) := by
  unfold State.seatDoor
  repeat' split
  all_goals first | exact changeDoor_told _ _ _ | exact told_of_port rfl

theorem State.bankClaimEnds_told (s : State) (n : Nat) (t : StageSet) (how : ClaimEnd) : s.Told (s.bankClaimEnds n t how) := by
  unfold State.bankClaimEnds State.seatDoors State.endWatches
  split
  · exact told_of_port rfl
  · refine (((State.Told.trans ?_ (changeDoor_told _ _ _)).trans (changeDoor_told _ _ _)).trans (seatDoor_told _ _)).trans
      (seatDoor_told _ _)
    split
    · exact (enterOven_told _ _ _).trans (told_of_port rfl)
    · exact (reportOvenUnchanged_told _ _).trans (told_of_port rfl)

/-- The end of a claim reaches the port by reports alone. -/
theorem State.endClaim_told (s : State) (how : ClaimEnd) : s.Told (s.endClaim how) := by
  unfold State.endClaim
  split
  · exact told_of_port rfl
  · rename_i c _
    have all : ∀ (u : State) (r : Report) (b : Bool),
        u.Told (((((u.report r).withdrawLate c.serial b).bankClaimEnds c.oven c.stages how).planClaimEnds c.oven c.stages
          how).clearRevoke.clearWanted) :=
      fun u r b =>
        have h : ((u.report r)).Told ((u.report r).withdrawLate c.serial b) := reportAll_told _ _
        (((report_told u r).trans h).trans (bankClaimEnds_told _ c.oven c.stages how)).same (by simp)
    exact (all (s.withClaims { s.claims with record := some { c with ending := how }, retry := none }) (c.endReport how)
      how.byAbandon).same (by simp)

theorem State.loseReseal_told (s : State) (r : Reseal) : s.Told (s.loseReseal r) := by
  unfold State.loseReseal
  split
  · exact (changeDoor_told _ _ _).trans (report_told _ _)
  · exact told_of_port rfl

theorem State.emptyReseals_told (s : State) : s.Told s.emptyReseals := foldl_told _ loseReseal_told s.openReseals s

theorem State.emptyClaims_told (s : State) : s.Told s.emptyClaims :=
  ((endClaim_told s (.abandoned .dropped)).trans (emptyReseals_told s.dropClaim)).same rfl

theorem State.leaveBlocks_told (s : State) : s.Told s.leaveBlocks := by
  obtain ⟨rs, h⟩ := emptyClaims_told ((s.withQueue []).changeLine Line.off)
  exact ⟨rs, by simpa [State.leaveBlocks] using h⟩

/-- Entry to OFF_LINE reaches the port by reports, and answers the LEAVE that waits. -/
theorem State.enterOffLine_port (s : State) :
    ∃ u : State, s.Told u ∧ s.enterOffLine.port = (if u.leaveWaits then u.answerHeld .accepted else u).port := by
  refine ⟨_, ?_, rfl⟩
  exact ((leaveBlocks_told (s.changeLife fun l =>
    { l with state := .offLine, joinCount := 0, adopted := false, census := none, announce := none })).same rfl).trans (reportAll_told _ _)

end Sys2Proof.Machine
end

