-- ==== Sys2Proof/Laws/Windows.lean ====
section
/-! SUPPORT. The end of a window whose frame is TAKEN (R9, R16), said once: what the row SETTLE_OUTCOME answers where a station has heard the frame,
and where it has sent it, in terms of what the frame's kind does. -/

namespace Sys2Proof.Machine

/-- The station as the blocks of the frame's kind find it: the sender's flags and the stopped condition are adopted, and the frame's own entry is
still in the send queue. -/
def State.atKind (s : State) (f : Frame) : State := { s.windowEnded f s.queue with line := s.line.closed }

/-- A TAKEN frame other than an ANNOUNCE reaches the blocks of its kind with the sender's flags and the stopped condition adopted (R30, R34). -/
theorem State.frameTaken_atKind (s : State) (f : Frame) (census : List Byte) (h : ∀ p t, f.body ≠ .announce p t) :
    (s.changeLine Line.closed).frameTaken f census = (s.atKind f).kindTaken f census := by
  have entry : (s.changeLine Line.closed).entryTaken f = (s.changeLine Line.closed).setEntry f.sender (Entry.copyFlags f) := by
    unfold State.entryTaken; split
    · exact absurd ‹_› (h _ _)
    · rfl
  have adopt : ((s.changeLine Line.closed).setEntry f.sender (Entry.copyFlags f)).adoptStopped f = s.atKind f := by
    cases ha : (decide (s.life.state = .joining) && !f.joining && f.stopped && !s.stop.stopped) with
    | true =>
      have : ((((s.changeLine Line.closed).setEntry f.sender (Entry.copyFlags f)).joining && !f.joining && f.stopped &&
        !((s.changeLine Line.closed).setEntry f.sender (Entry.copyFlags f)).stop.stopped)) = true := ha
      rw [State.adoptStopped, if_pos this]
      simp [State.atKind, State.windowEnded, ha]; rfl
    | false =>
      have : ((((s.changeLine Line.closed).setEntry f.sender (Entry.copyFlags f)).joining && !f.joining && f.stopped &&
        !((s.changeLine Line.closed).setEntry f.sender (Entry.copyFlags f)).stop.stopped)) = false := ha
      rw [State.adoptStopped, this, if_neg (by simp)]
      simp [State.atKind, State.windowEnded, ha]; rfl
  rw [State.frameTaken, entry, adopt]

/-- The counters of R13 after a clean window that is not the thirty-second of a listening station. -/
theorem State.counters_clean (s u : State) (hr : s.receives = true) (hc : s.life.state = .listenOnly → s.line.cleanRun < 31)
    (hl : u.line = s.line.closed) (hs : u.life = s.life) : u.counters false = u.withLine s.lineAfterClean := by
  have hd : u.drives = s.drives := by simp [State.drives, hs]
  unfold State.counters
  cases h : s.life.state with
  | offLine => simp [State.receives, h] at hr
  | conflict => simp [State.receives, h] at hr
  | joining =>
    simp [State.changeLine, hs, h, Line.count, hl, Line.closed, State.lineAfterClean, State.drives, Config.streakLimit, State.withLine]
  | onLine =>
    simp [State.changeLine, hs, h, Line.count, hl, Line.closed, State.lineAfterClean, State.drives, Config.streakLimit, State.withLine]
  | listenOnly =>
    have := hc h
    simp [State.changeLine, hs, h, Line.count, hl, Line.closed, State.lineAfterClean, State.drives, Config.cleanLimit, State.withLine]
    rw [if_neg (by omega), Nat.min_eq_left (by omega)]

/-- A frame that another station has sent is TAKEN: the blocks of its kind act, and the line is as after a clean window. -/
theorem State.heard_taken {s u : State} {w : Window} {f : Frame} (h : s.Hears w f) (hv : s.line.vto = false)
    (hb : ∀ p t, f.body ≠ .announce p t) (hu : ((s.atKind f).kindTaken f w.census).othersOutcome false f w.verdict false = u)
    (hl : u.line = s.line.closed) (hs : u.life = s.life) : exec (.settleOutcome false) s = .next (u.withLine s.lineAfterClean).derive := by
  obtain ⟨hr, hset, hw, hh, hf, hfault, hmal, hown, hsender, hid, hclean⟩ := h
  have hand : (s.changeLine Line.closed).handOn w false = u := by
    rw [← hu, ← s.frameTaken_atKind f w.census hb]
    simp [State.handOn, hf, Window.clean, hfault, hmal, hown]
  have clash : (u.withLine s.lineAfterClean).clashCheck w = u.withLine s.lineAfterClean := by
    have straps : u.straps = s.straps := by rw [← hu]; simp [State.atKind, State.windowEnded]
    simp [State.clashCheck, hsender, straps, hid]
  show execSettleOutcome false s = _
  simp [execSettleOutcome, State.event, State.settling, hset, hw, hh, hv, onlyIf, State.conclude, hand, hown, hfault,
    s.counters_clean u hr hclean hl hs, clash]

/-- The frame that this station has sent is TAKEN: the blocks of its kind act, and then its producer is told. -/
theorem State.own_taken {s u : State} {w : Window} {k : Nat} {e : QueueEntry} {f : Frame} (h : s.OwnWindow w k e) (hf : w.frame = some f)
    (hv : s.line.vto = false) (hb : ∀ p t, f.body ≠ .announce p t)
    (hu : (((s.atKind f).kindTaken f w.census).othersOutcome true f w.verdict false).ownOutcome false = u)
    (hl : u.line = s.line.closed) (hs : u.life = s.life) : exec (.settleOutcome false) s = .next (u.withLine s.lineAfterClean).derive := by
  obtain ⟨hd, hset, hw, hh, hown, hfault, hmal, -, -, -⟩ := h
  have hand : ((s.changeLine Line.closed).handOn w false).ownOutcome false = u := by
    rw [← hu, ← s.frameTaken_atKind f w.census hb]
    simp [State.handOn, hf, Window.clean, hfault, hmal, hown]
  have hr : s.receives = true := by cases h : s.life.state <;> simp_all [State.drives, State.receives]
  have hc : s.life.state = .listenOnly → s.line.cleanRun < 31 := fun h => by simp [State.drives, h] at hd
  show execSettleOutcome false s = _
  simp [execSettleOutcome, State.event, State.settling, hset, hw, hh, hv, onlyIf, State.conclude, hand, hown, hfault,
    s.counters_clean u hr hc hl hs, State.clashCheck]

end Sys2Proof.Machine
end

