-- ==== Sys2Proof/Tests/Slice0.lean ====
section
/-! SUPPORT. Tests of single rows on small states, each with its result worked out by hand from the rule it names; terms that
well-formedness refuses; and, for the statements with hypotheses, concrete states and operands that meet them, clause by clause. -/

namespace Sys2Proof.Tests

open Sys2Proof Sys2Proof.Machine

/-! ## Well-formedness: an ill-formed term for each check -/

theorem test_rivals_refused : wellFormed (.contend (List.replicate 32 0#8)) = false := by decide
theorem test_rivals_taken : wellFormed (.contend (List.replicate 31 0#8)) = true := by decide
theorem test_reception_chars_refused : wellFormed (.frameEnd ⟨List.replicate 21 ⟨0#8, false⟩, [], false⟩) = false := by decide
theorem test_reception_census_refused : wellFormed (.frameEnd ⟨[], List.replicate 17 ⟨0#8, false⟩, false⟩) = false := by decide
theorem test_oven_place_refused : wellFormed (.pressureSample 8 0#12) = false := by decide
theorem test_door_place_refused : wellFormed (.latchEvent 16 .latched) = false := by decide
theorem test_slot_refused : wellFormed (.resealRecordTimerExpiry 4) = false := by decide

/-! ## Small states -/

/-- A bank's configuration: six ovens, of which the bank has ovens 1 and 2. -/
def part0 : BankPart0 := ⟨6, 300, ⟨false, false, false⟩, 1, 2, 600, 1200, 5, 100, -100, -200, 120⟩
def part1 : BankPart1 := ⟨16, 16, 0, -1000, true, 60, 100, 80, 20, 40, 30, 60, 120⟩

def roleConfig : Role → RoleConfig
  | .bank => .bank part0 part1
  | .pusher => .pusher ⟨2, 1, 50⟩
  | .guide => .guide
  | .quench => .quench ⟨60, 30, 40⟩

def allStages : StageSet := ⟨true, true, true, true, true, true, true, true, true, true⟩

/-- The stages before the ram comes out. -/
def toRamOut : StageSet := ⟨true, true, true, false, false, false, false, false, true, true⟩

/-- Oven 1's bank as station 4, with oven 3 EMPTY and ovens 1, 2 and 4 READY. -/
def bankEntry : Entry :=
  ⟨.present, some .bank, 0, false, some (1, 4), 0, some (.bank 1 [0x30#8, 0x30#8, 0x10#8, 0x30#8], ⟨0, 0, .clear⟩), false⟩

def roleEntry (r : Role) : Entry := ⟨.present, some r, 0, false, none, 0, none, false⟩

def coking : Oven := ⟨.coking, 38500, .ready, 0, some 1200, 0, false, 5, none, false, false⟩
def collecting : Loop := ⟨.collect, List.replicate 4 ⟨0, .good⟩, 0, 0, false, none, false, 0, 0, 1600, some 100, some 100, none, none, 0, false⟩
def tight : Door := ⟨.latched, .tight, List.replicate 8 0, none, none, false, none, none, none, false, false, false, .latched, .tight⟩

/-- A started station with id 5 in the given role and state. -/
def station (r : Role) (life : StationState := .onLine) : State :=
  { State.reset with
    straps := ⟨5, r, 1, 1⟩
    config := some ⟨6, 300, ⟨false, false, false⟩, roleConfig r⟩
    life := { Life.reset with state := life, census := some 0, announce := some 0 }
    line := { Line.reset with state := if life = .offLine ∨ life = .conflict then .off else .idle }
    table := [.reset, roleEntry .pusher, roleEntry .guide, roleEntry .quench, bankEntry, roleEntry r] ++ List.replicate 26 .reset
    bank := if r = .bank then ⟨[coking, coking], [collecting, collecting], [tight, tight, tight, tight], none, 65535, some 0, some 0⟩ else .empty
    plan := if r = .pusher then some { Plan.fresh 6 ⟨2, 1, 50⟩ with timer := some 0 } else none }

/-- An OPEN claim on oven n with the given stages. -/
def claim (n : Nat) (stages : StageSet) : Claim := ⟨n, 9, some 1, false, stages, 0, 0, .opened⟩

def claiming (c : Claim) (s : State) : State := { s with claims := { s.claims with record := some c, highest := 9 } }
def queuing (q : List QueueEntry) (s : State) : State := { s with queue := q }
def told (kind : Byte) (body : List Byte) (s : State) : State := { s with port := { s.port with commands := [⟨kind, body⟩] } }
def stoppedNow (s : State) : State := { s with stop := { s.stop with stopped := true } }
def lined (l : Line) (s : State) : State := { s with line := l }
def banked (o : Oven) (l : Loop) (x : Door) (s : State) : State :=
  { s with bank := { s.bank with ovens := [o, coking], loops := [l, collecting], doors := [x, tight, tight, tight] } }
def at_ (n : Nat) (s : State) : State := { s with machine := { s.machine with position := n } }
def caring (c : Car) (s : State) : State := { s with car := c }
def resealing (r : Reseal) (s : State) : State := { s with claims := { s.claims with reseals := [some r, none, none, none], highestReseal := r.serial } }

def resealRecord (j : Side) : Reseal := ⟨1, j, 7, 1, 0, 2400000, .opened, none⟩
def resealingDoor : Door := { tight with sealing := .resealing, reseal := some 120000 }

def entryOf (b : Body) (inFlight : Bool := false) : QueueEntry := ⟨b, false, 0, 0, inFlight⟩

/-- The window of a clean frame of station 1 that has been held. -/
def windowOf (f : Frame) (v : Verdict := .take) : Window :=
  ⟨some f, List.replicate 16 0xFF#8, false, false, some f.body.kind.code, some f.sender, false, v, false, true, false, 3, [], false⟩

def frameFrom (sender : Nat) (b : Body) : Frame := ⟨b.kind.priority, sender, false, false, false, false, b⟩

/-- The station at the end of the window of a frame. -/
def hearing (f : Frame) (s : State) : State := { s with line := { Line.reset with state := .settle, window := some (windowOf f) } }

/-- The hypotheses hold of the state with its outputs derived, and its outputs are sound (`outputsSound_iff`). -/
def ok (s : State) (hyps : State → Bool) : Bool := decide (s.derive.out = s.derive.outputs) && hyps s.derive

/-! ## Witnesses: the whole machine and the line -/

/-- A timer's motion, as the statement asks for it. -/
def runTo (limit : Nat) (x : Option Nat) : Option Nat := x.map fun v => min (v + 1) limit

theorem witness_EmptyQueuePassesOneMillisecond :
    ((∀ limit, runTo limit none = none) ∧ ∀ limit x, runTo limit (some x) = some (min (x + 1) limit)) ∧
    [ok (station .guide |> claiming (claim 3 .clear)) fun s => s.pending = [] ∧ s.stop.stopped = false ∧ s.claims.record ≠ none ∧
        s.bankConfig = none ∧ s.carConfig = none,
      ok (station .guide |> stoppedNow) fun s => s.pending = [] ∧ s.stop.stopped = true,
      ok (station .bank) fun s => s.pending = [] ∧ s.config = some ⟨6, 300, ⟨false, false, false⟩, .bank part0 part1⟩,
      ok (station .quench) fun s => s.pending = [] ∧
        s.config = some ⟨6, 300, ⟨false, false, false⟩, .quench ⟨60, 30, 40⟩⟩].all id = true :=
  ⟨⟨fun _ => rfl, fun _ _ => rfl⟩, by decide +kernel⟩

theorem witness_EveryRowAnswersAndKeepsConfiguration :
    ok (station .bank) (fun s => decide (s.config ≠ none) && match exec .park s with | .next _ => true | _ => false) = true := by
  decide +kernel

theorem witness_LineCodingReadsBack :
    (⟨7, 31, true, true, true, true, .census⟩ : Frame).InRange ∧ (List.replicate 8 (0xFF#8 : Byte)).length = 8 ∧
      (⟨0, 0, false, false, false, false, .mainPressure (-32768) 255⟩ : Frame).InRange ∧
      (⟨1, 2, false, true, false, false, .pushStage 255 255 255 false⟩ : Frame).InRange ∧
      7 < (⟨1, 2, false, true, false, false, .pushStage 255 255 255 false⟩ : Frame).chars.length ∧
      10 + 10 ≤ (lineBits [0xA5#8, 0x00#8]).length ∧ (List.replicate 9 true ++ [false]).length = 10 ∧
      (∀ x ∈ [(0, false), (31, true), (31, false)], x.1 < 32) ∧ 31 < 32 := by
  refine ⟨⟨by decide, by decide, trivial⟩, rfl, ⟨by decide, by decide, by decide, by decide, by decide⟩,
    ⟨by decide, by decide, by decide, by decide, by decide⟩, by decide, by decide, by decide, by decide, by decide⟩

theorem witness_CheckCharacterRule :
    (⟨asReceived [0xC0#8, 0#8, 0#8, 0x8C#8], [], false⟩ : Reception).chars.map RxChar.value = [0xC0#8, 0#8, 0#8] ++ [0x8C#8] ∧
      0x8C#8 ≠ crc8 [0xC0#8, 0#8, 0#8] := by decide +kernel

/-- The station holds in the window of a PUSH_CLAIM for oven 3. -/
def holding (v : Verdict) (life : StationState := .onLine) : State :=
  station .guide life |> lined { Line.reset with
    state := .settle, hld := true, window := some { windowOf (frameFrom 1 (.pushClaim 3 1 false)) v with holdDone := false } }

/-- The window of another station's frame as it stands t ms after the frame end. -/
def windowAt (t : Nat) (v : Verdict) (s : State) : State :=
  { s with line := { s.line with window := s.line.window.map fun w => { w with timer := t, verdict := v, holdDone := true } } }

theorem witness_IdleAndBlockedLineRows :
    [ok (station .guide |> lined { Line.reset with state := .seeking }) fun s => s.line.dat = .released ∧ s.line.state = .seeking,
      ok (station .guide) fun s => s.line.state = .idle ∧ s.line.dat = .released,
      ok (station .guide |> lined { Line.reset with state := .gap }) fun s => s.line.dat = .released ∧ s.line.state = .gap,
      ok (station .guide |> lined { Line.reset with state := .receiving }) fun s => s.line.state = .receiving,
      ok (station .guide |> lined { Line.reset with
          state := .settle, window := some { windowOf (frameFrom 1 .census) with timedOut := true, timer := 100 } }) fun s =>
        s.line.state = .settle ∧ s.line.window.any fun w => w.timedOut && w.timer ≤ 100,
      ok (station .guide |> hearing (frameFrom 1 .census) |> windowAt 100 .take) fun s => s.line.state = .settle ∧ s.line.hld = false ∧
        s.line.window.any fun w => !w.timedOut && w.timer ≤ 100,
      ok (holding .take) fun s => s.line.state = .settle ∧ s.line.hld = true ∧ s.drives = true ∧
        s.line.window.any fun w => !w.timedOut && w.timer ≤ 25,
      ok (station .guide |> lined { Line.reset with state := .blocked }) fun s => s.line.state = .blocked ∧ s.line.window = none,
      ok (station .guide |> lined { Line.reset with state := .blocked, vto := true, window := some (windowOf (frameFrom 1 .census)) }) fun s =>
        s.line.state = .blocked ∧ s.line.hld = false ∧ s.line.vto = true ∧ s.line.window.any fun w => !w.vetoRead,
      ok (station .guide |> lined { Line.reset with state := .blocked, window := some (windowOf (frameFrom 1 .census)) }) fun s =>
        s.line.state = .blocked ∧ s.line.hld = false ∧ s.line.vto = false ∧ s.line.window.any fun w => !w.vetoRead,
      ok (station .guide |> lined { Line.reset with
          state := .blocked, window := some { windowOf (frameFrom 1 (.pushClaim 3 1 false)) with timer := 100, vetoRead := true } }) fun s =>
        s.receives = true ∧ s.line.state = .blocked ∧ s.line.window.any fun w => decide (w.frame = some (frameFrom 1 (.pushClaim 3 1 false)) ∧
          w.fault = false ∧ w.malformed = false ∧ w.own = false ∧ w.sender = some 1 ∧ 1 ≠ s.straps.id ∧ s.life.state ≠ .listenOnly ∧
          w.vetoRead = true)].all id = true := by decide +kernel

/-- Two CENSUS entries and a CHARGED: the CHARGED, of the better priority, is the head. -/
def contending : State := station .pusher |> queuing [entryOf .census, entryOf (.charged 3), entryOf .census]

/-- A command that holds execution. -/
def holdingBy (kind : Byte) (h : Hold) (s : State) : State := { s with port := { Port.reset with commands := [⟨kind, []⟩], hold := some h } }

theorem witness_ContendSendsHeadOrYields :
    ok contending (fun s => s.drives = true ∧ s.line.state = .idle ∧ s.line.dat = .released ∧ s.straps.id < 32 ∧
      s.queue[1]? = some (entryOf (.charged 3)) ∧ (∀ x ∈ s.queue, x.inFlight = false) ∧
      (∀ i < 3, ∀ x ∈ s.queue[i]?, (entryOf (.charged 3)).body.kind.priority < x.body.kind.priority ∨
        ((entryOf (.charged 3)).body.kind.priority = x.body.kind.priority ∧ 1 ≤ i)) ∧
      (∀ r ∈ [BitVec.ofNat 8 ((FrameKind.charged).priority * 32 + 5)], (FrameKind.charged).priority * 32 + s.straps.id ≤ r.toNat) ∧
      (∃ r ∈ [BitVec.ofNat 8 ((FrameKind.charged).priority * 32 + 4)], r.toNat < (FrameKind.charged).priority * 32 + s.straps.id)) = true ∧
    [ok (station .pusher |> queuing [entryOf (.pushClaim 3 1 false)] |> holdingBy 0x08#8 (.abandon 20)) fun s => s.drives = true ∧
        s.line.state = .idle ∧ s.line.dat = .released ∧ s.queue = [entryOf (.pushClaim 3 1 false)] ∧ s.port.hold = some (.abandon 20) ∧
        (0#8).toNat < FrameKind.pushClaim.priority * 32 + s.straps.id,
      ok (station .guide |> queuing [{ entryOf (.announce (.guide 3 0 0 0) ⟨3, 9, .clear⟩) with leaving := true }] |>
          holdingBy 0x03#8 (.leave 100)) fun s => s.line.state = .idle ∧ s.queue.length = 1 ∧ s.port.hold = some (.leave 100) ∧
        (0#8).toNat < FrameKind.announce.priority * 32 + s.straps.id].all id = true := by
  refine ⟨?_, ?_⟩ <;> decide +kernel

/-- What the reports of a clash add to the port. -/
def clashReports (s : State) (p : Port) : Port :=
  match s.openClaim with
  | some c => (p.offerReport (.lineState (.conflict .idClash))).offerReport (.claimAbandoned c.oven c.serial .dropped c.stages)
  | none => p.offerReport (.lineState (.conflict .idClash))

theorem witness_IdClashEntersConflict :
    (∀ s p, clashReports s p = match s.openClaim with
      | some c => (p.offerReport (.lineState (.conflict .idClash))).offerReport (.claimAbandoned c.oven c.serial .dropped c.stages)
      | none => p.offerReport (.lineState (.conflict .idClash))) ∧
    [ok (station .guide |> queuing [entryOf .census true] |> lined { Line.reset with state := .sending, dat := .frame })
        fun s => s.line.state = .sending ∧ s.line.dat = .frame ∧ s.bankConfig = none ∧ s.port.hold = none,
      ok { station .guide with
          line := { Line.reset with state := .sending, dat := .frame }
          port := { Port.reset with commands := [⟨0x08#8, []⟩], hold := some (.abandon 0) } }
        fun s => s.bankConfig = none ∧ s.port.hold = some (.abandon 0),
      ok (station .guide |> hearing (frameFrom 5 .census)) fun s => s.drives = true ∧ s.line.state = .settle ∧ s.line.hld = false ∧
        s.bankConfig = none ∧ s.port.hold = none ∧
        s.line.window.any fun w => decide (w.own = false ∧ w.fault = false ∧ w.sender = some s.straps.id ∧
          w.frame.map Frame.sender = w.sender),
      ok (station .guide |> lined { Line.reset with
          state := .settle, window := some { windowOf (frameFrom 5 .census) with malformed := true } }) fun s => s.drives = true ∧
        s.line.window.any fun w => decide (w.sender = some s.straps.id ∧ w.malformed = true)].all id = true :=
  ⟨fun _ _ => rfl, by decide +kernel⟩

/-- A station that receives. -/
def receiving (life : StationState := .onLine) : State := station .guide life |> lined { Line.reset with state := .receiving }

/-- The census bytes that station 5 drives itself, both copies. -/
def ownCensus (attention : Bool) : List Byte :=
  (List.range 8).map (censusDrive 5 attention) ++ (List.range 8).map (censusDrive 5 attention)

theorem witness_FrameEndOpensWindow :
    [ok receiving fun s => s.drives = true ∧ s.straps.id = 5 ∧ (frameFrom 1 .census).body = .census ∧
        (List.zipWith (fun a b => a &&& b) (List.replicate 16 0xFF#8) (ownCensus s.attention)).length = 16,
      ok (receiving .listenOnly) fun s => s.drives = false ∧ s.judge false (frameFrom 1 .census) = .take,
      ok receiving fun s => s.line.state = .receiving ∧ s.line.dat = .released ∧ breaksRules s.ovenCount (some (frameFrom 4 (.charged 3))) = false ∧
        s.judge false (frameFrom 1 .census) = .take,
      ok receiving fun s => breaksRules s.ovenCount (some (frameFrom 1 (.pushClaim 3 1 false))) = false ∧
        s.judge false (frameFrom 1 (.pushClaim 3 1 false)) = .veto .position,
      ok { at_ 3 receiving with config := some ⟨6, 300, ⟨true, true, true⟩, .guide⟩ } fun s =>
        s.judge false (frameFrom 1 (.pushClaim 3 1 false)) = .ask,
      ok receiving fun s => breaksRules s.ovenCount (some (frameFrom 1 (.charged 7))) = true ∧ s.drives = true,
      ok receiving fun s => receptionFault ⟨[], [], false⟩ = true ∧ s.drives = true,
      ok receiving fun s => s.line.state = .receiving ∧ 12 ≤ (0x1C#8 : Byte).toNat % 16 ∧ (0x19#8 : Byte).toNat % 16 = 9 ∧
        some [1#8].length ≠ [3, 1, 3, 4, 3, 2, 3, 4, 2, 1][9 - 2]? ∧ (0xA1#8 : Byte).toNat % 16 = 1 ∧ ([] : List Byte).head? = none,
      ok receiving fun s => s.line.state = .receiving ∧
        receptionFault ⟨asReceived (frameFrom 1 .census).chars, wireCensus (ownCensus s.attention) (asReceived (0#8 :: List.replicate 15 0xFF#8)),
          false⟩ = true,
      ok (station .guide |> lined { Line.reset with
          state := .sending, dat := .frame, sent := Frame.chars (frameFrom 5 (.stopNote 0 1)) }) fun s =>
        s.line.state = .sending ∧ s.line.dat = .frame ∧ s.drives = true ∧ s.line.sent = Frame.chars (frameFrom 5 (.stopNote 0 1)) ∧
          breaksRules s.ovenCount (some (frameFrom 5 (.stopNote 0 1))) = false ∧
          s.judge true (frameFrom 5 (.stopNote 0 1)) = .take,
      ok (station .guide |> lined { Line.reset with
          state := .sending, dat := .frame, sent := Frame.chars ⟨6, 5, false, false, false, false, .census⟩ }) fun s =>
        s.line.state = .sending ∧ s.line.dat = .frame ∧ s.drives = true ∧
          censusCopies (wireCensus (ownCensus s.attention) (asReceived (0#8 :: List.replicate 15 0xFF#8))) = false].all id = true := by decide +kernel

/-- The station after the begin of a stop pulse of its own: HLD and VTO are released (R18). -/
def pulsing (s : State) : State := { s with line := { s.line with dat := .stopPulse, hld := false, vto := false } }

theorem witness_HoldAndTimeoutsCastVerdicts :
    [ok (holding .take) fun s => s.line.state = .settle ∧ s.line.hld = true ∧ s.line.window.any fun w => !w.holdDone && w.verdict = .take,
      ok (holding .asking) fun s => s.line.hld = true ∧ s.line.window.any fun w => !w.holdDone && w.verdict = .asking,
      ok (holding (.veto .check)) fun s => s.line.hld = true ∧ s.line.window.any fun w => !w.holdDone && w.verdict = .veto .check,
      ok (holding (.veto .position)) fun s =>
        s.line.hld = true ∧ s.line.window.any fun w => !w.holdDone && w.verdict = .veto .position,
      ok (holding .asking |> windowAt 15 .asking) fun s => s.line.state = .settle ∧ s.line.hld = true ∧
        s.line.window.any fun w => w.holdDone && w.verdict = .asking && w.timer ≤ 15,
      ok (holding .asking |> windowAt 15 .asking |> pulsing) fun s => s.line.state = .settle ∧ s.line.hld = false ∧
        s.line.window.any fun w => w.verdict = .asking && w.timer ≤ 15,
      ok (holding .take |> windowAt 25 .take) fun s => s.line.state = .settle ∧ s.drives = true ∧
        s.line.window.any fun w => !w.timedOut && !w.cast && w.timer ≤ 25,
      ok (station .guide .listenOnly |> hearing (frameFrom 1 .census)) fun s => s.line.state = .settle ∧ s.drives = false ∧
        s.line.window.any fun w => !w.timedOut && w.timer ≤ 25].all id = true := by decide +kernel

/-- The hypothesis that the station hears the frame (`State.Hears`), with what most statements add to it. -/
def heard (f : Frame) (s : State) : Bool :=
  decide (s.Hears (windowOf f) f) && decide (s.line.vto = false)

theorem witness_VetoedFrameChangesNoBlock :
    [ok (station .guide |> hearing (frameFrom 1 (.pushClaim 3 1 false))) (heard (frameFrom 1 (.pushClaim 3 1 false))),
      ok (station .guide |> hearing (frameFrom 1 .census)) (heard (frameFrom 1 .census)),
      ok (station .guide .listenOnly |> hearing (frameFrom 1 .census)) (heard (frameFrom 1 .census))].all id = true := by
  decide +kernel

/-- The window of this station's own frame, alone in the queue. -/
def ownWindow (b : Body) : Window := ⟨some (frameFrom 5 b), [], false, false, some b.kind.code, some 5, true, .take, false, true, false, 3, [], false⟩
def inOwnWindow (b : Body) (retries : Nat := 0) (r : Role := .pusher) : State :=
  station r |> queuing [{ entryOf b true with retries := retries }] |>
    lined { Line.reset with state := .settle, window := some (ownWindow b) }

/-- The station is in the window of its own frame, the first of its queue. -/
def inOwn (b : Body) (s : State) : Bool :=
  decide (s.drives = true ∧ s.line.state = .settle ∧ s.line.window = some (ownWindow b) ∧ s.line.hld = false) &&
    (s.queue.take 1).any (fun e => e.inFlight && decide (e.body = b)) && (s.queue.drop 1).all fun e => !e.inFlight

/-- `State.OwnWindow` holds there. -/
theorem witness_OwnWindow {b : Body} {s : State} (h : inOwn b s = true) : ∃ e, s.OwnWindow (ownWindow b) 0 e ∧ e.body = b := by
  simp only [inOwn, Bool.and_eq_true, decide_eq_true_eq] at h
  obtain ⟨⟨⟨drives, settle, window, hld⟩, first⟩, others⟩ := h
  match queue : s.queue with
  | [] => simp [queue] at first
  | e :: rest =>
    simp only [queue, List.take_succ_cons, List.take_zero, List.any_cons, List.any_nil, Bool.or_false, Bool.and_eq_true, decide_eq_true_eq] at first
    simp only [queue, List.drop_succ_cons, List.drop_zero, List.all_eq_true, Bool.not_eq_true'] at others
    refine ⟨e, ⟨drives, settle, window, hld, rfl, rfl, rfl, by simp [queue], first.1, ?_⟩, first.2⟩
    intro i x hx flight
    match i with
    | 0 => rfl
    | k + 1 =>
      have : x ∈ rest := List.mem_of_getElem? (by simpa [queue] using hx)
      simp [others x this] at flight

/-- The window of the own frame ends. -/
def ending (b : Body) (s : State) : Bool := inOwn b s && decide (s.line.vto = false ∧ s.straps.id = 5)

/-- `State.Ends` holds of a frame heard. -/
theorem witness_Ends_heard {f : Frame} {s : State} (h : heard f s = true) : s.Ends (windowOf f) f s.queue :=
  .inl ⟨of_decide_eq_true (Bool.and_eq_true_iff.mp h).1, rfl⟩

/-- `State.Ends` holds of the own frame. -/
theorem witness_Ends_own {b : Body} {s : State} (h : ending b s = true) : s.Ends (ownWindow b) (frameFrom 5 b) (s.queue.eraseIdx 0) := by
  simp only [ending, Bool.and_eq_true, decide_eq_true_eq] at h
  obtain ⟨e, window, body⟩ := witness_OwnWindow h.1
  exact .inr ⟨0, e, window, body, rfl, h.2.2.symm, rfl⟩

/-- The station in another state, and with more entries in its queue. -/
def living (l : StationState) (s : State) : State := { s with life := { s.life with state := l } }
def behind (q : List QueueEntry) (s : State) : State := { s with queue := s.queue ++ q }
def machined (revokeOwed setWanted : Option Nat) (s : State) : State :=
  { s with machine := { s.machine with revokeOwed := revokeOwed, setWanted := setWanted } }

theorem witness_OwnVetoedFrameRetriesOrLeaves :
    [ok (inOwnWindow (.charged 3) 1) fun s => inOwn (.charged 3) s && s.queue.all fun e => e.retries < 2,
      ok (inOwnWindow (.charged 3) 2) fun s => inOwn (.charged 3) s && s.queue.all fun e => 2 ≤ e.retries,
      ok (inOwnWindow .census) (inOwn .census),
      ok (inOwnWindow (.pushClaim 3 1 false)) fun s => inOwn (.pushClaim 3 1 false) s && decide (s.port.hold = none),
      ok { inOwnWindow (.pushClaim 3 1 false) with port := { Port.reset with commands := [⟨0x08#8, []⟩], hold := some (.abandon 0) } } fun s =>
        inOwn (.pushClaim 3 1 false) s && decide (s.port.hold = some (.abandon 0)),
      ok (inOwnWindow (.resealClaim 3 0 1)) (inOwn (.resealClaim 3 0 1)),
      ok (inOwnWindow (.pushStage 3 9 3 false)) fun s => inOwn (.pushStage 3 9 3 false) s && decide (s.claims.record = none),
      ok (inOwnWindow (.pushStage 3 9 3 false) 1 |> claiming (claim 3 toRamOut)) fun s => inOwn (.pushStage 3 9 3 false) s &&
        decide (s.claims.record = some (claim 3 toRamOut)) && s.queue.all fun e => e.retries < 2,
      ok (inOwnWindow (.pushStage 3 9 3 false) 2 |> claiming (claim 3 toRamOut)) fun s => inOwn (.pushStage 3 9 3 false) s &&
        s.queue.all fun e => 2 ≤ e.retries,
      ok (claiming (claim 3 toRamOut) { inOwnWindow (.pushStage 3 9 8 false) 0 .guide with machine := ⟨4, false, [], some 9, none, none, none⟩ })
        fun s => inOwn (.pushStage 3 9 8 false) s && decide (s.machine.revokeOwed = some 9) && s.queue.all fun e => e.retries < 2,
      ok (claiming (claim 3 toRamOut) { inOwnWindow (.pushStage 3 9 8 false) 2 .guide with machine := ⟨4, false, [], some 9, none, none, none⟩ })
        fun s => inOwn (.pushStage 3 9 8 false) s && decide (s.machine.revokeOwed = some 9) && s.queue.all fun e => 2 ≤ e.retries,
      ok (inOwnWindow (.pushStage 3 9 8 true) 1 .guide |> claiming (claim 3 toRamOut) |> machined none (some 9))
        fun s => inOwn (.pushStage 3 9 8 true) s && decide (s.machine.setWanted = some 9) && s.queue.all fun e => e.retries < 2,
      ok (inOwnWindow (.pushStage 3 9 8 true) 2 .guide |> claiming (claim 3 toRamOut) |> machined none (some 9))
        fun s => inOwn (.pushStage 3 9 8 true) s && decide (s.machine.setWanted = some 9) && s.queue.all fun e => 2 ≤ e.retries,
      ok (inOwnWindow (.pushStage 3 9 9 false) 0 .quench |> claiming (claim 3 .clear) |> caring { Car.reset with state := .spotted, marker := 3 })
        fun s => inOwn (.pushStage 3 9 9 false) s && decide (s.role = .quench ∧ s.wishesReady (claim 3 .clear)),
      ok (inOwnWindow (.pushStage 3 9 9 false) 0 .quench |> claiming (claim 3 .clear)) fun s => inOwn (.pushStage 3 9 9 false) s &&
        decide (¬s.wishesReady (claim 3 .clear)),
      ok (inOwnWindow (.pushAbandon 3 9 1)) fun s => inOwn (.pushAbandon 3 9 1) s && decide (s.claims.record = none),
      ok (inOwnWindow (.pushAbandon 3 9 1) 2 |> claiming (claim 3 .clear)) fun s => inOwn (.pushAbandon 3 9 1) s &&
        s.queue.all fun e => 2 ≤ e.retries,
      ok (inOwnWindow (.pushAbandon 3 9 2) 2 |> claiming { claim 3 .clear with timer := 300000 }) fun s => inOwn (.pushAbandon 3 9 2) s &&
        decide (s.pushLimit ≤ 300000)].all id = true := by decide +kernel

theorem witness_OwnTakenFrameLeavesAndIsTold :
    [ok (inOwnWindow (.charged 3)) fun s => inOwn (.charged 3) s && decide (s.line.vto = false ∧ s.life.state = .onLine ∧
        (ownWindow (.charged 3)).frame.map Frame.sender = some s.straps.id ∧ s.role = .pusher ∧ s.bankConfig = none),
      ok (inOwnWindow (.resealClaim 3 0 1)) fun s => inOwn (.resealClaim 3 0 1) s && decide (s.role = Side.ps.role ∧ Side.ps.code = 0 ∧
        s.claims.reseals.findIdx? Option.isNone = some 0),
      ok (inOwnWindow (.resealCall 1 0) 0 .bank) fun s => inOwn (.resealCall 1 0) s && decide (s.side? = none),
      ok { inOwnWindow (.pushClaim 3 1 false) with port := { Port.reset with commands := [⟨0x08#8, []⟩], hold := some (.abandon 0) } } fun s =>
        inOwn (.pushClaim 3 1 false) s && decide (s.openClaim = none ∧ s.plan ≠ none ∧ s.port.hold = some (.abandon 0) ∧ s.queue.length ≤ 8),
      ok (claiming (claim 3 { toRamOut with guideSet := false })
          { inOwnWindow (.pushStage 3 9 8 false) 0 .guide with machine := ⟨4, false, [], some 9, none, none, none⟩ }) fun s =>
        inOwn (.pushStage 3 9 8 false) s && decide (s.role = .guide ∧ s.machine.revokeOwed = some 9 ∧ s.bankConfig = none ∧ s.plan = none),
      ok (inOwnWindow (.mainPressure (-900) 1) 0 .bank) fun s => inOwn (.mainPressure (-900) 1) s &&
        decide (s.bankConfig = some (part0, part1) ∧ part1.mainSensor = true),
      ok (inOwnWindow .census) (inOwn .census),
      ok (inOwnWindow (.announce (.guide 3 0 0 2) ⟨0, 0, .clear⟩) 0 .guide) fun s =>
        inOwn (.announce (.guide 3 0 0 2) ⟨0, 0, .clear⟩) s && decide ((Payload.guide 3 0 0 2).role = s.role) && s.queue.all fun e => !e.leaving,
      ok (inOwnWindow (.pushAbandon 3 9 2) |> claiming (claim 3 .clear)) fun s => inOwn (.pushAbandon 3 9 2) s &&
        decide (s.claims.record = some (claim 3 .clear) ∧ s.bankConfig = none),
      ok (inOwnWindow (.resealDone 1 0 7 1) 0 .bank |> resealing { resealRecord .ps with ending := .givenUp, owed := some 5 }) fun s =>
        inOwn (.resealDone 1 0 7 1) s && decide (s.openReseals = []),
      ok (inOwnWindow (.resealDone 1 0 7 0) |> resealing (resealRecord .ps)) fun s => inOwn (.resealDone 1 0 7 0) s &&
        decide (s.bankConfig = none ∧ s.openReseals.filter (fun y => decide (y.serial = 7)) = [resealRecord .ps]),
      ok (inOwnWindow (.stopNote 1 3)) (inOwn (.stopNote 1 3)), ok (inOwnWindow (.resume 3)) (inOwn (.resume 3))].all id = true := by
  decide +kernel

/-- The window of a frame with a reception fault. -/
def faultyWindow : Window := ⟨none, [], true, false, none, none, false, .veto .check, true, true, false, 3, [], false⟩

/-- A listening station at the end of the thirty-second clean window. -/
def thirtySecond (w : Window) (q : List QueueEntry) : State :=
  station .guide .listenOnly |> queuing q |> lined { Line.reset with state := .settle, cleanRun := 31, window := some w }

theorem witness_FaultCountersChangeLife :
    [ok (station .guide |> lined { Line.reset with state := .settle, checkStreak := 6, window := some faultyWindow }) fun s =>
        s.line.state = .settle ∧ s.line.hld = false ∧ s.drives = true ∧ faultyWindow.fault = true ∧ faultyWindow.own = false ∧
          s.line.checkStreak < 7,
      ok (station .guide .listenOnly |> lined { Line.reset with state := .settle, cleanRun := 31, window := some faultyWindow }) fun s =>
        s.line.state = .settle ∧ s.line.hld = false ∧ s.life.state = .listenOnly ∧ faultyWindow.fault = true,
      ok (station .guide |> lined { Line.reset with
          state := .settle, checkStreak := 6, window := some { windowOf (frameFrom 1 .census) with malformed := true } }) fun s =>
        s.line.hld = false ∧ s.receives = true ∧ s.life.state ≠ .listenOnly ∧
          s.line.window.any fun w => !w.own && !w.fault && w.malformed && w.sender ≠ some s.straps.id,
      ok (station .guide |> lined { Line.reset with state := .settle, checkStreak := 7, window := some faultyWindow }) fun s =>
        s.line.state = .settle ∧ s.line.hld = false ∧ s.drives = true ∧ faultyWindow.fault = true ∧ s.line.checkStreak = 7 ∧ s.queue = [] ∧
          s.openClaim = none,
      ok ({ station .guide with machine := ⟨4, false, [], some 9, none, none, none⟩ } |> claiming (claim 3 toRamOut) |>
          queuing [entryOf (.pushClaim 4 10 false), entryOf (.pushAbandon 3 9 1), entryOf (.pushStage 3 9 8 true),
            entryOf (.pushStage 3 9 9 false), entryOf (.charged 2)] |>
          lined { Line.reset with state := .settle, checkStreak := 7, window := some faultyWindow }) fun s =>
        faultyWindow.own = false ∧ s.openClaim = some (claim 3 toRamOut) ∧ s.machine.revokeOwed = some 9 ∧ s.queue.length = 5,
      ok (station .guide |> claiming { claim 3 toRamOut with timer := 300000 } |> queuing [entryOf (.pushAbandon 3 9 2)] |>
          lined { Line.reset with state := .settle, checkStreak := 7, window := some faultyWindow }) fun s =>
        s.openClaim = some { claim 3 toRamOut with timer := 300000 } ∧ s.pushLimit ≤ 300000 ∧ s.queue = [entryOf (.pushAbandon 3 9 2)],
      ok (thirtySecond { windowOf (frameFrom 1 .census) with malformed := true } [entryOf (.charged 3)]) fun s =>
        s.line.state = .settle ∧ s.line.hld = false ∧ s.life.state = .listenOnly ∧ s.line.cleanRun = 31 ∧ s.stop.input = false ∧
          (s.line.window.any fun w => !w.own && !w.fault && w.malformed && w.sender ≠ some s.straps.id) ∧
          (∀ e ∈ s.queue, e.leaving = false) ∧ s.queue.length < 7,
      ok { thirtySecond (windowOf (frameFrom 1 (.pushClaim 3 1 false))) [] with stop := { State.reset.stop with input := true } } fun s =>
        s.stop.input = true ∧ s.line.dat ≠ .stopPulse ∧ s.line.window.any fun w => !w.own && !w.fault && !w.malformed].all id = true := by
  decide +kernel

/-- The line BLOCKED, or in a stop run that met it BLOCKED, with a window whose outcome is sampled. -/
def sampled (x : LineState) (s : State) : State :=
  { s with line := { s.line with
      state := x, run := if x = .stopRun then some 0 else none, wasBlocked := decide (x = .stopRun)
      window := s.line.window.map fun w => { w with vetoRead := true } } }

theorem witness_StopRunStopsBattery :
    [ok (inOwnWindow (.charged 3)) fun s => s.receives = true ∧ s.line.state ≠ .off ∧ s.line.state ≠ .stopRun ∧
        (∀ e ∈ s.queue, e.inFlight = true → e.body.kind.retriable = true) ∧ (s.line.window.any fun w => !w.vetoRead),
      ok (inOwnWindow (.charged 3) |> sampled .blocked) fun s => s.receives = true ∧ s.line.state = .blocked ∧ s.line.window.any Window.vetoRead,
      ok (inOwnWindow (.charged 3) |> sampled .stopRun) fun s => s.line.state = .stopRun ∧ s.line.wasBlocked = true ∧
        s.line.window.any Window.vetoRead,
      ok (inOwnWindow (.mainPressure (-900) 1)) fun s => inOwn (.mainPressure (-900) 1) s && decide (s.port.hold = none),
      ok (inOwnWindow (.pushClaim 3 1 false)) fun s => inOwn (.pushClaim 3 1 false) s && decide (s.port.hold = none),
      ok (inOwnWindow (.pushClaim 3 1 false) |> holdingBy 0x08#8 (.abandon 20)) fun s => inOwn (.pushClaim 3 1 false) s &&
        decide (s.port.hold = some (.abandon 20)),
      ok (inOwnWindow (.resealClaim 3 0 1)) (inOwn (.resealClaim 3 0 1)),
      ok (station .guide |> lined { Line.reset with state := .stopRun, run := some 1000 }) fun s => s.line.state = .stopRun ∧
        s.line.wasBlocked = false,
      ok (station .guide |> lined { Line.reset with state := .stopRun, run := some 1000, wasBlocked := true }) fun s =>
        s.line.state = .stopRun ∧ s.line.run = some 1000 ∧ s.line.stuck = false ∧ s.line.wasBlocked = true ∧ s.line.window = none].all id = true := by decide +kernel

theorem witness_StopInputsAndMark :
    [ok { station .guide with stop := ⟨true, true, 1, none, some (some 2000)⟩ } fun s =>
        s.stop.mark = some (some 2000) ∧ s.stop.input = true,
      ok (station .guide .listenOnly |> told 0x04#8 []) fun s => s.stop.input = false ∧ s.drives = false ∧ s.Begins 0x04#8 [],
      ok (station .guide |> told 0x04#8 []) fun s => s.stop.input = false ∧ s.drives = true ∧ s.line.dat ≠ .stopPulse ∧
        s.queue.length < 8 ∧ s.Begins 0x04#8 [],
      ok (station .guide |> told 0x04#8 [] |> queuing (List.replicate 8 (entryOf (.charged 3)))) fun s => s.stop.input = false ∧
        s.drives = true ∧ s.line.dat ≠ .stopPulse ∧ 8 ≤ s.queue.length ∧ s.Begins 0x04#8 [],
      ok (station .guide |> told 0x04#8 [] |> lined { Line.reset with state := .idle, dat := .stopPulse }) fun s => s.stop.input = false ∧
        s.drives = true ∧ s.line.dat = .stopPulse ∧ s.Begins 0x04#8 []].all id = true := by decide +kernel

/-! ## Witnesses: joining and claims -/

theorem witness_CensusAndAnnounceTimers :
    [ok (station .guide .joining) fun s => s.life.census = some 0 ∧ s.drives = true ∧ s.queue.length < 8 ∧ s.life.announce = some 0 ∧
        (∀ e ∈ s.queue, e.leaving = false) ∧ s.life.lastContent = none,
      ok { station .guide .listenOnly with life := { Life.reset with state := .listenOnly, census := some 1050 } } fun s =>
        s.life.census = some 1050 ∧ s.life.state = .listenOnly,
      ok (station .guide |> queuing (List.replicate 8 (entryOf .census))) fun s => s.life.announce = some 0 ∧ s.drives = true ∧
        (∀ e ∈ s.queue, e.leaving = false) ∧
        8 ≤ (s.queue.filter fun e => e.inFlight || decide (e.body.kind ≠ .announce)).length,
      ok (station .bank |> claiming (claim 1 .clear)) fun s => s.role = .bank ∧ s.bankConfig = some (part0, part1) ∧ s.claims.record ≠ none,
      ok (station .pusher) fun s => s.role = .pusher ∧ s.plan ≠ none,
      ok (station .guide) fun s => s.role = .guide ∧ ∀ r ∈ s.openReseals, r.side ≠ .cs,
      ok (station .guide |> resealing (resealRecord .cs)) fun s => s.role = .guide ∧
        s.openReseals.find? (fun x => decide (x.side = .cs)) = some (resealRecord .cs),
      ok (station .quench) fun s => s.role = .quench].all id = true := by decide +kernel

/-- A station that has been reset, with the given role. -/
def fresh (r : Role) : State := { State.reset with straps := ⟨5, r, 1, 1⟩ }

theorem witness_StartAndRejoinJoin :
    [ok (fresh .guide |> told 0x01#8 [0#8, 1#8, 0x2C#8, 0x01#8, 5#8]) fun s => s.OffLineClear ∧ s.config = none ∧ s.role = .guide ∧
        s.Begins 0x01#8 (0#8 :: (field1 1 ++ field2 300 ++ field1 5)),
      ok (fresh .pusher |> told 0x01#8 [0#8, 96#8, 0x08#8, 0x07#8, 4#8, 12#8, 11#8, 140#8]) fun s => s.OffLineClear ∧ s.role = .pusher ∧
        Nat.gcd 11 12 = 1 ∧ s.Begins 0x01#8 ((0#8 :: (field1 96 ++ field2 1800 ++ field1 4)) ++ field1 12 ++ field1 11 ++ field1 140),
      ok (fresh .quench |> told 0x01#8 [0#8, 96#8, 0x08#8, 0x07#8, 0#8, 150#8, 30#8, 0x58#8, 0x02#8]) fun s => s.OffLineClear ∧
        s.role = .quench ∧ s.Begins 0x01#8 ((0#8 :: (field1 96 ++ field2 1800 ++ field1 0)) ++ field1 150 ++ field1 30 ++ field2 600),
      ok ({ fresh .guide with straps := ⟨5, .guide, 3, 1⟩ } |> told 0x01#8 [0#8, 1#8, 0x2C#8, 0x01#8, 5#8]) fun s => s.straps.lineRate = 3 ∧
        s.Begins 0x01#8 (0#8 :: (field1 1 ++ field2 300 ++ field1 5)),
      ok (station .guide |> told 0x01#8 [0#8, 1#8, 0x2C#8, 0x01#8, 5#8]) fun s => s.config ≠ none ∧ s.straps.lineRate ≠ 3 ∧
        s.straps.portRate ≠ 3 ∧ s.Begins 0x01#8 (0#8 :: (field1 1 ++ field2 300 ++ field1 5)),
      ok ({ fresh .bank with config := (station .bank).config } |> told 0x02#8 []) fun s => s.Begins 0x02#8 [] ∧ s.OffLineClear ∧
        s.config ≠ none,
      ok (fresh .bank |> told 0x02#8 []) fun s => s.Begins 0x02#8 [] ∧ s.config = none].all id = true := by decide +kernel

/-- The two parts of START with every field at an end of its range. -/
def bounds0 : BankPart0 := ⟨96, 1800, ⟨true, true, true⟩, 89, 8, 1800, 1000, 480, 600, -200, -600, 900⟩
def bounds1 : BankPart1 := ⟨255, 0, 255, -3000, true, 400, 0, 400, 254, 255, 300, 60, 1200⟩
def bytes0 : List Byte :=
  0#8 :: (field1 96 ++ field2 1800 ++ field1 7 ++ field1 89 ++ field1 8 ++ field2 1800 ++ field2 1000 ++ field2 480 ++ field2 600 ++
    field2 (-200) ++ field2 (-600) ++ field2 900)
def bytes1 : List Byte :=
  1#8 :: (field1 255 ++ field1 0 ++ field1 255 ++ field2 (-3000) ++ fieldFlag true ++ field2 400 ++ field2 0 ++ field2 400 ++ field1 254 ++
    field1 255 ++ field2 300 ++ field2 60 ++ field2 1200)

/-- The port after the reports for the latches that read UNLATCHED, door by door. -/
def latchReports (p : BankPart0) (inputs : BitVec 16) (port : Port) : Nat → Port
  | 0 => port
  | d + 1 => if inputs.getLsbD d = true then
      ((latchReports p inputs port d).offerReport (.doorEvent (p.first + d / 2) (doorSide d) .unlatched .unlatchedUnexpected 0)).offerReport
        (.attention (some (p.first + d / 2)) (some (doorSide d)) .unlatchedUnexpected true) else latchReports p inputs port d

theorem witness_BankStartsInTwoParts :
    (∀ inputs port, latchReports bounds0 inputs port 0 = port ∧ ∀ d, latchReports bounds0 inputs port (d + 1) =
      if inputs.getLsbD d = true then
        ((latchReports bounds0 inputs port d).offerReport
          (.doorEvent (bounds0.first + d / 2) (doorSide d) .unlatched .unlatchedUnexpected 0)).offerReport
            (.attention (some (bounds0.first + d / 2)) (some (doorSide d)) .unlatchedUnexpected true)
      else latchReports bounds0 inputs port d) ∧
    [ok (fresh .bank |> told 0x01#8 bytes0) fun s => s.role = .bank ∧ s.config = none ∧ s.life.state = .offLine ∧ s.straps.lineRate ≠ 3 ∧
        bounds0.consent = ⟨(7).testBit 0, (7).testBit 1, (7).testBit 2⟩ ∧ bounds0.first + bounds0.count ≤ bounds0.ovens + 1 ∧
        bounds0.floor ≤ bounds0.base ∧ s.Begins 0x01#8 bytes0,
      ok ({ fresh .bank with staged := some bounds0 } |> told 0x01#8 bytes1) fun s => s.OffLineClear ∧ s.staged = some bounds0 ∧
        bounds1.weeping < bounds1.leaking ∧ bounds1.leaking ≤ 255 ∧ s.Begins 0x01#8 bytes1].all id = true ∧
      bytes0.length = 21 ∧ bytes1.length = 21 :=
  ⟨fun _ _ => ⟨rfl, fun _ => rfl⟩, by decide +kernel⟩

/-- START with a pusher's fields in which the pass step, at place 6, is not below the stride. -/
def badStep : List Byte := [0#8, 6#8, 0x2C#8, 0x01#8, 4#8, 2#8, 2#8, 50#8]

/-- The fields of a part, as `StartFieldBad` reads them. -/
def badIn (r : Role) (part : Byte) (widths : List Nat) (body : List Byte) (place : Nat) : Prop :=
  StartFieldBad r part (fun k => natLow (fieldAt widths body k)) (fun k => intLow (fieldAt widths body k)) place

theorem witness_StartRefusesBadFields :
    startFields .pusher 0#8 = some [1, 1, 2, 1, 1, 1, 1] ∧ badStep.length = [1, 1, 2, 1, 1, 1, 1].sum ∧
    badIn .pusher 0#8 [1, 1, 2, 1, 1, 1, 1] badStep 6 ∧
    (∀ earlier, 2 ≤ earlier → earlier < 6 → ¬badIn .pusher 0#8 [1, 1, 2, 1, 1, 1, 1] badStep earlier) ∧
    [ok (fresh .pusher |> told 0x01#8 []) fun s => s.Begins 0x01#8 [],
      ok ({ fresh .pusher with straps := ⟨5, .pusher, 1, 3⟩ } |> told 0x01#8 [1#8]) fun s => s.Begins 0x01#8 [1#8] ∧
        startFields s.role 1#8 = none ∧ s.straps.portRate = 3,
      ok (fresh .pusher |> told 0x01#8 [1#8]) fun s => s.Begins 0x01#8 [1#8] ∧ s.straps.lineRate ≠ 3 ∧ s.straps.portRate ≠ 3 ∧
        s.life.state = .offLine ∧ s.config = none,
      ok (station .pusher |> told 0x01#8 [1#8]) fun s => s.Begins 0x01#8 [1#8] ∧ s.config ≠ none,
      ok (fresh .pusher |> told 0x01#8 [0#8, 6#8, 0x2C#8]) fun s => s.Begins 0x01#8 [0#8, 6#8, 0x2C#8] ∧
        ([1, 1, 2, 1, 1, 1, 1].take (3 - 1)).sum ≤ 3 ∧ 3 < ([1, 1, 2, 1, 1, 1, 1].take 3).sum,
      ok (fresh .pusher |> told 0x01#8 (badStep ++ [0#8])) fun s => s.Begins 0x01#8 (badStep ++ [0#8]) ∧
        [1, 1, 2, 1, 1, 1, 1].sum < (badStep ++ [0#8]).length,
      ok ({ fresh .pusher with straps := ⟨5, .pusher, 3, 1⟩ } |> told 0x01#8 badStep) fun s => s.Begins 0x01#8 badStep ∧ s.straps.lineRate = 3,
      ok (station .pusher |> told 0x01#8 badStep) fun s => s.Begins 0x01#8 badStep ∧ s.config ≠ none ∧ s.straps.lineRate ≠ 3,
      ok (fresh .pusher |> told 0x01#8 badStep) fun s => s.Begins 0x01#8 badStep ∧ s.life.state = .offLine ∧ s.config = none,
      ok (fresh .bank |> told 0x01#8 bytes1) fun s => s.Begins 0x01#8 bytes1 ∧ s.staged = none].all id = true := by
  refine ⟨rfl, rfl, by simp [badIn, StartFieldBad, FirstPartFieldBad, badStep, fieldAt, natLow], ?_, by decide +kernel⟩
  intro k lo hi
  interval_cases k <;> simp [badIn, StartFieldBad, FirstPartFieldBad, badStep, fieldAt, natLow, Nat.testBit]

def guidePays : Body := .announce (.guide 3 0 0 0) ⟨3, 9, .clear⟩

/-- The leaving ANNOUNCE of a station, in flight, and the station that waits for it. -/
def leavingEntry : QueueEntry := ⟨guidePays, true, 0, 0, true⟩
def leaving (l : Line) : State :=
  { station .guide with
    queue := [leavingEntry], line := l, port := { Port.reset with commands := [⟨0x03#8, []⟩], hold := some (.leave 100) } }
def leavingWindow : Window := { ownWindow guidePays with frame := some { frameFrom 5 guidePays with leaving := true } }

theorem witness_leavingWindow (l : Line) (state : l.state = .settle) (window : l.window = some leavingWindow) (hld : l.hld = false) :
    (leaving l).OwnWindow leavingWindow 0 leavingEntry := by
  refine ⟨rfl, state, window, hld, rfl, rfl, rfl, rfl, rfl, ?_⟩
  intro i x h _
  match i with
  | 0 => rfl
  | k + 1 => exact absurd (show ([] : List QueueEntry)[k]? = some x from h) (by simp)

theorem witness_LeaveTakesStationOffLine :
    [ok (leaving { Line.reset with state := .settle, window := some leavingWindow }) fun s => s.port.hold = some (.leave 100) ∧
        s.queue = [leavingEntry] ∧ leavingEntry.leaving = true ∧ leavingEntry.body.kind = .announce ∧ s.line.vto = false ∧
        leavingWindow.frame.map Frame.body = some leavingEntry.body ∧ leavingWindow.frame.map Frame.leaving = some true ∧
        leavingWindow.frame.map Frame.sender = some s.straps.id,
      ok (leaving { Line.reset with state := .sending, dat := .frame }) fun s => s.receives = true ∧ s.line.state = .sending,
      ok (station .guide |> told 0x03#8 [] |> queuing (List.replicate 8 (entryOf .census))) fun s => s.Begins 0x03#8 [] ∧ s.drives = true ∧
        8 ≤ (s.queue.filter fun e => e.inFlight || decide (e.body.kind ≠ .announce)).length,
      ok (station .guide |> told 0x03#8 []) fun s => s.Begins 0x03#8 [] ∧ s.drives = true ∧ s.queue = [],
      ok (station .guide .listenOnly |> told 0x03#8 []) fun s => s.Begins 0x03#8 [] ∧ s.life.state = .listenOnly,
      ok (station .guide .conflict |> told 0x03#8 []) fun s => s.Begins 0x03#8 [] ∧ s.life.state = .conflict,
      ok { station .guide with port := { Port.reset with commands := [⟨0x03#8, []⟩], hold := some (.leave 500) } } fun s =>
        s.port.hold = some (.leave 500) ∧ s.life.state ≠ .conflict,
      ok { station .guide .conflict with port := { Port.reset with commands := [⟨0x03#8, []⟩], hold := some (.leave 500) } } fun s =>
        s.port.hold = some (.leave 500) ∧ s.life.state = .conflict,
      ok (station .guide .listenOnly |> told 0x03#8 [] |> claiming (claim 3 .clear)) fun s => s.Begins 0x03#8 [] ∧ s.bankConfig = none ∧
        s.openClaim ≠ none ∧ s.table.any fun x => decide (x.role ≠ none)].all id = true := by decide +kernel

/-- A joining station that has the given joining count and hears a census in which every slot, or none, reads PRESENT. -/
def counting (count : Nat) (present : Bool) : State :=
  { station .guide .joining with
    life := { Life.reset with state := .joining, joinCount := count, census := some 0 }
    line := { Line.reset with
      state := .settle
      window := some { windowOf (frameFrom 1 .census) with census := List.replicate 16 (if present then 0#8 else 0xFF#8) } } }

/-- The window that the station hears. -/
def hearsCensus (s : State) : Bool :=
  s.line.window.any fun w => decide (s.Hears w (frameFrom 1 .census)) && decide (s.line.vto = false)

/-- A station of the role that has seen two censuses with its slot, at the end of the third's window. -/
def entering (r : Role) : State :=
  { station r .joining with
    life := { Life.reset with state := .joining, joinCount := 2, census := some 0, announce := some 0 }
    line := { Line.reset with state := .settle, window := some (windowOf (frameFrom 1 .census)) } }

theorem witness_TakenCensusCountsStations :
    [ok (station .guide |> hearing (frameFrom 1 .census)) fun s => hearsCensus s && decide (s.life.state ≠ .joining ∧ s.table.length = 32),
      ok (counting 2 false) fun s => hearsCensus s && s.line.window.any fun w => slotPresent w.census s.straps.id = false,
      ok (counting 1 true) fun s => hearsCensus s && s.line.window.any fun w => slotPresent w.census s.straps.id = true,
      ok (counting 2 true) fun s => hearsCensus s && decide (2 ≤ s.life.joinCount),
      ok (entering .bank |> claiming (claim 1 .clear) |> banked { coking with state := .claimed } { collecting with owed := true } tight)
        fun s => hearsCensus s && decide (2 ≤ s.life.joinCount ∧ s.role ≠ .quench ∧ s.machine.revokeOwed = none ∧ s.ovenAt 0 = 1 ∧
          s.openClaim = some (claim 1 .clear) ∧ s.queue = []),
      ok (entering .bank |> claiming (claim 1 .clear) |> queuing (List.replicate 8 (entryOf (.charged 3))) |>
          banked { coking with state := .claimed } { collecting with owed := true } tight) fun s => hearsCensus s && decide (8 ≤ s.queue.length),
      ok (entering .bank |> claiming (claim 1 toRamOut) |> banked { coking with state := .claimed } { collecting with owed := true } tight)
        fun s => hearsCensus s && decide (s.openClaim = some (claim 1 toRamOut) ∧ toRamOut.isolated = true),
      ok ({ entering .guide with machine := { MachineUnit.reset with revokeOwed := some 9 } } |> claiming (claim 3 toRamOut)) fun s =>
        hearsCensus s && decide (s.machine.revokeOwed = some 9 ∧ s.openClaim = some (claim 3 toRamOut) ∧ s.queue = [] ∧ s.bank.loops = []),
      ok ({ entering .guide with machine := { MachineUnit.reset with revokeOwed := some 9 } } |> claiming (claim 3 toRamOut) |>
          queuing (List.replicate 8 (entryOf (.charged 3)))) fun s => hearsCensus s && decide (8 ≤ s.queue.length),
      ok ({ entering .guide with machine := { MachineUnit.reset with revokeOwed := some 8 } } |> claiming (claim 3 toRamOut)) fun s =>
        hearsCensus s && decide ((claim 3 toRamOut).serial ≠ 8),
      ok (entering .quench |> claiming (claim 3 toRamOut)) fun s => hearsCensus s && decide (s.role = .quench ∧
        s.openClaim = some (claim 3 toRamOut) ∧ ¬s.wishesReady (claim 3 toRamOut) ∧ toRamOut.carReady = true ∧ toRamOut.carLoaded = false ∧
        s.queue = []),
      ok (entering .quench |> claiming (claim 3 toRamOut) |> queuing (List.replicate 8 (entryOf (.charged 3)))) fun s => hearsCensus s &&
        decide (8 ≤ s.queue.length),
      ok (entering .quench |> claiming (claim 3 .clear)) fun s => hearsCensus s && decide (¬s.wishesReady (claim 3 .clear))].all id = true := by
  decide +kernel

def pusherPays : Body := .announce (.pusher 3 0 0 0) ⟨3, 9, .clear⟩
def leavingFrame : Frame := { frameFrom 1 pusherPays with leaving := true }

/-- An ANNOUNCE of station n in a role, and one of a BANK of two ovens. -/
def announces (n : Nat) (p : Payload) (joining : Bool := false) : Frame := { frameFrom n (.announce p ⟨3, 9, .clear⟩) with joining := joining }
def twoOvens (first : Nat) : Payload := .bank first [0#8, 0#8]

/-- The duplicates are a matter of roles and ranges alone, so any predicate that the hypothesis describes serves; the bank of these states
has ovens 1 and 2. -/
theorem witness_TakenAnnounceFillsEntry :
    [ok (station .bank |> hearing (frameFrom 1 pusherPays)) (heard (frameFrom 1 pusherPays)),
      ok (station .bank |> hearing (announces 1 (twoOvens 3))) fun s => heard (announces 1 (twoOvens 3)) s &&
        decide (¬(3 < part0.first + part0.count ∧ part0.first < 3 + 2)),
      ok (station .quench |> hearing (announces 1 (twoOvens 3))) fun s => heard (announces 1 (twoOvens 3)) s &&
        decide ((twoOvens 3).role ≠ s.role ∧ (twoOvens 3).role ≠ .pusher),
      ok (station .quench .joining |> hearing (announces 1 (.guide 3 0 0 2) true)) fun s => heard (announces 1 (.guide 3 0 0 2) true) s &&
        decide (s.life.state = .joining ∧ (Payload.guide 3 0 0 2).role ≠ s.role),
      ok (station .guide .listenOnly |> hearing (frameFrom 1 guidePays)) fun s => heard (frameFrom 1 guidePays) s &&
        decide (s.life.state = .listenOnly),
      ok (station .bank |> hearing leavingFrame) fun s => heard leavingFrame s && leavingFrame.leaving,
      ok (station .quench |> hearing leavingFrame) fun s => heard leavingFrame s && decide (s.role = .quench)].all id = true ∧
    [(Role.pusher, pusherPays), (.guide, guidePays), (.quench, .announce (.quench 0 0 0 0) ⟨0, 0, .clear⟩)].all (fun x =>
      ok (station x.1 |> hearing (frameFrom 1 x.2)) (fun s => heard (frameFrom 1 x.2) s && decide (s.drives = true ∧ 1 < s.straps.id)) &&
        ok (station x.1 |> hearing (frameFrom 6 x.2)) (fun s => heard (frameFrom 6 x.2) s && decide (s.straps.id < 6))) = true ∧
    [ok (station .bank |> hearing (announces 1 (twoOvens 2))) fun s => heard (announces 1 (twoOvens 2)) s && decide (1 < s.straps.id ∧
        s.config = some ⟨6, 300, ⟨false, false, false⟩, .bank part0 part1⟩ ∧ 2 < part0.first + part0.count ∧ part0.first < 2 + 2),
      ok (station .bank |> hearing (announces 6 (twoOvens 2))) fun s => heard (announces 6 (twoOvens 2)) s && decide (s.straps.id < 6),
      ok (station .bank .joining |> hearing (announces 6 (twoOvens 2) true)) fun s => heard (announces 6 (twoOvens 2) true) s &&
        decide (s.life.state = .joining),
      ok (station .bank .joining |> hearing (announces 6 (twoOvens 2))) fun s => heard (announces 6 (twoOvens 2)) s &&
        decide (s.life.state = .joining ∧ (announces 6 (twoOvens 2)).stopped = false),
      ok (station .guide .joining |> hearing (frameFrom 6 guidePays)) fun s => heard (frameFrom 6 guidePays) s &&
        decide (s.life.state = .joining ∧ s.life.adopted = false ∧ s.bankConfig = none ∧ s.plan = none ∧ s.openClaim = none ∧ s.straps.id < 6),
      ok (station .guide .joining |> hearing (frameFrom 1 pusherPays)) fun s => heard (frameFrom 1 pusherPays) s &&
        decide (s.life.state = .joining ∧ s.life.adopted = false ∧ s.bankConfig = none ∧ s.plan = none ∧ s.openClaim = none)].all id = true := by
  refine ⟨?_, ?_, ?_⟩ <;> decide +kernel

def abandonFor : Body := .pushAbandon 3 9 1

theorem witness_ClaimAndResealWaitsRunOut :
    [ok (station .guide |> claiming { claim 3 .clear with timer := 300000 }) fun s => s.stop.stopped = false ∧ s.claims.retry = none ∧
        s.pushLimit = 300000 ∧ s.life.state = .onLine ∧ s.queue = [],
      ok (station .guide |> claiming (claim 3 .clear) |> queuing [entryOf abandonFor]) fun s => s.queue = [entryOf abandonFor],
      ok (station .guide .listenOnly |> claiming (claim 3 .clear)) fun s => s.life.state ≠ .onLine ∧ s.queue = [],
      ok { claiming (claim 3 .clear) (station .guide) with
          claims := { Tracker.reset with record := some (claim 3 .clear), retry := some 1000 } } fun s =>
        s.claims.retry = some 1000 ∧ s.life.state = .onLine ∧ s.queue = [],
      ok (station .guide |> resealing (resealRecord .cs)) fun s => s.stop.stopped = false ∧ s.bankConfig = none ∧
        s.claims.reseals[0]? = some (some (resealRecord .cs)),
      ok (station .bank |> resealing (resealRecord .ps) |> banked coking collecting resealingDoor) fun s =>
        s.ovenIndex 1 = some 0 ∧ s.bank.doors[doorIndex 0 .ps]? = some resealingDoor ∧ s.queue.length < 8 ∧
          s.config = some ⟨6, 300, ⟨false, false, false⟩, .bank part0 part1⟩ ∧ (resealRecord .ps).oven = part0.first + 0 / 2 ∧
          (resealRecord .ps).side = doorSide 0 ∧ s.life.state = .onLine,
      ok (station .bank |> resealing (resealRecord .ps) |> banked coking collecting { resealingDoor with latch := .unlatched } |>
          queuing (List.replicate 8 (entryOf .census))) fun s =>
        s.bank.doors[0]? = some { resealingDoor with latch := .unlatched } ∧ 8 ≤ s.queue.length,
      ok (station .bank |> resealing { resealRecord .ps with ending := .givenUp, owed := some 120000 }) fun s =>
        s.bank.doors[0]? = some tight ∧ tight.reseal = none ∧ s.stop.stopped = false ∧
          s.claims.reseals[0]? = some (some { resealRecord .ps with ending := .givenUp, owed := some 120000 }),
      ok { station .guide with port := { Port.reset with commands := [⟨0x08#8, []⟩], hold := some (.abandon 0) } } fun s =>
        s.port.hold = some (.abandon 0)].all id = true := by decide +kernel

/-- The station holds with an open ask, number 0. -/
def asking : State := windowAt 4 .asking (holding .asking)

theorem witness_AbandonConsentAndResumeCommands :
    [ok (station .guide .joining |> told 0x08#8 []) fun s => s.Begins 0x08#8 [] ∧ s.life.state ≠ .onLine,
      ok (station .pusher |> told 0x08#8 [] |> queuing [entryOf (.pushClaim 3 9 false)]) fun s => s.Begins 0x08#8 [] ∧
        ∃ e ∈ s.queue, e.inFlight = false ∧ e.body.kind = .pushClaim,
      ok (station .pusher |> told 0x08#8 [] |> queuing [entryOf (.pushClaim 3 9 false) true]) fun s => s.Begins 0x08#8 [] ∧
        (∀ e ∈ s.queue, e.body.kind = .pushClaim → e.inFlight = true) ∧ ∃ e ∈ s.queue, e.body.kind = .pushClaim,
      ok (station .guide |> told 0x08#8 []) fun s => s.Begins 0x08#8 [] ∧ s.queue = [] ∧ s.openClaim = none,
      ok (station .bank |> told 0x08#8 [] |> claiming (claim 3 .clear)) fun s => s.Begins 0x08#8 [] ∧ s.ovenIndex 3 = none,
      ok (station .guide |> told 0x08#8 [] |> claiming (claim 3 .clear) |> queuing [entryOf abandonFor]) fun s => s.Begins 0x08#8 [],
      ok (station .bank |> told 0x08#8 [] |> claiming (claim 2 .clear)) fun s => s.Begins 0x08#8 [] ∧ s.queue = [] ∧
        s.ovenIndex 2 ≠ none,
      ok (station .guide |> told 0x08#8 [] |> claiming (claim 3 .clear) |> queuing (List.replicate 8 (entryOf (.charged 3)))) fun s =>
        s.Begins 0x08#8 [] ∧ s.role ≠ .bank ∧ 8 ≤ s.queue.length ∧ ∀ e ∈ s.queue, e.body.kind ≠ .pushClaim ∧ e.body.kind ≠ .pushAbandon,
      ok (asking |> told 0x06#8 [0#8, 2#8]) fun s => s.Begins 0x06#8 [0#8, 2#8],
      ok (asking |> told 0x06#8 [1#8, 1#8]) fun s => s.Begins 0x06#8 [1#8, 1#8] ∧ (1#8 : Byte).toNat ≠ s.claims.ask,
      ok (asking |> told 0x06#8 [0#8, 0#8]) fun s => s.Begins 0x06#8 [0#8, 0#8] ∧ s.line.hld = true ∧
        (s.line.window.any fun w => w.holdDone && w.verdict = .asking) ∧ s.claims.ask = 0,
      ok (asking |> told 0x06#8 [0#8, 1#8]) fun s => s.Begins 0x06#8 [0#8, 1#8] ∧ s.openAsk ≠ none,
      ok (holding .asking |> told 0x06#8 [0#8, 0#8]) fun s => s.Begins 0x06#8 [0#8, 0#8] ∧ s.claims.ask = 0 ∧
        s.line.window.any fun w => !w.holdDone && w.verdict = .asking,
      ok (asking |> pulsing |> told 0x06#8 [0#8, 1#8]) fun s => s.Begins 0x06#8 [0#8, 1#8] ∧ s.claims.ask = 0 ∧ s.line.hld = false ∧
        s.line.window.any fun w => w.verdict = .asking,
      ok (station .guide |> told 0x05#8 []) fun s => s.Begins 0x05#8 [] ∧ s.stop.stopped = false,
      ok ({ station .guide with stop := ⟨true, true, 1, none, none⟩ } |> told 0x05#8 []) fun s => s.Begins 0x05#8 [] ∧ s.stop.input = true,
      ok ({ station .guide with stop := ⟨false, true, 1, none, some none⟩ } |> told 0x05#8 []) fun s =>
        s.Begins 0x05#8 [] ∧ s.stop.input = false ∧ s.stop.mark ≠ none,
      ok ({ station .guide with stop := ⟨false, true, 1, none, none⟩ } |> told 0x05#8 [] |> queuing [entryOf (.resume 1)]) fun s =>
        s.Begins 0x05#8 [] ∧ ∃ e ∈ s.queue, e.body.kind = .resume,
      ok ({ station .guide with stop := ⟨false, true, 1, none, none⟩ } |> told 0x05#8 []) fun s =>
        s.Begins 0x05#8 [] ∧ s.stop.mark = none ∧ s.queue = [],
      ok ({ station .guide with stop := ⟨false, true, 1, none, none⟩ } |> told 0x05#8 [] |>
          queuing (List.replicate 8 (entryOf (.charged 3)))) fun s => s.Begins 0x05#8 [] ∧ s.stop.mark = none ∧ s.stop.input = false ∧
        s.life.state = .onLine ∧ 8 ≤ s.queue.length ∧ ∀ e ∈ s.queue, e.body.kind ≠ .resume].all id = true := by decide +kernel

theorem witness_PushClaimJudged :
    [ok (station .bank .joining) fun s => s.life.state = .joining ∧ s.ovenIndex 1 ≠ none ∧ s.ovenIndex 3 = none,
      ok (station .bank .listenOnly) fun s => s.life.state = .listenOnly, ok (station .guide |> stoppedNow) fun s => s.stop.stopped = true,
      ok (station .guide) fun s => (s.entry 2).role ≠ some .pusher ∧ (s.entry 1).role = some .pusher ∧ s.claims.highest = 0,
      ok { station .guide with claims := { Tracker.reset with highest := 255 } } fun s => 1 = s.claims.highest % 255 + 1 ∧ 2 ≠ 1,
      ok (station .guide |> claiming (claim 3 .clear)) fun s => s.claims.record ≠ none,
      ok (station .guide |> resealing (resealRecord .ps)) fun s => some (resealRecord .ps) ∈ s.claims.reseals,
      ok (station .pusher) fun s => s.role = .pusher ∧ s.claims.record = none ∧ s.claims.reseals = List.replicate 4 none,
      ok (station .bank) fun s => s.ovenIndex 1 = some 0 ∧ s.bank.ovens[0]? = some coking ∧ s.bank.doors[0]? = some tight ∧
        s.bank.doors[1]? = some tight ∧ s.bank.loops[0]? = some collecting,
      ok (station .guide |> at_ 3) fun s => s.machine.position = 3 ∧ s.owner? 3 ≠ none,
      ok (station .quench |> caring { Car.reset with state := .spotted, marker := 3 }) fun s => s.role = .quench].all id = true := by
  decide +kernel

theorem witness_StageAndAbandonJudged :
    [ok (station .guide) fun s => s.life.state = .onLine ∧ s.claims.record = none,
      ok (station .guide |> claiming (claim 3 .clear)) fun s => s.claims.record = some (claim 3 .clear) ∧ (s.entry 4).covers 3 = true ∧
        (s.entry 2).role = some .guide].all id = true := by decide +kernel

theorem witness_OtherFramesJudged :
    [ok (station .bank .joining) fun s => s.life.state = .joining ∧ s.ovenIndex 1 ≠ none ∧ s.ovenIndex 3 = none,
      ok (station .bank .listenOnly) fun s => s.life.state = .listenOnly,
      ok (station .bank) fun s => s.life.state = .onLine ∧ (frameFrom 1 .census).body.kind = .census ∧
        (frameFrom 1 (.resealClaim 1 0 8)).body = .resealClaim 1 Side.ps.code 8 ∧ (frameFrom 1 (.resealClaim 1 2 8)).body = .resealClaim 1 2 8 ∧
        (frameFrom 1 (.resealDone 1 1 7 0)).body = .resealDone 1 Side.cs.code 7 0 ∧
        (frameFrom 1 (.resealDone 1 2 7 0)).body = .resealDone 1 2 7 0 ∧ (frameFrom 1 (.charged 1)).body = .charged 1 ∧
        (frameFrom 1 (.resume 3)).body = .resume 3].all id = true := by decide +kernel

def claimFrame (n : Nat) : Frame := frameFrom 1 (.pushClaim n 9 false)

theorem witness_PushClaimTaken :
    [ok (station .guide |> hearing (claimFrame 3)) fun s => heard (claimFrame 3) s && decide (s.openClaim = none ∧ s.bankConfig = none ∧
        s.plan = none ∧ s.ovenIndex 3 = none),
      ok (station .guide .joining |> hearing (claimFrame 3)) fun s => heard (claimFrame 3) s && decide (s.life.state = .joining),
      ok (station .guide .listenOnly |> hearing (claimFrame 3)) fun s => heard (claimFrame 3) s && decide (s.life.state = .listenOnly),
      ok (station .bank |> hearing (claimFrame 3)) fun s => heard (claimFrame 3) s && decide (s.role ≠ .quench ∧ s.ovenIndex 3 = none ∧
        s.plan = none),
      ok (station .bank |> banked { coking with state := .held } collecting tight |> hearing (claimFrame 1)) fun s => heard (claimFrame 1) s &&
        decide (s.ovenIndex 1 = some 0 ∧ s.bank.ovens[0]? = some { coking with state := .held } ∧ s.bank.doors[0]? = some tight),
      ok (station .bank |> hearing (claimFrame 1)) fun s => heard (claimFrame 1) s && decide (s.ovenIndex 1 = some 0 ∧
        s.bank.ovens[0]? = some coking ∧ s.bank.loops[0]? = some collecting ∧ s.bank.doors[0]? = some tight ∧ s.bank.doors[1]? = some tight ∧
        s.plan = none),
      ok (inOwnWindow (.pushClaim 3 9 false)) fun s => ending (.pushClaim 3 9 false) s && decide (s.role = .pusher ∧ s.plan ≠ none ∧
        s.bankConfig = none ∧ s.openClaim = none ∧ s.life.state = .onLine)].all id = true := by decide +kernel

def stageFrame (n x : Nat) (revoke : Bool) : Frame := frameFrom 2 (.pushStage n 9 x revoke)
def toLast : StageSet := ⟨true, true, true, true, true, true, true, false, true, true⟩

def lateFrames : List QueueEntry := [entryOf (.pushStage 3 9 9 true), entryOf .census, entryOf (.pushAbandon 3 9 2)]
def seven : List QueueEntry := List.replicate 7 (entryOf .census)
def owed : Loop := { collecting with mode := .isolated, owed := true }

theorem witness_StageTaken :
    [ok (station .guide |> claiming (claim 3 .clear) |> hearing (stageFrame 4 8 false)) fun s => heard (stageFrame 4 8 false) s &&
        decide (s.claims.record = some (claim 3 .clear) ∧ (claim 3 .clear).oven ≠ 4),
      ok (station .guide |> claiming (claim 3 toRamOut) |> hearing (stageFrame 3 8 true)) fun s => heard (stageFrame 3 8 true) s &&
        decide ((toRamOut.put .guideSet false).complete = false ∧ Stage.guideSet.code = 8 ∧ s.role ≠ .quench ∧ s.ovenIndex 3 = none),
      ok (station .guide .listenOnly |> claiming (claim 3 toRamOut) |> hearing (stageFrame 3 3 false)) fun s =>
        heard (stageFrame 3 3 false) s && decide (s.life.state = .listenOnly ∧ Stage.ramOut.code = 3),
      ok (inOwnWindow (.pushStage 3 9 3 false) |> claiming (claim 3 toRamOut)) fun s => ending (.pushStage 3 9 3 false) s &&
        decide (s.role = .pusher ∧ (toRamOut.put .ramOut true).complete = false),
      ok (inOwnWindow (.pushStage 3 9 2 false) 0 .guide |> claiming (claim 3 .clear) |> living .joining) fun s =>
        ending (.pushStage 3 9 2 false) s && decide (s.role = .guide ∧ s.life.state = .joining ∧ Stage.csDoorOff.code = 2),
      ok (inOwnWindow (.pushStage 3 9 8 false) 0 .guide |> claiming (claim 3 .clear) |> machined (some 9) none |> behind seven) fun s =>
        ending (.pushStage 3 9 8 false) s && decide (s.machine.revokeOwed = some 9 ∧ (s.queue.eraseIdx 0).length < 8),
      ok (inOwnWindow (.pushStage 3 9 8 true) 0 .guide |> claiming (claim 3 toRamOut) |> machined none (some 9) |> behind seven) fun s =>
        ending (.pushStage 3 9 8 true) s && decide (s.machine.setWanted = some 9 ∧ s.life.state = .onLine ∧ (s.queue.eraseIdx 0).length = 7),
      ok (inOwnWindow (.pushStage 3 9 8 true) 0 .guide |> claiming (claim 3 toRamOut) |> machined none (some 9) |> living .joining) fun s =>
        ending (.pushStage 3 9 8 true) s && decide (s.machine.setWanted = some 9 ∧ s.life.state ≠ .onLine),
      ok (inOwnWindow (.pushStage 1 9 0 false) 0 .bank |> claiming (claim 1 .clear) |> banked { coking with state := .claimed } owed tight)
        fun s => ending (.pushStage 1 9 0 false) s && decide (s.ovenIndex 1 = some 0 ∧ s.bank.loops[0]? = some owed ∧ Stage.isolated.code = 0),
      ok (station .bank |> claiming (claim 1 toRamOut) |> banked { coking with state := .claimed } collecting tight |>
          hearing (stageFrame 1 3 false)) fun s => heard (stageFrame 1 3 false) s && decide (s.ovenIndex 1 = some 0 ∧
        (toRamOut.put .ramOut true).complete = false),
      ok (station .bank .joining |> claiming (claim 1 toRamOut) |> banked { coking with state := .held } collecting tight |>
          hearing (stageFrame 1 3 false)) fun s => heard (stageFrame 1 3 false) s && decide (s.life.state = .joining ∧
        s.bank.ovens[0]? = some { coking with state := .held })].all id = true ∧
    [ok (station .guide |> claiming (claim 3 toLast) |> queuing lateFrames |> hearing (stageFrame 3 7 false)) fun s =>
        heard (stageFrame 3 7 false) s && decide (toLast.complete = false ∧ (toLast.put .csDoorOn true).complete = true ∧
          s.ovenIndex 3 = none ∧ s.plan = none ∧ Stage.csDoorOn.code = 7),
      ok (inOwnWindow (.pushStage 3 9 7 false) 0 .guide |> claiming (claim 3 toLast) |> behind lateFrames) (ending (.pushStage 3 9 7 false)),
      ok (station .quench .listenOnly |> claiming (claim 3 toLast) |> hearing (stageFrame 3 7 false)) fun s =>
        heard (stageFrame 3 7 false) s && decide (s.role = .quench ∧ s.queue = [] ∧ s.ovenIndex 3 = none),
      ok (station .bank |> claiming (claim 1 toLast) |> banked { coking with state := .pushing } collecting tight |>
          hearing (stageFrame 1 7 false)) fun s => heard (stageFrame 1 7 false) s && decide (toLast.complete = false ∧
        (toLast.put .csDoorOn true).complete = true ∧ s.ovenIndex 1 = some 0 ∧ s.plan = none ∧ s.bank.loops[0]? = some collecting ∧
        s.bank.doors[2 * 0]? = some tight ∧ s.bank.doors[2 * 0 + 1]? = some tight),
      ok (station .bank |> claiming (claim 1 toLast) |> banked { coking with state := .faulted, faulted := true } collecting tight |>
          hearing (stageFrame 1 7 false)) fun s => heard (stageFrame 1 7 false) s &&
        decide (s.openClaim = some (claim 1 toLast))].all id = true := by
  refine ⟨?_, ?_⟩ <;> decide +kernel

theorem witness_AbandonTaken :
    [ok (station .guide |> claiming (claim 3 .clear) |> hearing (frameFrom 2 abandonFor)) fun s => heard (frameFrom 2 abandonFor) s &&
        decide (s.bankConfig = none ∧ s.plan = none),
      ok (station .bank |> claiming (claim 1 toRamOut) |> banked { coking with state := .claimed } collecting tight |>
          hearing (frameFrom 2 (.pushAbandon 1 9 2))) fun s => heard (frameFrom 2 (.pushAbandon 1 9 2)) s && decide (s.ovenIndex 1 = some 0 ∧
        s.plan = none ∧ coking.faulted = false ∧ coking.state ≠ .faulted ∧ s.bank.loops[0]? = some collecting ∧
        s.bank.doors[2 * 0]? = some tight ∧ s.bank.doors[2 * 0 + 1]? = some tight),
      ok (station .bank |> claiming (claim 1 .clear) |> banked { coking with state := .claimed } collecting tight |>
          hearing (frameFrom 2 (.pushAbandon 1 9 2))) fun s => heard (frameFrom 2 (.pushAbandon 1 9 2)) s &&
        decide (s.openClaim = some (claim 1 .clear)),
      ok (station .guide .listenOnly |> claiming (claim 3 .clear) |> queuing lateFrames |> hearing (frameFrom 2 abandonFor)) fun s =>
        heard (frameFrom 2 abandonFor) s && decide (s.life.state = .listenOnly ∧ s.ovenIndex 3 = none ∧ s.role ≠ .quench),
      ok (inOwnWindow (.pushAbandon 1 9 2) 0 .bank |> claiming (claim 1 toRamOut) |>
          banked { coking with state := .claimed } collecting { tight with sealing := .off } |> behind lateFrames) fun s =>
        ending (.pushAbandon 1 9 2) s && decide (s.role = .bank ∧ s.ovenIndex 1 = some 0 ∧ s.life.state = .onLine),
      ok (inOwnWindow (.pushAbandon 1 9 1) 0 .bank |> claiming (claim 1 .clear) |>
          banked { coking with state := .claimed } collecting tight |> living .joining) fun s =>
        ending (.pushAbandon 1 9 1) s && decide (s.life.state = .joining ∧ StageSet.clear.ramOut = false ∧ StageSet.clear.psDoorOff = false ∧
          StageSet.clear.csDoorOff = false)].all id = true := by
  decide +kernel

def noSensor : State :=
  { station .bank with config := some ⟨6, 300, ⟨false, false, false⟩, .bank part0 { part1 with mainSensor := false }⟩ }

/-- Four reseal records, the third the oldest, with the given end, of three open ones beside it. -/
def fourReseals (how : ResealEnd) : State :=
  { station .guide with
    time := 9
    claims := { Tracker.reset with
      reseals := [some { resealRecord .ps with taken := 5 }, some { resealRecord .ps with taken := 6 },
        some { resealRecord .ps with taken := 4, ending := how }, some { resealRecord .ps with taken := 7 }] } } |>
    hearing (frameFrom 2 (.resealClaim 3 1 1))

theorem witness_OtherFramesTaken :
    [ok (noSensor |> hearing (frameFrom 4 (.mainPressure (-900) 1))) (heard (frameFrom 4 (.mainPressure (-900) 1))),
      ok (station .bank |> banked { coking with state := .empty, credit := 0, stamp := 0 } collecting tight |>
          hearing (frameFrom 1 (.charged 1))) fun s => heard (frameFrom 1 (.charged 1)) s && decide (s.ovenIndex 1 = some 0),
      ok (station .bank |> hearing (frameFrom 1 (.charged 1))) fun s => heard (frameFrom 1 (.charged 1)) s &&
        decide (s.bank.ovens[0]? = some coking ∧ coking.state ≠ .empty),
      ok (station .guide |> hearing (frameFrom 4 (.resealCall 3 1))) fun s => heard (frameFrom 4 (.resealCall 3 1)) s &&
        decide (s.side?.map Side.code = some 1 ∧ (s.entry 4).covers 3 = true ∧ s.machine.queue = []),
      ok ({ station .guide with machine := { MachineUnit.reset with queue := [1, 2, 4, 5] } } |> hearing (frameFrom 4 (.resealCall 3 1)))
        fun s => heard (frameFrom 4 (.resealCall 3 1)) s && decide (4 ≤ s.machine.queue.length ∧ 3 ∉ s.machine.queue),
      ok (station .guide |> hearing (frameFrom 2 (.resealClaim 3 1 1))) fun s => heard (frameFrom 2 (.resealClaim 3 1 1)) s &&
        decide (s.claims.reseals.findIdx? Option.isNone = some 0 ∧ s.bankConfig = none),
      ok (station .guide |> resealing (resealRecord .cs) |> hearing (frameFrom 2 (.resealDone 1 1 7 1))) fun s => heard (frameFrom 2 (.resealDone 1 1 7 1)) s &&
        decide (s.openReseals.filter (fun y => decide (y.serial = 7)) = [resealRecord .cs]),
      ok (fourReseals .opened) fun s => heard (frameFrom 2 (.resealClaim 3 1 1)) s &&
        decide (s.bankConfig = none ∧ s.time = 9) &&
        (List.range 4).all fun i => ((s.claims.reseals[i]?).join).any fun x => decide (x.ending = .opened ∧
          (i = 2 ∨ (9 + 4294967296 - x.taken) % 4294967296 < (9 + 4294967296 - 4) % 4294967296)),
      ok (fourReseals .done) fun s => heard (frameFrom 2 (.resealClaim 3 1 1)) s &&
        decide (s.claims.reseals[2]? = some (some { resealRecord .ps with taken := 4, ending := .done })),
      ok (station .guide |> stoppedNow |> hearing (frameFrom 1 (.stopNote 1 5))) (heard (frameFrom 1 (.stopNote 1 5))),
      ok (station .guide |> stoppedNow |> hearing (frameFrom 1 (.resume 1))) (heard (frameFrom 1 (.resume 1)))].all id = true := by
  decide +kernel


/-- Bank 1's claim on oven 1 with the given stages, one of its doors as given, and the frame that it hears. -/
def bankHears (stages : StageSet) (x : Door) (b : Body) : State :=
  station .bank |> claiming (claim 1 stages) |> banked { coking with state := .claimed } collecting x |> hearing (frameFrom 1 b)

def offDoor : Door := { tight with sealing := .off }

theorem witness_BankDoorsFollowFrames :
    [ok (bankHears { StageSet.clear with isolated := true } tight (.pushStage 1 9 1 false)) fun s =>
        heard (frameFrom 1 (.pushStage 1 9 1 false)) s && decide (s.role = .bank ∧ s.plan = none ∧ s.bankConfig ≠ none ∧ s.ovenIndex 1 = some 0 ∧
          s.bank.doors[doorIndex 0 .ps]? = some tight ∧ Stage.psDoorOff.code = 1 ∧ s.life.state = .onLine ∧
          ({ StageSet.clear with isolated := true }.put .psDoorOff true).complete = false),
      ok (bankHears { StageSet.clear with isolated := true } tight (.pushStage 1 9 1 false) |> living .listenOnly) fun s =>
        heard (frameFrom 1 (.pushStage 1 9 1 false)) s && decide (s.life.state = .listenOnly),
      ok (bankHears toRamOut offDoor (.pushStage 1 9 6 false)) fun s => heard (frameFrom 1 (.pushStage 1 9 6 false)) s &&
        decide (s.bank.doors[0]? = some offDoor ∧ offDoor.latch = .latched ∧ Stage.psDoorOn.code = 6),
      ok (bankHears toRamOut { offDoor with latch := .unlatched } (.pushStage 1 9 6 false)) fun s =>
        heard (frameFrom 1 (.pushStage 1 9 6 false)) s && decide (s.bank.doors[0]? = some { offDoor with latch := .unlatched }),
      ok (bankHears toRamOut tight (.pushStage 1 9 6 false)) fun s => heard (frameFrom 1 (.pushStage 1 9 6 false)) s &&
        decide (s.bank.doors[0]? = some tight ∧ tight.sealing ≠ .off),
      ok (station .bank |> hearing (frameFrom 1 (.resealClaim 1 0 8))) fun s => heard (frameFrom 1 (.resealClaim 1 0 8)) s &&
        decide (s.receives = true ∧ s.claims.reseals.findIdx? Option.isNone = some 0 ∧ s.life.state ≠ .joining ∧ 1 ≠ s.straps.id),
      ok (station .bank |> resealing (resealRecord .ps) |> banked coking collecting resealingDoor |>
          hearing (frameFrom 1 (.resealDone 1 0 7 0))) fun s => heard (frameFrom 1 (.resealDone 1 0 7 0)) s &&
        decide (s.claims.highestReseal ≠ 0 ∧ s.claims.reseals[0]? = some (some (resealRecord .ps)) ∧ resealingDoor.sealing = .resealing),
      ok (inOwnWindow (.resealDone 1 0 7 1) 0 .bank |> resealing (resealRecord .ps) |>
          banked coking collecting { resealingDoor with latch := .unlatched }) fun s => inOwn (.resealDone 1 0 7 1) s &&
        decide (s.line.vto = false ∧ (ownWindow (.resealDone 1 0 7 1)).frame.map Frame.sender = some s.straps.id ∧
          s.bank.doors[0]? = some { resealingDoor with latch := .unlatched }),
      ok (station .bank .listenOnly |> resealing (resealRecord .ps) |> banked coking collecting resealingDoor |>
          hearing (frameFrom 1 (.pushClaim 1 9 false))) fun s => heard (frameFrom 1 (.pushClaim 1 9 false)) s &&
        decide (s.life.state = .listenOnly ∧ s.openClaim = none ∧ s.bank.doors[0]? = some resealingDoor ∧
          s.bank.doors[doorIndex 0 .cs]? = some tight)].all id = true := by decide +kernel

/-- A quench car with its claim on oven 3, and the frame that it hears. -/
def quenchHears (c : Car) (stages : Option StageSet) (b : Body) : State :=
  let s := station .quench |> caring c |> hearing (frameFrom 1 b)
  match stages with
  | some x => s |> claiming (claim 3 x)
  | none => s

def spotted : Car := { Car.reset with state := .spotted, marker := 3 }

theorem witness_QuenchFollowsFrames :
    [ok (quenchHears spotted none pusherPays) fun s => heard (frameFrom 1 pusherPays) s &&
        decide (s.role = .quench ∧ s.bankConfig = none ∧ s.plan = none ∧ s.life.state = .onLine),
      ok (quenchHears spotted none (.pushClaim 3 9 false)) fun s => heard (frameFrom 1 (.pushClaim 3 9 false)) s &&
        decide (s.openClaim = none ∧ s.car.state = .spotted ∧ s.car.marker = 3 ∧ s.car.load = .none ∧ s.queue = []),
      ok (quenchHears spotted none (.pushClaim 3 9 false) |> queuing (List.replicate 8 (entryOf .census))) fun s =>
        heard (frameFrom 1 (.pushClaim 3 9 false)) s && decide (8 ≤ s.queue.length),
      ok (quenchHears Car.reset none (.pushClaim 3 9 false)) fun s => heard (frameFrom 1 (.pushClaim 3 9 false)) s &&
        decide (s.car.state ≠ .loading ∧ s.car.state ≠ .spotted),
      ok (quenchHears spotted (some toRamOut) (.pushStage 3 9 3 false)) fun s => heard (frameFrom 1 (.pushStage 3 9 3 false)) s &&
        decide (s.claims.record = some (claim 3 toRamOut) ∧ toRamOut.carLoaded = false ∧ toRamOut.carReady = true ∧
          (toRamOut.put .ramOut true).complete = false ∧ s.queue = []),
      ok (quenchHears Car.reset (some toRamOut) (.pushStage 3 9 3 false)) fun s => heard (frameFrom 1 (.pushStage 3 9 3 false)) s &&
        decide (s.car.state ≠ .spotted ∧ s.queue.length ≤ 6),
      ok (quenchHears { spotted with state := .loading } (some { toRamOut with ramOut := true }) (.pushStage 3 9 4 false)) fun s =>
        heard (frameFrom 1 (.pushStage 3 9 4 false)) s &&
        decide (s.car.state = .loading ∧ ({ toRamOut with ramOut := true }.put .carLoaded true).complete = false),
      ok (quenchHears { spotted with state := .loading } (some { toRamOut with ramOut := true }) abandonFor) fun s =>
        heard (frameFrom 1 abandonFor) s && decide (s.life.state = .onLine),
      ok (quenchHears spotted (some { toRamOut with carReady := false }) (.pushStage 3 9 8 true) |> living .listenOnly) fun s =>
        heard (frameFrom 1 (.pushStage 3 9 8 true)) s && decide (s.life.state = .listenOnly),
      ok (inOwnWindow (.pushStage 3 9 9 false) 0 .quench |> claiming (claim 3 { toRamOut with carReady := false }) |> caring spotted) fun s =>
        ending (.pushStage 3 9 9 false) s && decide (s.role = .quench ∧ Stage.carReady.code = 9),
      ok (inOwnWindow (.pushStage 3 9 9 true) 0 .quench |> claiming (claim 3 toRamOut) |> caring spotted |> living .joining) fun s =>
        ending (.pushStage 3 9 9 true) s && decide (s.life.state = .joining),
      ok (inOwnWindow (.pushStage 3 9 4 false) 0 .quench |> claiming (claim 3 { toRamOut with ramOut := true }) |>
          caring { spotted with state := .loading }) fun s => ending (.pushStage 3 9 4 false) s && decide (s.car.state = .loading ∧
        ({ toRamOut with ramOut := true }.put .carLoaded true).complete = false ∧ Stage.carLoaded.code = 4),
      ok (inOwnWindow (.pushStage 3 9 4 false) 0 .quench |> claiming (claim 3 { allStages with carLoaded := false }) |>
          caring { spotted with state := .loading } |> behind lateFrames) fun s => ending (.pushStage 3 9 4 false) s &&
        decide (({ allStages with carLoaded := false } : StageSet).complete = false ∧
          ({ allStages with carLoaded := false }.put .carLoaded true).complete = true),
      ok (inOwnWindow (.pushAbandon 3 9 3) 0 .quench |> claiming (claim 3 { toRamOut with ramOut := true }) |>
          caring { spotted with state := .loading } |> behind lateFrames) fun s => ending (.pushAbandon 3 9 3) s &&
        decide (s.car.state = .loading)].all id = true := by decide +kernel

/-- The pusher's announce with the trailer of a claim on oven 1. -/
def trailing (n : Nat) (stages : StageSet) : Body := .announce (.pusher 3 0 0 0) ⟨n, 9, stages⟩
def isolatedOnly : StageSet := { StageSet.clear with isolated := true }

theorem witness_ClaimsDroppedAndAdopted :
    [ok (station .guide |> claiming (claim 3 .clear) |> queuing [entryOf (.pushStage 3 9 8 false), entryOf abandonFor] |>
          hearing (frameFrom 1 (.pushClaim 4 10 false))) fun s => heard (frameFrom 1 (.pushClaim 4 10 false)) s &&
        decide (s.claims.record = some (claim 3 .clear) ∧ s.life.state ≠ .joining ∧ s.plan = none ∧ s.role ≠ .quench ∧ s.bankConfig = none),
      ok (station .bank |> claiming (claim 1 isolatedOnly) |> banked { coking with state := .claimed } collecting tight |>
          hearing (frameFrom 1 (.pushClaim 4 10 false))) fun s => heard (frameFrom 1 (.pushClaim 4 10 false)) s &&
        decide (s.bankConfig ≠ none ∧ s.ovenIndex 1 = some 0 ∧ s.ovenIndex 4 = none),
      ok (station .bank .joining |> hearing (frameFrom 1 (trailing 1 .clear))) fun s => heard (frameFrom 1 (trailing 1 .clear)) s &&
        decide (s.life.state = .joining ∧ s.bankConfig ≠ none ∧ s.openClaim = none ∧ s.life.adopted = false ∧ s.ovenIndex 1 = some 0 ∧
          s.bank.ovens[0]? = some coking ∧ s.bank.loops[0]? = some collecting ∧ s.bank.doors[0]? = some tight ∧ s.bank.doors[1]? = some tight),
      ok (station .bank .joining |> banked { coking with state := .held } collecting tight |> hearing (frameFrom 1 (trailing 1 toRamOut)))
        fun s => heard (frameFrom 1 (trailing 1 toRamOut)) s && decide (toRamOut.isolated = true),
      ok (station .bank .joining |> banked { coking with state := .unknown } collecting tight |> hearing (frameFrom 1 (trailing 1 toRamOut)))
        (heard (frameFrom 1 (trailing 1 toRamOut))),
      ok { hearing (frameFrom 1 (trailing 1 toRamOut)) (claiming (claim 1 toRamOut) (station .guide .joining)) with
          life := { Life.reset with state := .joining, adopted := true } } fun s => heard (frameFrom 1 (trailing 1 toRamOut)) s &&
        decide (s.life.adopted = true ∧ s.claims.record = some (claim 1 toRamOut) ∧ (claim 1 toRamOut).serial = 9),
      ok { hearing (frameFrom 1 (trailing 0 .clear)) (claiming (claim 1 toRamOut) (station .guide .joining)) with
          life := { Life.reset with state := .joining, adopted := true } } fun s => heard (frameFrom 1 (trailing 0 .clear)) s &&
        decide (0 ≠ (claim 1 toRamOut).oven),
      ok { hearing (frameFrom 1 (trailing 1 .clear)) (claiming (claim 1 toRamOut) (station .guide .joining)) with
          life := { Life.reset with state := .joining, adopted := true } } fun s => heard (frameFrom 1 (trailing 1 .clear)) s &&
        decide (StageSet.clear ≠ toRamOut),
      ok (station .guide .joining |> hearing { frameFrom 4 (.mainPressure (-900) 1) with stopped := true }) fun s =>
        heard { frameFrom 4 (.mainPressure (-900) 1) with stopped := true } s && decide (s.life.state = .joining ∧ s.stop.stopped = false ∧
          s.bankConfig = none),
      ok (station .guide |> hearing (frameFrom 4 (.mainPressure (-900) 1))) fun s => heard (frameFrom 4 (.mainPressure (-900) 1)) s &&
        decide (s.life.state ≠ .joining)].all id = true := by decide +kernel

theorem witness_PlanFollowsClaimEnds :
    [ok (station .pusher |> claiming (claim 3 toLast) |> hearing (stageFrame 3 7 false)) fun s => heard (stageFrame 3 7 false) s &&
        decide (s.life.state = .onLine ∧ s.role = .pusher ∧ s.bankConfig = none ∧ s.plan ≠ none ∧ s.claims.record = some (claim 3 toLast) ∧
          Stage.csDoorOn.code = 7 ∧ toLast.complete = false ∧ (toLast.put .csDoorOn true).complete = true),
      ok { hearing (stageFrame 1 7 false) (claiming (claim 1 toLast) (station .pusher)) with
          plan := some { Plan.fresh 6 ⟨2, 1, 50⟩ with note := some (1, 0), deferred := [2], timer := some 0 } } fun s =>
        heard (stageFrame 1 7 false) s && s.plan.any fun p => p.cursor = 1,
      ok (station .pusher |> claiming (claim 3 toLast) |> hearing (frameFrom 2 abandonFor)) fun s => heard (frameFrom 2 abandonFor) s &&
        decide (toLast.ramOut = true),
      ok (station .pusher |> claiming (claim 3 toRamOut) |> hearing (frameFrom 2 abandonFor)) fun s => heard (frameFrom 2 abandonFor) s &&
        decide (toRamOut.ramOut = false),
      ok (inOwnWindow (.pushStage 3 9 6 false) |> claiming (claim 3 { allStages with psDoorOn := false }) |> behind lateFrames) fun s =>
        ending (.pushStage 3 9 6 false) s && decide (({ allStages with psDoorOn := false } : StageSet).complete = false ∧
          ({ allStages with psDoorOn := false }.put .psDoorOn true).complete = true ∧ Stage.psDoorOn.code = 6 ∧ s.plan ≠ none),
      ok (station .pusher .listenOnly |> claiming (claim 3 toLast) |> hearing (stageFrame 3 7 false)) fun s =>
        heard (stageFrame 3 7 false) s && decide (s.life.state ≠ .onLine ∧ s.plan ≠ none),
      ok (inOwnWindow (.pushAbandon 3 9 2) |> claiming (claim 3 toLast)) (ending (.pushAbandon 3 9 2))].all id = true := by decide +kernel

/-! ## Witnesses: the units of a BANK -/

theorem witness_OvenTickCountsAndCredits :
    [ok { station .bank with bank := { (station .bank).bank with tick := some 60000 } } fun s => s.bank.tick = some 60000 ∧
        s.bank.ovens[0]? = some coking,
      ok (station .bank |> banked { coking with state := .empty, temp := none, stamp := 0, credit := 0 } collecting tight) fun s =>
        s.bank.tick = some 0].all id = true := by decide +kernel

def charging : Loop := { collecting with mode := .charge, charge := some 120000 }

/-- A loop whose next step is its tenth at 0. -/
def lastZero : Loop := { collecting with mode := .isolating, u := some 40, driven := some 40, a := 0, zero := 9 }

/-- The table of R59 for the small bank. -/
def reliefs : Seal → Int
  | .weeping => 60
  | .leaking | .unlatchedUnexpected => 100
  | .resealing => 80
  | .seating | .tight | .off => 0

theorem witness_RegulatorStepMovesValve :
    (reliefs .weeping = part1.rw ∧ reliefs .leaking = part1.rl ∧ reliefs .unlatchedUnexpected = part1.rl ∧ reliefs .resealing = part1.rr ∧
      reliefs .seating = 0 ∧ reliefs .tight = 0 ∧ reliefs .off = 0) ∧
    [Seal.seating, .tight, .weeping, .leaking, .off, .resealing, .unlatchedUnexpected].all (fun x =>
      ok (station .bank |> banked coking collecting { tight with sealing := x }) fun s =>
        s.bank.doors[2 * 0]? = some { tight with sealing := x } ∧ s.bank.doors[2 * 0 + 1]? = some tight) = true ∧
    [ok (station .bank |> banked coking collecting tight) fun s => s.bank.loops[0]? = some collecting,
      ok (station .bank |> banked coking charging tight) fun s => s.bank.loops[0]? = some charging,
      ok (station .bank |> banked coking { collecting with mode := .isolating } tight) fun s => s.bank.loops.any fun l => l.mode = .isolating,
      ok (station .bank |> banked coking { collecting with mode := .isolated } tight) fun s => s.bank.loops.any fun l => l.mode = .isolated,
      ok (station .bank |> banked coking { collecting with mode := .manual, target := some 1000 } tight) fun s =>
        s.bank.loops.any fun l => l.mode = .manual && l.target = some 1000,
      ok (station .bank |> banked coking { collecting with mode := .released, u := none, driven := none, a := 0 } tight) fun s =>
        s.bank.loops.any fun l => l.mode = .released,
      ok (station .bank |> banked coking { collecting with ring := List.replicate 4 ⟨0, .missing⟩, lost := true, lostTimer := some 0 } tight)
        fun s => s.bank.loops.any fun l => l.ring.all fun z => z.quality = .missing,
      ok (station .bank |> claiming (claim 1 .clear) |> banked { coking with state := .claimed } lastZero tight) fun s =>
        s.config = some ⟨6, 300, ⟨false, false, false⟩, .bank part0 part1⟩ ∧ s.bank.loops[0]? = some lastZero ∧ s.life.state = .onLine ∧
          s.claims.record = some (claim 1 .clear) ∧ (claim 1 .clear).oven = part0.first + 0 ∧ s.queue.length < 8,
      ok (station .bank |> claiming (claim 1 .clear) |> banked { coking with state := .claimed } lastZero tight |>
          queuing (List.replicate 8 (entryOf .census))) fun s => 8 ≤ s.queue.length,
      ok (station .bank .joining |> banked { coking with state := .claimed } lastZero tight) fun s => s.life.state ≠ .onLine].all id = true := by
  refine ⟨by decide, ?_, ?_⟩ <;> decide +kernel

theorem witness_BankTimersAndMainPressure :
    [ok (station .bank |> banked { coking with state := .held, held := some 30000 } collecting tight) fun s =>
        (s.bank.ovens.any fun o => o.held = some 30000) ∧ part1.mainSensor = true,
      ok (station .bank |> banked coking charging tight) fun s => s.bank.loops.any fun l => l.charge = some 120000,
      ok (station .bank |> banked coking { collecting with lost := true, lostTimer := some 30000 } tight) fun s =>
        s.bank.loops.any fun l => l.lostTimer = some 30000 && !l.attention,
      ok { station .bank with bank := { (station .bank).bank with main := some ⟨-900, .good⟩, mainAge := 4000, mainTimer := some 0 } } fun s =>
        s.bank.mainTimer = some 0 ∧ (s.elapse 1000).bank.mainAge = 5000 ∧ s.life.state = .onLine ∧ s.queue = [],
      ok (station .bank) fun s => s.bank.mainTimer = some 0 ∧ s.bank.main = none].all id = true := by decide +kernel

theorem witness_LatchEventFollowed :
    [ok (station .bank) fun s => s.bank.doors[0]? = some tight ∧ tight.latch ≠ .unlatched ∧ s.covered 0 = false,
      ok (station .bank |> claiming (claim 1 { StageSet.clear with isolated := true, psDoorOff := true })) fun s => s.covered 0 = true,
      ok (station .bank |> banked { coking with state := .held, held := some 0 } collecting
          { tight with latch := .unlatched, sealing := .unlatchedUnexpected, unlatched := true }) fun s =>
        s.bank.doors.any fun x => x.latch ≠ .latched && x.sealing = .unlatchedUnexpected,
      ok (station .bank |> claiming (claim 1 { toRamOut with psDoorOn := true }) |>
          banked { coking with state := .pushing } collecting { offDoor with latch := .unlatched, mismatch := some ⟨.onExpected, 5⟩ }) fun s =>
        s.bank.doors[0]? = some { offDoor with latch := .unlatched, mismatch := some ⟨.onExpected, 5⟩ } ∧ doorSide 0 = .ps ∧
          s.claims.record.any fun c => c.oven = s.ovenAt 0 && c.stages.psDoorOn,
      ok (station .bank |> claiming (claim 1 toRamOut) |> banked coking collecting { offDoor with latch := .unlatched }) fun s =>
        s.bank.doors[0]? = some { offDoor with latch := .unlatched } ∧
          s.claims.record.any fun c => c.oven = s.ovenAt 0 && !c.stages.psDoorOn].all id = true := by decide +kernel

theorem witness_DoorLevelsAndTimers :
    [ok (station .bank) fun s => s.bank.doors[0]? = some tight ∧ part1.weeping ≤ (min 255 255 :: tight.ring.take 7).sum / 8,
      ok (station .bank |> banked coking collecting { tight with sealing := .weeping }) fun s =>
        s.bank.doors.any fun x => x.sealing = .weeping,
      ok (station .bank |> banked coking collecting { tight with sealing := .seating, seat := some 30000 }) fun s =>
        s.bank.doors.any fun x => x.seat = some 30000,
      ok (station .bank |> banked coking collecting { tight with sealing := .leaking, leaking := some 60000 }) fun s =>
        (s.bank.doors.any fun x => x.leaking = some 60000) ∧ s.life.state = .onLine ∧ s.queue = [],
      ok (station .bank |> banked coking collecting { tight with sealing := .leaking, called := true, call := some 600000 }) fun s =>
        (s.bank.doors.any fun x => x.call = some 600000) ∧ s.life.state = .onLine ∧ s.queue = [],
      ok (station .bank |> banked coking collecting { tight with mismatch := some ⟨.offExpected, 10000⟩ }) fun s =>
        s.bank.doors.any fun x => x.mismatch = some ⟨.offExpected, 10000⟩ && !x.mismatched].all id = true := by decide +kernel

theorem witness_OvenCommands :
    [ok (station .bank |> told 0x13#8 [1#8, 0x00#8, 0x80#8]) fun s => s.role = .bank ∧ s.bank.ovens[0]? = some coking ∧
        s.Begins 0x13#8 (field1 1 ++ field2 (-32768)),
      ok (station .bank |> banked { coking with state := .unknown } collecting tight |>
          told 0x14#8 (field1 1 ++ field1 1 ++ field3 16777215 ++ field2 1000 ++ field2 65535)) fun s =>
        s.Begins 0x14#8 (field1 1 ++ field1 1 ++ field3 16777215 ++ field2 1000 ++ field2 65535) ∧ s.claimOn 1 = none,
      ok (station .bank |> told 0x14#8 (field1 1 ++ field1 0 ++ field3 0 ++ field2 0 ++ field2 0)) fun s =>
        s.Begins 0x14#8 (field1 1 ++ field1 0 ++ field3 0 ++ field2 0 ++ field2 0) ∧ coking.state ≠ .unknown,
      ok (station .bank |> claiming (claim 1 .clear) |> banked { coking with state := .unknown } collecting tight |>
          told 0x14#8 (field1 1 ++ field1 0 ++ field3 0 ++ field2 0 ++ field2 0)) fun s => s.claimOn 1 ≠ none,
      ok (station .bank |> told 0x14#8 (field1 1 ++ field1 3 ++ field3 0 ++ field2 1001 ++ field2 0)) fun s =>
        s.Begins 0x14#8 (field1 1 ++ field1 3 ++ field3 0 ++ field2 1001 ++ field2 0),
      ok (station .bank |> told 0x14#8 (field1 1 ++ field1 2 ++ field3 0 ++ field2 1001 ++ field2 0)) fun s =>
        s.Begins 0x14#8 (field1 1 ++ field1 2 ++ field3 0 ++ field2 1001 ++ field2 0),
      ok (station .bank |> banked { coking with state := .unknown } collecting tight |> told 0x15#8 [1#8, 0#8]) fun s =>
        s.Begins 0x15#8 [1#8, 0#8] ∧ s.claimOn 1 = none ∧
        s.bank.loops[0]? = some collecting ∧ s.bank.doors[0]? = some tight ∧ s.bank.doors[1]? = some tight,
      ok (station .bank |> claiming (claim 1 .clear) |> banked { coking with state := .unknown } collecting tight |> told 0x15#8 [1#8, 0#8])
        fun s => s.Begins 0x15#8 [1#8, 0#8] ∧ s.claimOn 1 ≠ none,
      ok (station .bank |> banked { coking with state := .empty } collecting offDoor |> told 0x15#8 [1#8, 0#8]) fun s => s.Begins 0x15#8 [1#8, 0#8] ∧
        s.bank.doors[0]? = some offDoor ∧ s.bank.doors[1]? = some tight ∧ (offDoor.seatedIf true).sealing = .seating,
      ok (station .bank |> banked { coking with state := .outOfService } collecting tight |> told 0x15#8 [1#8, 1#8]) fun s =>
        s.Begins 0x15#8 [1#8, 1#8] ∧ s.bank.loops[0]? = some collecting,
      ok (station .bank |> told 0x15#8 [1#8, 0#8]) fun s => s.Begins 0x15#8 [1#8, 0#8] ∧ coking.state ∉ [.unknown, .empty, .faulted],
      ok (station .bank |> told 0x15#8 [1#8, 2#8]) fun s => s.Begins 0x15#8 (field1 1 ++ field1 2),
      ok (station .bank |> banked { coking with state := .faulted } collecting tight |> told 0x17#8 [1#8]) fun s => s.Begins 0x17#8 [1#8] ∧
        s.bank.loops[0]? = some collecting ∧ s.bank.doors[0]? = some tight ∧ s.bank.doors[1]? = some tight ∧ tight.latch = .latched,
      ok (station .bank |> banked { coking with state := .faulted } collecting { tight with latch := .unlatched } |> told 0x17#8 [1#8]) fun s =>
        s.Begins 0x17#8 [1#8],
      ok (station .bank |> told 0x17#8 [2#8]) fun s => s.Begins 0x17#8 [2#8] ∧ s.bank.ovens[1]? = some coking ∧ coking.state ≠ .faulted,
      ok (station .bank |> told 0x13#8 (field1 0 ++ [0#8, 0#8])) fun s => s.Begins 0x13#8 (field1 0 ++ [0#8, 0#8]) ∧ 0 < part0.first,
      ok (station .bank |> told 0x14#8 (field1 255 ++ List.replicate 8 0#8)) fun s => s.Begins 0x14#8 (field1 255 ++ List.replicate 8 0#8),
      ok (station .bank |> told 0x15#8 (field1 3 ++ [0#8])) fun s => s.Begins 0x15#8 (field1 3 ++ [0#8]),
      ok (station .bank |> told 0x17#8 [3#8]) fun s => s.Begins 0x17#8 (field1 3 ++ []) ∧ part0.first + part0.count ≤ 3].all id = true := by
  decide +kernel

theorem witness_ValveAndLatchCommands :
    [ok (station .bank |> told 0x16#8 (field1 1 ++ field1 0 ++ field2 32767)) fun s => s.Begins 0x16#8 (field1 1 ++ field1 0 ++ field2 32767) ∧
        s.bank.ovens[0]? = some coking ∧ coking.state = .coking,
      ok (station .bank |> banked { coking with state := .held } collecting tight |> told 0x16#8 (field1 1 ++ field1 0 ++ field2 0)) fun s =>
        s.Begins 0x16#8 (field1 1 ++ field1 0 ++ field2 0),
      ok (station .bank |> banked coking { collecting with mode := .manual, target := some 5 } tight |>
          told 0x16#8 (field1 1 ++ field1 1 ++ field2 0)) fun s => s.Begins 0x16#8 (field1 1 ++ field1 1 ++ field2 0),
      ok (station .bank |> told 0x16#8 (field1 1 ++ field1 1 ++ field2 0)) fun s => s.Begins 0x16#8 (field1 1 ++ field1 1 ++ field2 0) ∧
        s.bank.loops[0]? = some collecting ∧ collecting.mode ≠ .manual,
      ok (station .bank |> told 0x18#8 [1#8]) fun s => s.Begins 0x18#8 [1#8] ∧ s.bank.doors[0]? = some tight ∧ s.bank.doors[1]? = some tight ∧
        tight.latch = tight.snapLatch ∧ tight.sealing = tight.snapSeal,
      ok (station .bank |> banked coking collecting { tight with snapSeal := .weeping } |> told 0x18#8 [1#8]) fun s => s.Begins 0x18#8 [1#8] ∧
        s.bank.doors[0]? = some { tight with snapSeal := .weeping } ∧ s.bank.doors[1]? = some tight,
      ok (station .bank |> banked coking collecting { tight with snapSeal := .weeping } |> told 0x18#8 [0#8]) fun s =>
        s.Begins 0x18#8 (field1 0) ∧ s.bank.doors.length = 2 * s.bank.ovens.length,
      ok (station .bank |> told 0x18#8 [3#8]) fun s => s.Begins 0x18#8 (field1 3) ∧ part0.first + part0.count ≤ 3].all id = true := by decide +kernel

/-! ## Witnesses: plan, machines, car and port -/

theorem witness_CycleOrderVisitsEachOvenOnce :
    [Plan.fresh 2 ⟨2, 1, 0⟩, Plan.fresh 96 ⟨12, 11, 140⟩].all (fun p => decide (2 ≤ p.stride ∧ p.stride ≤ 12 ∧ p.stride ≤ p.ovens ∧ 1 ≤ p.step ∧
      p.step ≤ p.stride - 1 ∧ Nat.gcd p.step p.stride = 1)) = true := by decide +kernel

/-- A plan of six ovens with stride 2, its cursor given. -/
def plan (pass pos : Nat) (deferred : List Nat := []) : Plan := { Plan.fresh 6 ⟨2, 1, 50⟩ with pass := pass, pos := pos, deferred := deferred }

/-- Oven 6 is READY, oven 5 NOT_READY for an hour, and the others out of service. -/
def outOfService (o : Nat) : Option (SummaryState × Nat) :=
  if o = 6 then some (.ready, 0) else if o = 5 then some (.notReady, 6) else some (.outOfService, 15)

theorem witness_CursorAndChoice :
    (plan 0 1).ovenAt 0 2 ≤ 6 ∧ 6 < (plan 0 2).ovenAt 0 3 ∧ 0 + 1 < (plan 0 2).stride ∧ 6 < (plan 1 2).ovenAt 1 3 ∧
      (plan 1 2).stride ≤ 1 + 1 ∧ (plan 0 0).mark (plan 0 0).cursor = .unpushed ∧
      ok (station .pusher) (fun s => s.plan.any fun p => p.timer = some 0 && (p.deferred.all fun d => (s.claimOn d).isSome) && decide (s.life.state = .onLine) &&
        claimable (s.summary p.cursor)) = true ∧
      (∀ d ∈ [2], (fun o => decide (o = 4)) d = true ∨ claimable (outOfService d) = false) ∧
      (plan 0 1 [2, 6]).deferred = [2] ++ 6 :: [] ∧ claimable (outOfService 6) = true ∧ (plan 0 1 [2]).deferred = [2] ∧
      (plan 0 1).mark (plan 0 1).cursor = .unpushed ∧ outOfService (plan 0 1).cursor = some (.outOfService, 15) ∧
      outOfService (plan 1 0).cursor = some (.outOfService, 15) ∧ outOfService (plan 0 2).cursor = some (.notReady, 6) ∧
      (plan 0 2).skip < 6 * 10 ∧ (((plan 0 2).deferred.filter fun d => decide (d ≠ 5)).length < 8) ∧
      8 ≤ ((plan 0 2 [11, 12, 13, 14, 15, 16, 17, 18]).deferred.filter fun d => decide (d ≠ 5)).length ∧
      ({ plan 0 1 with marks := List.replicate 6 .pushed } : Plan).mark (plan 0 1).cursor ≠ .unpushed ∧
      ok { station .pusher with plan := some (plan 0 1 [2, 4]) } (fun s => decide (s.claimOn 2 = none) && claimable (s.summary 2)) = true := by
  decide +kernel

theorem witness_PushRequestAndPlanChange :
    [ok (station .pusher |> told 0x07#8 [7#8, 0#8]) fun s => s.role = .pusher ∧ s.plan ≠ none ∧ s.Begins 0x07#8 [7#8, 0#8] ∧ s.ovenCount < 7,
      ok (station .pusher .joining |> told 0x07#8 [6#8, 0#8]) fun s => s.Begins 0x07#8 [6#8, 0#8] ∧ s.life.state ≠ .onLine ∧ 6 ≤ s.ovenCount,
      ok (station .pusher |> stoppedNow |> told 0x07#8 [6#8, 0#8]) fun s => s.stop.stopped = true ∧ s.Begins 0x07#8 [6#8, 0#8],
      ok (station .pusher |> claiming (claim 3 .clear) |> told 0x07#8 [6#8, 0#8]) fun s => s.Begins 0x07#8 [6#8, 0#8] ∧ s.claims.record ≠ none,
      ok (station .pusher |> told 0x07#8 [6#8, 0#8]) fun s => s.Begins 0x07#8 [6#8, 0#8] ∧ s.owner? 6 = none ∧ s.queue = [] ∧
        s.claims.record = none,
      ok (station .pusher |> told 0x07#8 [4#8, 1#8]) fun s => s.Begins 0x07#8 [4#8, 1#8] ∧ s.owner? 4 ≠ none ∧ s.queue.length < 8,
      ok (station .pusher |> told 0x07#8 [4#8, 1#8] |> queuing (List.replicate 8 (entryOf (.charged 3)))) fun s => s.Begins 0x07#8 [4#8, 1#8] ∧
        8 ≤ s.queue.length ∧ ∀ e ∈ s.queue, e.body.kind ≠ .pushClaim,
      ok (station .pusher |> told 0x07#8 [0#8, 0#8]) fun s => decide (s.Begins 0x07#8 [0#8, 0#8]) &&
        decide (((plan 0 0).choose s.summary fun n => (s.claimOn n).isSome).2 = .claim 1),
      ok (station .pusher |> told 0x07#8 [0#8, 0#8] |> queuing (List.replicate 8 (entryOf (.charged 3)))) fun s =>
        decide (s.Begins 0x07#8 [0#8, 0#8] ∧ 8 ≤ s.queue.length) &&
        decide (((plan 0 0).choose s.summary fun n => (s.claimOn n).isSome).2 = .claim 1),
      ok (station .pusher |> told 0x19#8 [7#8, 1#8]) fun s => s.Begins 0x19#8 [7#8, 1#8] ∧ 6 < 7,
      ok (station .pusher |> told 0x19#8 [6#8, 3#8]) fun s => s.Begins 0x19#8 [6#8, 3#8] ∧ Nat.gcd 3 6 ≠ 1,
      ok (station .pusher |> told 0x19#8 [6#8, 5#8]) fun s => s.Begins 0x19#8 [6#8, 5#8] ∧ Nat.gcd 5 6 = 1].all id = true := by decide +kernel

/-- Oven 1's summary shows NOT_READY with minutes code m. -/
def notReady (m : Nat) : State :=
  told 0x07#8 [0#8, 1#8] { station .pusher with
    table := [.reset, roleEntry .pusher, roleEntry .guide, roleEntry .quench,
      { bankEntry with range := some (1, 1), payload := some (.bank 1 [BitVec.ofNat 8 (32 + m)], ⟨0, 0, .clear⟩) }] ++
        List.replicate 27 .reset }

/-- R105, R107: with minutes code 5 (50 minutes, the threshold) the choice waits on oven 1; with every oven marked it makes its six
advances and comes to nothing. -/
theorem witness_PushRequestWaits :
    [ok (notReady 5) fun s => decide (s.Begins 0x07#8 [0#8, 1#8] ∧ s.summary 1 = some (.notReady, 5)) &&
        decide (((plan 0 0).choose s.summary fun n => (s.claimOn n).isSome).2 = .wait 1),
      ok (notReady 5 |> queuing (List.replicate 8 (entryOf (.charged 3)))) fun s => decide (s.Begins 0x07#8 [0#8, 1#8] ∧ 8 ≤ s.queue.length) &&
        decide (((plan 0 0).choose s.summary fun n => (s.claimOn n).isSome).2 = .wait 1),
      ok { notReady 5 with plan := some { plan 0 0 with marks := List.replicate 6 .pushed } } fun s => (s.plan.any fun p =>
        decide ((p.choose s.summary fun n => (s.claimOn n).isSome).2 = .nothing))].all id = true := by decide +kernel

theorem witness_PositionChainAndStages :
    [ok { station .guide with machine := { MachineUnit.reset with chain := true } } fun s => s.role = .guide ∧ s.machine.chain = true,
      ok (station .pusher) fun s => s.role = .pusher ∧ s.machine.chain = false,
      ok (station .quench |> caring { Car.reset with chain := true }) fun s => s.role = .quench ∧ s.car.chain = true,
      ok (station .quench) fun s => s.role = .quench ∧ s.car.chain = false,
      ok (station .guide |> told 0x0A#8 [7#8]) fun s => s.config ≠ none ∧ s.Begins 0x0A#8 [7#8] ∧ s.ovenCount < 7,
      ok (station .guide |> told 0x0A#8 [0#8]) fun s => s.Begins 0x0A#8 [0#8] ∧ s.machine.position = 0,
      ok (station .guide |> told 0x0A#8 [6#8]) fun s => s.Begins 0x0A#8 [6#8] ∧ 6 ≤ s.ovenCount ∧ s.claimOn s.machine.position = none,
      ok (station .guide |> told 0x0A#8 [0#8] |> at_ 3 |> claiming (claim 3 toRamOut)) fun s => s.Begins 0x0A#8 [0#8] ∧ s.machine.position = 3 ∧
        s.claims.record = some (claim 3 toRamOut) ∧ s.queue = [] ∧ s.life.state = .onLine,
      ok (station .guide |> told 0x0A#8 [0#8] |> at_ 3 |> claiming (claim 3 .clear) |> queuing [entryOf (.pushStage 3 9 8 false)]) fun s =>
        s.Begins 0x0A#8 [0#8] ∧ (∀ e ∈ s.queue, e.inFlight = false) ∧ StageSet.clear.guideSet = false,
      ok (station .guide |> told 0x0A#8 [0#8] |> at_ 3 |> claiming (claim 3 .clear) |> queuing [entryOf (.pushStage 3 9 8 false) true]) fun s =>
        s.Begins 0x0A#8 [0#8] ∧ (∃ e ∈ s.queue, e.inFlight = true ∧ e.body = .pushStage 3 9 8 false) ∧ StageSet.clear.ramHome = false,
      ok (claiming (claim 3 toRamOut) { station .guide with machine := ⟨0, false, [], some 9, some 1000, none, none⟩ }) fun s =>
        s.machine.revokeTimer = some 1000 ∧ s.machine.revokeOwed = some 9 ∧ s.queue = [],
      ok (claiming (claim 3 toRamOut) { station .guide .joining with machine := ⟨0, false, [], some 9, some 1000, none, none⟩ }) fun s =>
        s.machine.revokeTimer = some 1000 ∧ s.life.state ≠ .onLine,
      ok (station .guide |> told 0x09#8 [9#8]) fun s => s.Begins 0x09#8 [9#8],
      ok (station .guide |> told 0x09#8 [8#8]) fun s => s.Begins 0x09#8 [8#8] ∧ s.openClaim = none,
      ok (station .pusher |> told 0x09#8 [3#8] |> claiming (claim 3 toRamOut)) fun s => s.Begins 0x09#8 [3#8] ∧ s.machine.position ≠ 3,
      ok (station .pusher |> told 0x09#8 [3#8] |> claiming (claim 3 .clear) |> at_ 3) fun s => s.Begins 0x09#8 [3#8] ∧
        StageSet.clear.maySet .ramOut = false,
      ok (station .pusher |> told 0x09#8 [3#8] |> claiming (claim 3 toRamOut) |> at_ 3) fun s => s.Begins 0x09#8 [3#8] ∧
        toRamOut.maySet .ramOut = true ∧ Stage.ramOut.code = 3 ∧ s.queue.length < 8,
      ok (station .pusher |> told 0x09#8 [3#8] |> claiming (claim 3 toRamOut) |> at_ 3 |> queuing [entryOf (.pushStage 3 9 3 false)]) fun s =>
        s.Begins 0x09#8 [3#8],
      ok (station .pusher |> told 0x09#8 [3#8] |> claiming (claim 3 toRamOut) |> at_ 3 |> queuing (List.replicate 8 (entryOf .census))) fun s =>
        s.Begins 0x09#8 [3#8] ∧ 8 ≤ s.queue.length,
      ok (station .guide |> told 0x09#8 [10#8] |> claiming (claim 3 .clear)) fun s => s.Begins 0x09#8 [10#8],
      ok (station .guide |> told 0x09#8 [10#8] |> claiming (claim 3 toRamOut)) fun s => s.Begins 0x09#8 [10#8] ∧ toRamOut.guideSet = true ∧
        toRamOut.ramHome = false ∧ s.queue = []].all id = true := by decide +kernel

/-- A guide at oven 3 with the GUIDE_SET frames q in its queue, and the stages as far as the ram may go out. -/
def guiding (code : Byte) (body : List Byte) (q : List QueueEntry) (stages : StageSet := toRamOut) (life : StationState := .onLine) : State :=
  station .guide life |> told code body |> at_ 3 |> claiming (claim 3 stages) |> queuing q

def eight : List QueueEntry := List.replicate 8 (entryOf (.charged 2))
def setFrame : Body := .pushStage 3 9 8 false

/-- The guide owes the revoke of the claim of this serial. -/
def owing (c : Nat) (s : State) : State := { s with machine := { s.machine with revokeOwed := some c } }

def revokeFrame : Body := .pushStage 3 9 8 true

/-- The forms of O54 with a GUIDE_SET frame in the queue, with a full queue and off the line. -/
theorem witness_PositionChainAndStages_frames :
    [ok (guiding 0x0A#8 [0#8] [] { toRamOut with ramHome := true }) fun s => s.Begins 0x0A#8 [0#8] ∧ s.claimOn 3 ≠ none,
      ok (guiding 0x0A#8 [0#8] [entryOf revokeFrame]) fun s => s.Begins 0x0A#8 [0#8] ∧ toRamOut.guideSet = true,
      ok (guiding 0x0A#8 [0#8] [entryOf revokeFrame true] |> machined none (some 9)) fun s => s.Begins 0x0A#8 [0#8] ∧
        s.machine.setWanted = some 9,
      ok (guiding 0x0A#8 [0#8] [entryOf setFrame true]) fun s => s.Begins 0x0A#8 [0#8] ∧ ∃ e ∈ s.queue, e.inFlight = true,
      ok (guiding 0x0A#8 [0#8] [entryOf setFrame]) fun s => s.Begins 0x0A#8 [0#8] ∧ ∀ e ∈ s.queue, e.inFlight = false,
      ok (guiding 0x0A#8 [0#8] eight) fun s => s.Begins 0x0A#8 [0#8] ∧ 8 ≤ s.queue.length,
      ok (guiding 0x0A#8 [0#8] [] toRamOut .joining) fun s => s.Begins 0x0A#8 [0#8] ∧ s.life.state ≠ .onLine,
      ok { guiding 0x0A#8 [0#8] eight with machine := ⟨0, false, [], some 9, some 1000, none, none⟩ } fun s => s.machine.revokeTimer = some 1000 ∧
        s.machine.revokeOwed = some 9 ∧ 8 ≤ s.queue.length,
      ok { guiding 0x0A#8 [0#8] [] with machine := ⟨0, false, [], none, some 1000, none, none⟩ } fun s => s.machine.revokeTimer = some 1000 ∧
        ∀ c ∈ s.openClaim, s.machine.revokeOwed ≠ some c.serial].all id = true ∧
    [ok (guiding 0x09#8 [8#8] [entryOf revokeFrame] { toRamOut with guideSet := false }) fun s => s.Begins 0x09#8 [8#8] ∧
        ({ toRamOut with guideSet := false } : StageSet).maySet .guideSet = true ∧ ∃ e ∈ s.queue, e.body = revokeFrame ∧ e.inFlight = false,
      ok (guiding 0x09#8 [8#8] [entryOf revokeFrame true] { toRamOut with guideSet := false }) fun s => s.Begins 0x09#8 [8#8] ∧
        ∃ e ∈ s.queue, e.body = revokeFrame ∧ e.inFlight = true,
      ok (guiding 0x09#8 [8#8] [] { toRamOut with guideSet := false }) fun s => s.Begins 0x09#8 [8#8] ∧ s.queue = [] ∧
        s.machine.revokeOwed = none,
      ok (owing 9 (guiding 0x09#8 [8#8] [entryOf setFrame true] { toRamOut with guideSet := false })) fun s => s.Begins 0x09#8 [8#8] ∧
        s.machine.revokeOwed ≠ none ∧ ({ toRamOut with guideSet := false } : StageSet).maySet .guideSet = true,
      ok (guiding 0x09#8 [10#8] [entryOf setFrame]) fun s => s.Begins 0x09#8 [10#8] ∧ s.queue.any fun e => e.body.ofStage 9 8 false,
      ok (guiding 0x09#8 [10#8] [entryOf setFrame true]) fun s => s.Begins 0x09#8 [10#8] ∧ s.queue.any QueueEntry.inFlight,
      ok (guiding 0x09#8 [10#8] [entryOf revokeFrame]) fun s => s.Begins 0x09#8 [10#8] ∧ s.queue.any fun e => e.body.ofStage 9 8 true,
      ok (guiding 0x09#8 [10#8] eight) fun s => s.Begins 0x09#8 [10#8] ∧ 8 ≤ s.queue.length ∧
        ∀ e ∈ s.queue, e.body.ofStage 9 8 true = false ∧ e.body.ofStage 9 8 false = false].all id = true := by
  refine ⟨?_, ?_⟩ <;> decide +kernel

theorem witness_LevelAndResealCommands :
    [ok (station .pusher |> told 0x0B#8 [0#8]) fun s => s.Begins 0x0B#8 [0#8] ∧ s.config ≠ none,
      ok (station .pusher .joining |> told 0x0B#8 [6#8]) fun s => s.Begins 0x0B#8 [6#8] ∧ 6 ≤ s.ovenCount ∧ s.life.state ≠ .onLine,
      ok (station .pusher |> stoppedNow |> told 0x0B#8 [6#8]) fun s => s.Begins 0x0B#8 [6#8] ∧ s.stop.stopped = true,
      ok (station .pusher |> told 0x0B#8 [6#8]) fun s => s.Begins 0x0B#8 [6#8] ∧ s.machine.position ≠ 6,
      ok (station .pusher |> told 0x0B#8 [6#8] |> at_ 6) fun s => s.Begins 0x0B#8 [6#8] ∧ s.owner? 6 = none,
      ok (station .pusher |> told 0x0B#8 [1#8] |> at_ 1) fun s => s.Begins 0x0B#8 [1#8] ∧ (s.summary 1).map Prod.fst ≠ some .empty,
      ok { at_ 3 (told 0x0B#8 [3#8] (station .pusher)) with machine := { MachineUnit.reset with position := 3, charged := some (3, 0) } } fun s =>
        s.Begins 0x0B#8 [3#8] ∧ s.owner? 3 = some 4 ∧ (s.summary 3).map Prod.fst = some .empty ∧ later (s.announcedAt 4) 0 = false,
      ok (station .pusher |> told 0x0B#8 [3#8] |> at_ 3 |> queuing [entryOf (.charged 3)]) fun s => s.Begins 0x0B#8 [3#8] ∧
        s.machine.charged = none ∧ ∃ e ∈ s.queue, e.body = .charged 3,
      ok (station .pusher |> told 0x0B#8 [3#8] |> at_ 3) fun s => s.Begins 0x0B#8 [3#8] ∧ s.machine.charged = none ∧ s.queue = [],
      ok (station .pusher |> told 0x0B#8 [3#8] |> at_ 3 |> queuing (List.replicate 8 (entryOf (.charged 2)))) fun s => s.Begins 0x0B#8 [3#8] ∧
        8 ≤ s.queue.length ∧ (s.summary 3).map Prod.fst = some .empty ∧ s.machine.charged = none ∧ ∀ e ∈ s.queue, e.body ≠ .charged 3,
      ok (station .guide |> told 0x0C#8 [7#8]) fun s => s.role = Side.cs.role ∧ s.Begins 0x0C#8 [7#8] ∧ s.ovenCount < 7,
      ok (station .guide .joining |> told 0x0C#8 [1#8]) fun s => s.Begins 0x0C#8 [1#8] ∧ s.life.state ≠ .onLine,
      ok (station .guide |> told 0x0C#8 [1#8]) fun s => s.Begins 0x0C#8 [1#8] ∧ s.machine.position ≠ 1,
      ok (station .guide |> told 0x0C#8 [1#8] |> at_ 1 |> stoppedNow) fun s => s.Begins 0x0C#8 [1#8] ∧ s.stop.stopped = true,
      ok (station .guide |> told 0x0C#8 [1#8] |> at_ 1 |> claiming (claim 3 .clear)) fun s => s.Begins 0x0C#8 [1#8] ∧ s.openClaim ≠ none,
      ok (station .guide |> told 0x0C#8 [1#8] |> at_ 1 |> resealing (resealRecord .cs)) fun s => s.Begins 0x0C#8 [1#8] ∧
        some (resealRecord .cs) ∈ s.claims.reseals,
      ok (station .guide |> told 0x0C#8 [6#8] |> at_ 6) fun s => s.Begins 0x0C#8 [6#8] ∧ s.owner? 6 = none,
      ok (station .guide |> told 0x0C#8 [1#8] |> at_ 1) fun s => s.Begins 0x0C#8 [1#8] ∧ s.owner? 1 ≠ none ∧ s.queue = [] ∧ s.openClaim = none,
      ok (station .guide |> told 0x0C#8 [1#8] |> at_ 1 |> queuing (List.replicate 8 (entryOf .census))) fun s => s.Begins 0x0C#8 [1#8] ∧
        8 ≤ s.queue.length,
      ok (station .guide .joining |> told 0x0D#8 []) fun s => s.role = Side.cs.role ∧ s.Begins 0x0D#8 [] ∧ s.life.state ≠ .onLine,
      ok (station .guide |> told 0x0D#8 [] |> queuing [entryOf (.resealClaim 1 1 1)]) fun s => s.Begins 0x0D#8 [] ∧
        ∃ e ∈ s.queue, e.inFlight = false ∧ e.body.kind = .resealClaim,
      ok (station .guide |> told 0x0D#8 [] |> queuing [entryOf (.resealClaim 1 1 1) true]) fun s => s.Begins 0x0D#8 [] ∧
        (∀ e ∈ s.queue, e.body.kind = .resealClaim → e.inFlight = true) ∧ ∃ e ∈ s.queue, e.body.kind = .resealClaim,
      ok (station .guide |> told 0x0D#8 []) fun s => s.Begins 0x0D#8 [] ∧ s.queue = [] ∧ s.claims.reseals = List.replicate 4 none,
      ok (station .guide |> told 0x0D#8 [] |> resealing (resealRecord .cs) |> queuing [entryOf (.resealDone 1 1 7 0)]) fun s =>
        s.Begins 0x0D#8 [] ∧ s.openReseals.find? (fun y => decide (y.side = .cs)) = some (resealRecord .cs),
      ok (station .guide |> told 0x0D#8 [] |> resealing (resealRecord .cs)) fun s => s.Begins 0x0D#8 [] ∧ s.queue = [] ∧
        s.openReseals.find? (fun y => decide (y.side = .cs)) = some (resealRecord .cs),
      ok (station .guide |> told 0x0D#8 [] |> resealing (resealRecord .cs) |> queuing (List.replicate 8 (entryOf (.charged 2)))) fun s =>
        s.Begins 0x0D#8 [] ∧ 8 ≤ s.queue.length ∧ s.openReseals.find? (fun y => decide (y.side = .cs)) = some (resealRecord .cs)].all id =
      true := by decide +kernel

def ready : Car := { Car.reset with chain := true, marker := 200 }

theorem witness_CarMovesAndTimers :
    [ok (station .quench |> caring { ready with queue := [.spot 3, .park] }) fun s => s.car.move = none ∧ s.car.state = .idle ∧
        s.car.load = .none ∧ s.life.state = .onLine ∧ s.stop.stopped = false ∧ s.claims.record = none ∧ (Move.spot 3).target ≠ s.car.marker,
      ok (station .quench .joining |> caring { ready with queue := [.tower], load := .hot, state := .loaded }) fun s => s.car.move = none ∧
        s.car.load = .hot ∧ Move.tower.target = s.car.marker,
      ok (station .quench |> told 0x0E#8 [7#8]) fun s => s.Begins 0x0E#8 [7#8] ∧ s.ovenCount < 7,
      ok (station .quench |> told 0x0E#8 [202#8] |> caring { ready with state := .travelling, move := some .park, moveTimer := some 0 }) fun s =>
        s.Begins 0x0E#8 [202#8] ∧ Move.park.target = 202,
      ok (station .quench |> told 0x0E#8 [0#8] |> caring { ready with state := .travelling, move := some .park, moveTimer := some 0 }) fun s =>
        s.Begins 0x0E#8 [0#8] ∧ Move.park.target ≠ 0,
      ok (station .quench |> told 0x0E#8 [200#8] |> caring ready) fun s => s.Begins 0x0E#8 [200#8] ∧ s.car.marker = 200,
      ok (station .quench |> told 0x0E#8 [6#8] |> caring ready) fun s => s.Begins 0x0E#8 [6#8] ∧ s.car.state = .idle ∧ 6 ≠ s.car.marker,
      ok (station .quench |> told 0x0E#8 [6#8] |> caring { ready with state := .spotted, marker := 3, lastNext := 3 }) fun s =>
        s.Begins 0x0E#8 [6#8] ∧ s.claimOn 3 = none,
      ok (station .quench |> told 0x0E#8 [6#8] |> caring { ready with state := .spotted, marker := 3 } |> claiming (claim 3 .clear)) fun s =>
        s.Begins 0x0E#8 [6#8] ∧ s.claims.record = some (claim 3 .clear),
      ok (station .quench |> told 0x0E#8 [6#8] |> caring { ready with state := .loading, marker := 3 } |>
          claiming (claim 3 { toRamOut with ramOut := true })) fun s => s.Begins 0x0E#8 [6#8] ∧ s.queue.length ≤ 6,
      ok (station .quench |> told 0x0E#8 [6#8] |> caring { ready with state := .dumping, marker := 201 }) fun s => s.Begins 0x0E#8 [6#8] ∧
        s.car.fault = false,
      ok (station .quench |> caring { ready with state := .travelling, move := some .park, moveTimer := some 40000 }) fun s =>
        s.car.moveTimer = some 40000 ∧ s.stop.stopped = false ∧ s.car.fault = false,
      ok (station .quench |> caring { ready with state := .quenching, phase := some 60000 }) fun s => s.car.phase = some 60000,
      ok (station .quench |> caring { ready with state := .draining, phase := some 30000 }) fun s => s.car.phase = some 30000,
      ok (station .quench |> caring { ready with readyTimer := some 1000, state := .spotted, marker := 3 } |> claiming (claim 3 .clear)) fun s =>
        s.car.readyTimer = some 1000 ∧ s.wishesReady (claim 3 .clear) ∧ s.queue = [] ∧ s.life.state = .onLine,
      ok (station .quench .joining |> caring { ready with readyTimer := some 1000, state := .spotted, marker := 3 } |> claiming (claim 3 .clear))
        fun s => s.wishesReady (claim 3 .clear) ∧ s.life.state ≠ .onLine,
      ok (station .quench |> caring { ready with readyTimer := some 1000 } |> claiming (claim 3 .clear)) fun s =>
        ¬s.wishesReady (claim 3 .clear) ∧ s.queue = [],
      ok (station .quench |> caring { ready with readyTimer := some 1000 } |> claiming (claim 3 .clear) |>
          queuing [entryOf (.pushStage 3 9 9 false)]) fun s => s.car.readyTimer = some 1000 ∧
        ¬s.wishesReady (claim 3 .clear)].all id = true := by decide +kernel

/-- A car under a claim on oven 3 whose CAR_READY is as given, with the move or the command that brings it to the spot or away. -/
def spotting (c : Car) (isReady : Bool) (q : List QueueEntry) (life : StationState := .onLine) : State :=
  station .quench life |> caring c |> claiming (claim 3 { StageSet.clear with carReady := isReady }) |> queuing q

def arriving : Car := { ready with state := .travelling, move := some (.spot 3), moveTimer := some 0 }
def standing : Car := { ready with state := .spotted, marker := 3 }

/-- The forms of O56 in which the ready wish comes to differ from CAR_READY: on arrival and on leaving, with room in the queue, with a full queue
and off the line; and with the abandon of a displacement. -/
theorem witness_CarMovesAndTimers_wish :
    [ok (told 0x0E#8 [3#8] (spotting arriving false [])) fun s => s.Begins 0x0E#8 [3#8] ∧ s.car.move = some (.spot 3) ∧ s.queue = [] ∧
        s.car.readyWish (claim 3 .clear) = false ∧ s.life.state = .onLine,
      ok (told 0x0E#8 [3#8] (spotting arriving false eight)) fun s => s.Begins 0x0E#8 [3#8] ∧ 8 ≤ s.queue.length,
      ok (told 0x0E#8 [3#8] (spotting arriving false [] .joining)) fun s => s.Begins 0x0E#8 [3#8] ∧ s.life.state ≠ .onLine,
      ok (told 0x0E#8 [3#8] (spotting arriving false [entryOf (.pushStage 3 9 9 true)])) fun s => s.Begins 0x0E#8 [3#8] ∧
        ∃ e ∈ s.queue, e.inFlight = false ∧ e.body.ofStage 9 9 true = true,
      ok (told 0x0E#8 [0#8] (spotting standing true [])) fun s => s.Begins 0x0E#8 [0#8] ∧ s.car.readyWish (claim 3 .clear) = true ∧ s.queue = [],
      ok (told 0x0E#8 [0#8] (spotting standing true eight)) fun s => s.Begins 0x0E#8 [0#8] ∧ 8 ≤ s.queue.length,
      ok (told 0x0E#8 [0#8] (station .quench |> caring { standing with state := .loading })) fun s => s.Begins 0x0E#8 [0#8] ∧
        s.claimOn s.car.marker = none,
      ok (told 0x0E#8 [0#8] (station .quench |> caring { standing with state := .loading } |>
          claiming (claim 3 { toRamOut with ramOut := true }) |> queuing eight)) fun s => s.Begins 0x0E#8 [0#8] ∧ 8 ≤ s.queue.length,
      ok (told 0x0E#8 [0#8] (station .quench |> caring { ready with state := .quenching, phase := some 0, marker := 200, fault := true })) fun s =>
        s.Begins 0x0E#8 [0#8] ∧ s.car.fault = true].all id = true ∧
    [ok (spotting { ready with marker := 3, queue := [.spot 3] } false []) fun s => s.car.state = .idle ∧ s.car.move = none ∧
        s.car.load = .none ∧ (Move.spot 3).target = s.car.marker ∧ (claim 3 .clear).oven = 3,
      ok (spotting { ready with marker := 3, queue := [.spot 3] } false eight) fun s => 8 ≤ s.queue.length,
      ok (station .quench |> caring { standing with queue := [.park] } |> claiming (claim 3 { StageSet.clear with carLoaded := true })) fun s =>
        s.car.load = .none ∧ Move.park.target ≠ s.car.marker,
      ok (spotting { standing with readyTimer := some 1000 } false eight) fun s => s.car.readyTimer = some 1000 ∧ 8 ≤ s.queue.length ∧
        s.car.readyWish (claim 3 .clear) = true].all id = true := by
  refine ⟨?_, ?_⟩ <;> decide +kernel

def unstarted (s : State) : State := { s with config := none }

theorem witness_CarCommands :
    [ok (station .quench |> unstarted |> told 0x0F#8 []) fun s => s.config = none ∧ s.Begins 0x0F#8 [],
      ok (station .quench |> unstarted |> told 0x10#8 []) fun s => s.Begins 0x10#8 [],
      ok (station .quench |> unstarted |> told 0x11#8 []) fun s => s.Begins 0x11#8 [],
      ok (station .quench |> unstarted |> told 0x12#8 [0#8]) fun s => s.Begins 0x12#8 [0#8],
      ok (station .quench |> unstarted |> told 0x0E#8 [0#8]) fun s => s.Begins 0x0E#8 [0#8],
      ok (station .quench |> told 0x0F#8 []) fun s => s.Begins 0x0F#8 [] ∧ s.car.state ≠ .loading,
      ok (station .quench |> told 0x0F#8 [] |> caring { ready with state := .loading } |> claiming (claim 3 toRamOut)) fun s =>
        s.Begins 0x0F#8 [] ∧ toRamOut.ramOut = false,
      ok (station .quench |> told 0x0F#8 [] |> caring { ready with state := .loading } |> claiming (claim 3 { toRamOut with ramOut := true }))
        fun s => s.Begins 0x0F#8 [] ∧ s.queue = [],
      ok (station .quench |> told 0x0F#8 [] |> caring { ready with state := .loading } |> claiming (claim 3 { toRamOut with ramOut := true }) |>
          queuing [entryOf (.pushStage 3 9 4 false)]) fun s => s.Begins 0x0F#8 [],
      ok (station .quench |> told 0x0F#8 [] |> caring { ready with state := .loading } |> claiming (claim 3 { toRamOut with ramOut := true }) |>
          queuing (List.replicate 8 (entryOf .census))) fun s => s.Begins 0x0F#8 [] ∧ 8 ≤ s.queue.length,
      ok (station .quench |> told 0x10#8 []) fun s => s.Begins 0x10#8 [] ∧ s.car.state ≠ .dumping,
      ok (station .quench |> told 0x10#8 [] |> caring { ready with state := .dumping, load := .quenched, loads := 65535 }) fun s =>
        s.Begins 0x10#8 [] ∧ s.car.loads < 65536,
      ok (station .quench |> told 0x11#8 []) fun s => s.Begins 0x11#8 [] ∧ s.config ≠ none,
      ok (station .quench |> told 0x12#8 [3#8]) fun s => s.Begins 0x12#8 [3#8],
      ok (station .quench |> told 0x12#8 [2#8] |> caring { ready with state := .loaded, load := .hot }) fun s => s.Begins 0x12#8 [2#8] ∧
        s.car.state ≠ .fault ∧ s.car.state ≠ .idle,
      ok (station .quench |> told 0x12#8 [2#8] |> caring { ready with state := .fault, fault := true }) fun s => s.Begins 0x12#8 [2#8] ∧
        s.car.state = .fault].all id = true := by decide +kernel

def porting (p : Port) : State := { station .guide with port := p }

theorem witness_MessagesReceivedAndSent :
    [ok (station .guide) fun s => s.port.rx = .hunt ∧ s.port.commands.length < 4 ∧ s.port.tx = none,
      ok (porting { Port.reset with commands := List.replicate 4 ⟨1#8, []⟩ }) fun s => s.port.rx = .hunt ∧ 4 ≤ s.port.commands.length,
      ok (porting { Port.reset with rx := .body 1#8 32 [] }) fun s => s.port.rx = .body 1#8 32 [],
      ok (porting { Port.reset with rx := .kind }) fun s => s.port.rx = .kind,
      ok (porting { Port.reset with tx := some (.reply ⟨0x81#8, .accepted, 0, []⟩), reports := [.consentAsk 1 (frameFrom 1 .census)] }) fun s =>
        s.port.reports = [.consentAsk 1 (frameFrom 1 .census)],
      ok (porting { Port.reset with tx := some (.reply ⟨0x81#8, .accepted, 0, []⟩), replies := [⟨0x82#8, .accepted, 0, []⟩] }) fun s =>
        s.port.replies ≠ [] ∧ s.port.reports = [],
      ok (porting { Port.reset with tx := some (.reply ⟨0x81#8, .accepted, 0, []⟩), reports := [.resumed 1 2] }) fun s =>
        s.port.replies = [] ∧ s.port.reports = [.resumed 1 2],
      ok (porting { Port.reset with tx := some (.reply ⟨0x81#8, .accepted, 0, []⟩) }) fun s => s.port.replies = [] ∧
        s.port.reports = []].all id = true ∧ (32 : Nat) ≤ 32 ∧ 32 < (33#8 : Byte).toNat ∧
      1#8 + (1#8 :: byte 0 :: ([] : List Byte)).sum ≠ 0#8 := by decide +kernel

theorem witness_CommandGateAndReads :
    [ok (station .bank |> told 0x15#8 [1#8]) fun s => (⟨.setService, 0x15#8, [1, 1], [.bank]⟩ : CommandRow) ∈ commandRows ∧
        s.Begins 0x15#8 [1#8] ∧ ([1, 1].take (2 - 1)).sum ≤ [1#8].length ∧ [1#8].length < ([1, 1].take 2).sum,
      ok (station .bank |> told 0x15#8 [1#8, 1#8, 1#8]) fun s => s.Begins 0x15#8 [1#8, 1#8, 1#8] ∧ [1, 1].sum < 3,
      ok (station .guide |> told 0x15#8 [1#8, 1#8]) fun s => s.Begins 0x15#8 [1#8, 1#8] ∧ s.role ∉ [Role.bank],
      ok (station .bank |> told 0x15#8 [1#8, 1#8]) fun s => s.port.commands.head?.any fun x => x.kind ≠ 0x02#8,
      ok (station .guide |> told 0x3F#8 []) fun s => s.Begins 0x3F#8 [] ∧ 0x20 ≤ (0x3F#8 : Byte).toNat,
      ok (station .guide |> told 0x1A#8 [0#8]) fun s => s.Begins 0x1A#8 [0#8] ∧ 0 < max 1 ((s.statusContent.length + 27) / 28),
      ok (station .guide |> told 0x1A#8 [1#8]) fun s => s.Begins 0x1A#8 [1#8] ∧ max 1 ((s.statusContent.length + 27) / 28) ≤ 1,
      ok (station .guide |> told 0x1C#8 [0#8]) fun s => s.Begins 0x1C#8 [0#8], ok (station .guide |> told 0x1E#8 [0#8]) fun s => s.Begins 0x1E#8 [0#8],
      ok (station .quench |> told 0x1F#8 [0#8]) fun s => s.Begins 0x1F#8 [0#8] ∧ s.config ≠ none,
      ok (station .pusher |> told 0x1D#8 [0#8]) fun s => s.Begins 0x1D#8 [0#8] ∧ s.plan ≠ none,
      ok (station .bank |> told 0x1B#8 [2#8, 0#8]) fun s => s.Begins 0x1B#8 [2#8, 0#8] ∧ s.ovenIndex 2 = some 1].all id = true := by decide +kernel


theorem witness_ListingsHoldTheRecords :
    ok (station .bank) (fun s => s.bankConfig = some (part0, part1) ∧ s.bank.ovens[0]? = some coking ∧ s.bank.loops[0]? = some collecting ∧
      s.bank.doors[2 * 0]? = some tight ∧ s.bank.doors[2 * 0 + 1]? = some tight) = true := by decide +kernel
/-! ## Results of single rows, from the manual's worked cases and by hand -/

/-- The next state of an outcome; the state itself where there is none. -/
def after (i : Instr) (s : State) : State :=
  match exec i s with
  | .next t => t
  | _ => s

/-- 12.4, worked check: C0 00 00 runs 4E, ED, 8D. -/
theorem test_crc_worked_check : crc8 [0xC0#8] = 0x4E#8 ∧ crc8 [0xC0#8, 0#8] = 0xED#8 ∧ crc8 [0xC0#8, 0#8, 0#8] = 0x8D#8 := by decide

/-- 12.6, worked message: READ_STATUS for part 0 joins the buffer; with check E4 it is BAD_MESSAGE with the kind received. -/
theorem test_worked_message :
    (after (.messageReceived (asReceived [0xC5#8, 0x1A#8, 1#8, 0#8, 0xE5#8])) (station .guide)).port.commands = [⟨0x1A#8, [0#8]⟩] ∧
      (after (.messageReceived (asReceived [0xC5#8, 0x1A#8, 1#8, 0#8, 0xE4#8])) (station .guide)).port.tx =
        some (.reply ⟨0xBF#8, .badMessage, 0, [1#8, 0x1A#8]⟩) := by decide +kernel

/-- 1.6, worked sequence: station 5's ANNOUNCE (165) yields to 137 and stays PENDING; station 9's RESEAL_CALL (137) goes on. -/
theorem test_contention_worked :
    (after (.contend [137#8]) (station .guide |> queuing [entryOf pusherPays])).line.state = .receiving ∧
      (after (.contend [165#8]) { queuing [entryOf (.resealCall 9 0)] (station .bank) with straps := ⟨9, .bank, 1, 1⟩ }).line.sent.head? =
        some 137#8 := by decide +kernel

/-- 3.8, worked case: Mt 1080, Tn 1250, Ao 60; oven 11 at credit 68,000 with a wall of 1280 given 39 ticks ago. -/
def ovenEleven (credit temp age : Nat) : State :=
  { station .bank with
    config := some ⟨12, 300, ⟨false, false, false⟩, .bank { part0 with first := 11, count := 1, target := 1080, nominal := 1250, allowance := 60 } part1⟩
    bank := ⟨[⟨.coking, credit, .notReady, 20, some temp, age, false, 0, none, false, false⟩], [collecting], [tight, tight], none, 65535, none,
      some 60000⟩ }

theorem test_credit_tick_worked :
    ((after .ovenTick (ovenEleven 68000 1280 39)).bank.ovens.map fun o => (o.credit, o.minutes, o.tempAge, o.readiness)) =
        [(68065, 17, 40, .notReady)] ∧
      ((after .ovenTick (ovenEleven 69085 1180 18)).bank.ovens.map fun o => (o.credit, o.minutes, o.readiness)) = [(69145, 0, .ready)] ∧
      ((after .ovenTick (ovenEleven 72925 1180 82)).bank.ovens.map fun o => (o.credit, o.readiness, o.overcoked)) =
        [(72985, .overcoked, true)] := by decide +kernel

/-- 3.8: a value of 1280 goes stale at age 181, and the tick then uses Tn: an increment of 64. -/
theorem test_credit_stale_worked :
    ((after .ovenTick (ovenEleven 68000 1280 180)).bank.ovens.map fun o => (o.credit, o.stale)) = [(68064, true)] := by decide +kernel

theorem test_set_wall_temp_worked :
    ((after .setWallTemp (told 0x13#8 [11#8, 0x9C#8, 0x04#8] (ovenEleven 68065 1280 40))).bank.ovens.map
      fun o => (o.credit, o.minutes, o.temp, o.tempAge)) = [(68065, 18, some 1180, 0)] := by decide +kernel

/-- 4.9, worked cases: the loop of oven 11 with the samples 110, 114 and 118 in its ring, one door WEEPING or LEAKING. -/
def loopEleven (ring : List Int) (a u main : Int) (x : Seal) : State :=
  { station .bank with
    config := some ⟨12, 300, ⟨false, false, false⟩, .bank
      { part0 with first := 11, count := 1, base := 120, floor := 20 } { part1 with kp := 32, ki := 4, kf := 16, mainSensor := false }⟩
    bank := ⟨[coking], [{ collecting with ring := ring.map fun v => ⟨v, .good⟩, a := a, u := some u, driven := some u }],
      [tight, { tight with sealing := x }], some ⟨main, .good⟩, 600, none, some 0⟩ }

theorem test_regulator_worked :
    ((after (.pressureSample 0 112#12) (loopEleven [144, 139, 134, 0] 6400 405 (-1000) .weeping)).bank.loops.map
        fun l => (l.pf, l.e, l.a, l.u)) = [(138, 78, 6712, some 445)] ∧
      ((after (.pressureSample 0 112#12) (loopEleven [136, 144, 139, 134] 6712 445 (-1000) .leaking)).bank.loops.map
        fun l => (l.pf, l.e, l.a, l.u)) = [(138, 118, 7184, some 485)] := by decide +kernel

theorem test_regulator_rail_worked :
    ((after (.pressureSample 0 2047#12) (loopEleven [146, 136, 136, 144] 7664 525 (-1200) .leaking)).bank.loops.map
      fun l => (l.pf, l.e, l.a, l.u, l.ring.head?)) = [(139, 119, 8140, some 546, some ⟨2498, .rail⟩)] := by decide +kernel

/-- 4.9: with Kp 20, Ki 4, Kf 5, e = −3 and dm = −3, A stays 40 at a shut valve and becomes 28 at 12. -/
def lowLoop (u : Int) : State :=
  { loopEleven [17, 17, 17, 17] 40 u (-1003) .tight with
    config := some ⟨12, 300, ⟨false, false, false⟩, .bank
      { part0 with first := 11, count := 1, base := 20, floor := 20 } { part1 with kp := 20, ki := 4, kf := 5, mainSensor := false }⟩ }

theorem test_regulator_floors_worked :
    ((after (.pressureSample 0 14#12) (lowLoop 0)).bank.loops.map fun l => (l.pf, l.e, l.a, l.u)) = [(17, -3, 40, some 0)] ∧
      ((after (.pressureSample 0 14#12) (lowLoop 12)).bank.loops.map fun l => l.a) = [28] := by decide +kernel

/-- 5.7, worked sequence: a mean of 40 makes a TIGHT door WEEPING, one of 91 a WEEPING door LEAKING (Wt 40, Lt 90). -/
def doorEleven (x : Seal) (ring : List Nat) : State :=
  { station .bank with
    config := some ⟨12, 300, ⟨false, false, false⟩, .bank { part0 with first := 11, count := 1 } { part1 with weeping := 40, leaking := 90 }⟩
    bank := ⟨[coking], [collecting], [tight, { tight with sealing := x, ring := ring }], none, 65535, none, some 0⟩ }

theorem test_leak_worked :
    ((after (.leakLevel 1 39#10) (doorEleven .tight [45, 42, 40, 44, 41, 38, 36, 0])).bank.doors.map Door.sealing) = [.tight, .weeping] ∧
      ((after (.leakLevel 1 94#10) (doorEleven .weeping [89, 91, 93, 90, 95, 92, 88, 0])).bank.doors.map Door.sealing) = [.tight, .leaking] := by
  decide +kernel

/-- 6.9, worked case: the cycle order of N = 10, S = 3, Q = 2, and of S = 4, Q = 3. -/
theorem test_cycle_order_worked :
    (Plan.fresh 10 ⟨3, 2, 30⟩).order = [1, 4, 7, 10, 3, 6, 9, 2, 5, 8] ∧ (Plan.fresh 10 ⟨4, 3, 30⟩).order = [1, 5, 9, 4, 8, 3, 7, 2, 6, 10] := by
  decide

/-- 6.9: after claim 59 the choice runs from oven 7, defers 7, 3 and 6, marks 10 and claims 9. -/
def workedSummary : Nat → Option (SummaryState × Nat)
  | 3 => some (.notReady, 6)
  | 6 => some (.held, 15)
  | 7 => some (.notReady, 5)
  | 10 => some (.outOfService, 15)
  | _ => some (.ready, 0)

theorem test_choice_worked :
    let p := { Plan.fresh 10 ⟨3, 2, 30⟩ with pos := 2, marks := [Mark.pushed, .unpushed, .unpushed, .pushed] ++ List.replicate 6 Mark.unpushed }
    let r := p.choose workedSummary fun _ => false
    r.2 = .claim 9 ∧ r.1.deferred = [7, 3, 6] ∧ (r.1.pass, r.1.pos) = (1, 2) ∧ r.1.mark 10 = .skippedOos ∧ r.1.shown = 9 := by decide +kernel

/-- 6.9: past oven 8, the last of pass 2, the boundary takes up S = 4 and Q = 3 in cycle 41. -/
theorem test_boundary_worked :
    let p := { Plan.fresh 10 ⟨3, 2, 30⟩ with cycle := 40, pass := 2, pos := 2, staged := some (4, 3), deferred := [3, 6] }
    p.cursor = 8 ∧ p.advance = { Plan.fresh 10 ⟨4, 3, 30⟩ with cycle := 41, deferred := [3, 6] } := by decide

/-- R154, R165: the spray stands in QUENCHING and drops at the quench time. -/
theorem test_spray_drops :
    (after .quenchTimeExpiry (State.derive (station .quench |> caring { ready with state := .quenching, phase := some 0 }))).out.spray = false ∧
      (State.derive (station .quench |> caring { ready with state := .quenching, phase := some 0 })).out.spray = true := by decide +kernel

/-- R145, R146: with every stage that the ram needs set at the machine's oven the ram permit rises when the chain closes, and drops when it
opens. -/
theorem test_ram_permit :
    (after .chainClosed (station .pusher |> claiming (claim 3 toRamOut) |> at_ 3)).out.ram = true ∧
      (after .chainOpens (after .chainClosed (station .pusher |> claiming (claim 3 toRamOut) |> at_ 3))).out.ram = false := by decide +kernel

/-- R18: a stop run does not cut a window whose VETOED has been sampled; at its end the CHARGED returns to PENDING with one veto counted. -/
theorem test_sampled_window_stands :
    (match exec .stopRunDetected (inOwnWindow (.charged 3) |> sampled .blocked) with
      | .next t => t.line.window.isSome && t.queue.all QueueEntry.inFlight
      | _ => false) = true ∧
    (match exec (.stopRunEnd false) (inOwnWindow (.charged 3) |> sampled .stopRun) with
      | .next t => decide (t.queue.map (fun e => (e.inFlight, e.retries)) = [(false, 1)] ∧ t.line.state = .gap)
      | _ => false) = true := by decide +kernel

/-- R94, R95: the bank takes its own RESEAL_DONE of a record that it has itself given up. -/
theorem test_own_reseal_done_taken :
    (station .bank |> resealing { resealRecord .ps with ending := .givenUp, owed := some 0 }).judge true (frameFrom 5 (.resealDone 1 0 7 1)) =
      .take := by decide +kernel

/-- R189, R191: a STATION_CHANGE to role UNKNOWN ends in a presence byte of 0 and a value of 0; one to QUENCH in 1 and 3. -/
theorem test_station_change_role :
    (Report.stationChange 7 .absent none).fields = [7#8, 0#8, 0#8, 0#8] ∧
      (Report.stationChange 7 .present (some .quench)).fields = [7#8, 1#8, 1#8, 3#8] := by decide

/-- The reset state's queue is empty, and its first step from a queued HARDWARE_RESET reads the straps. -/
theorem test_first_step :
    (match step { State.reset with pending := [.hardwareReset 9#5 1#2 0#2 2#2 true] } with
      | .next t => decide (t.straps = ⟨9, .pusher, 0, 2⟩ ∧ t.stop.input = true ∧ t.pending = [])
      | _ => false) = true := by decide +kernel

/-- R18: a BLOCKED line samples the outcome where HLD has come free, and the stop run that follows does not cut the window. -/
theorem test_blocked_sample_stands :
    (after .stopRunDetected (after (.settleOutcome true)
      (station .guide |> lined { Line.reset with state := .blocked, window := some (windowOf (frameFrom 1 .census)) }))).line.window =
        some { windowOf (frameFrom 1 .census) with vetoRead := true } := by decide +kernel

/-- R44, R48: the tick in which oven 1 comes READY reports its stamp as it was before the tick. -/
theorem test_tick_reports_stamp_before :
    (after .ovenTick { station .bank with
        bank := { (station .bank).bank with ovens := [{ coking with credit := 38390, readiness := .notReady }], tick := some 60000 } }).port.tx =
      some (.report (.ovenState 1 .coking .coking 38454 .ready 5) false) := by decide +kernel

/-- R40, R83: CLEAR_FAULT empties oven 1 and seats its latched door in OFF. -/
theorem test_clear_fault_seats_door :
    ((after .clearFault (station .bank |> banked { coking with state := .faulted } collecting offDoor |> told 0x17#8 [1#8])).bank.doors[0]?).map
      Door.sealing = some .seating := by decide +kernel

/-- R125, R71, R83: the eighth stage empties oven 1, whose valve at 100 permille ramps first, and seats its latched door in OFF. -/
theorem test_closure_seats_doors :
    (after (.settleOutcome false) (bankHears toLast offDoor (.pushStage 1 9 7 false))).bank.doors[0]? =
        some (offDoor.atClaimEnd false false true) ∧
      (offDoor.atClaimEnd false false true).sealing = .seating ∧
      ((after (.settleOutcome false) (bankHears toLast offDoor (.pushStage 1 9 7 false))).bank.loops[0]?).map Loop.mode =
        some .isolating := by decide +kernel

/-- R162: the car that comes to stand SPOTTED under the claim offers CAR_READY, and its revoke as it leaves. -/
theorem test_ready_offered :
    (after .carAt (told 0x0E#8 [3#8] (spotting arriving false []))).queue = [entryOf (.pushStage 3 9 9 false)] ∧
      (after .carAt (told 0x0E#8 [0#8] (spotting standing true []))).queue = [entryOf (.pushStage 3 9 9 true)] := by decide +kernel

/-- R162: with a full queue the ready retry timer starts in its place. -/
theorem test_ready_retry_starts :
    (after .carAt (told 0x0E#8 [3#8] (spotting arriving false eight))).car.readyTimer = some 0 := by decide +kernel

/-- R126, R143: GUIDE_CLEAR over a PENDING set withdraws it, offers nothing and is ACCEPTED; GUIDE_SET over a PENDING revoke likewise. -/
theorem test_wish_withdraws_opposite :
    ((after .stage (guiding 0x09#8 [10#8] [entryOf setFrame])).queue = [] ∧
      (after .stage (guiding 0x09#8 [10#8] [entryOf setFrame])).port.tx = some (.reply ⟨0x89#8, .accepted, 0, []⟩)) ∧
    ((after .stage (guiding 0x09#8 [8#8] [entryOf revokeFrame] { toRamOut with guideSet := false })).queue = [] ∧
      (after .stage (guiding 0x09#8 [8#8] [entryOf revokeFrame] { toRamOut with guideSet := false })).port.tx =
        some (.reply ⟨0x89#8, .accepted, 0, []⟩)) := by decide +kernel

/-- R142: while the revoke owed flag is set a GUIDE_SET report is ORDER, also with the stage clear and its set still in flight; a CS_DOOR_ON
report is not concerned. -/
theorem test_guide_set_order_while_owed :
    (after .stage (owing 9 (guiding 0x09#8 [8#8] [entryOf setFrame true] { toRamOut with guideSet := false }))).port.tx =
        some (.reply ⟨0x89#8, .order, 0, []⟩) ∧
      (after .stage (owing 9 (guiding 0x09#8 [7#8] [] { toRamOut with ramOut := true, ramHome := true }))).port.tx =
        some (.reply ⟨0x89#8, .accepted, 0, []⟩) := by decide +kernel

/-- R126, R143: a GUIDE_SET reported over the guide's own revoke in flight, its stage cleared by another's frame, is ACCEPTED and is the guide's wish:
the revoke found VETOED is not sent again, and found TAKEN is followed by the set; a departure ends the wish. -/
theorem test_guide_set_over_revoke_in_flight :
    let s := after .stage (guiding 0x09#8 [8#8] [entryOf revokeFrame true] { toRamOut with guideSet := false })
    let t := s |> lined { Line.reset with state := .settle, window := some (ownWindow revokeFrame) }
    (s.port.tx = some (.reply ⟨0x89#8, .accepted, 0, []⟩) ∧ s.machine.setWanted = some 9 ∧ s.queue = [entryOf revokeFrame true]) ∧
      (after (.settleOutcome true) t).queue = [] ∧ (after (.settleOutcome true) t).machine.setWanted = none ∧
      (after (.settleOutcome false) t).queue = [entryOf setFrame] ∧
      (after .machineAt (told 0x0A#8 [0#8] s)).machine.setWanted = none := by decide +kernel

/-- R18, R119 (log 78): a REFUSE after the begin of the station's own stop pulse is ACCEPTED and closes the ask, and casts no veto. -/
theorem test_refuse_after_own_pulse :
    let t := after .consent (asking |> pulsing |> told 0x06#8 [0#8, 1#8])
    t.openAsk = none ∧ t.line.vto = false ∧ t.claims.veto = none ∧ t.port.tx = some (.reply ⟨0x86#8, .accepted, 0, []⟩) := by decide +kernel

/-- R5, R134: a PUSH_CLAIM that loses contention while an ABANDON waits is withdrawn, and the ABANDON is answered. -/
theorem test_lost_claim_withdrawn :
    let t := after (.contend [0#8]) (station .pusher |> queuing [entryOf (.pushClaim 3 1 false)] |> holdingBy 0x08#8 (.abandon 20))
    t.queue = [] ∧ t.port.hold = none ∧ t.port.tx = some (.reply ⟨0x88#8, .accepted, 1, []⟩) := by decide +kernel

/-! ## Witnesses: the invariants, of states other than the reset state, from which a step leads on -/

theorem witness_OutputsStaySound : (station .bank).derive.OutputsSound ∧ ∃ t, step (station .bank).derive = .next t :=
  ⟨State.derive_sound _, _, rfl⟩

theorem witness_LineAndSendQueueStaySound :
    (inOwnWindow (.charged 3) 2).LineSound ∧ (inOwnWindow (.charged 3) 2).QueueSound ∧ ∃ t, step (inOwnWindow (.charged 3) 2) = .next t := by
  refine ⟨?_, ⟨?_, ?_, ?_, fun _ => .inr ⟨ownWindow (.charged 3), rfl, rfl⟩⟩, _, rfl⟩
  · unfold State.LineSound
    decide +kernel
  all_goals decide +kernel

theorem witness_PortStaysSound : (porting { Port.reset with rx := .body 1#8 32 [] }).PortSound ∧
    ∃ t, step (porting { Port.reset with rx := .body 1#8 32 [] }) = .next t := by
  refine ⟨⟨by decide, by decide, by decide, by decide, by decide, ?_⟩, _, rfl⟩
  intro k n got h
  cases h
  exact ⟨by decide, by decide⟩

theorem witness_TablesAndBankStaySound : (station .bank).TablesSound ∧ (station .bank).BankSound ∧ ∃ t, step (station .bank) = .next t := by
  have oven : coking.Sound := by simp [Oven.Sound, coking]
  have loop : collecting.Sound := by simp [Loop.Sound, collecting]
  have door : tight.Sound := by simp [Door.Sound, tight]
  refine ⟨?_, ⟨?_, ?_, ?_, by decide⟩, _, rfl⟩
  · unfold State.TablesSound
    decide +kernel
  · intro o h
    simp only [station, if_pos, List.mem_cons, List.not_mem_nil, or_false, or_self] at h
    exact h ▸ oven
  · intro l h
    simp only [station, if_pos, List.mem_cons, List.not_mem_nil, or_false, or_self] at h
    exact h ▸ loop
  · intro x h
    simp only [station, if_pos, List.mem_cons, List.not_mem_nil, or_false, or_self] at h
    exact h ▸ door

theorem witness_PlanMachineAndCarStaySound : (station .pusher).PlanSound ∧ (station .pusher).MachineSound ∧ (station .pusher).car.Sound ∧
    ∃ t, step (station .pusher) = .next t := by
  refine ⟨?_, ?_, ?_, _, rfl⟩
  · intro p h
    have h : some { Plan.fresh 6 ⟨2, 1, 50⟩ with timer := some 0 } = some p := h
    cases h
    refine ⟨by decide, by decide, nofun, by decide, by decide, by decide, by decide, by decide, by decide, nofun, by decide⟩
  · unfold State.MachineSound
    decide +kernel
  · unfold Car.Sound
    decide +kernel

end Sys2Proof.Tests
end

section
/-! PROOFS. The reset row (O4). -/

open Sys2Proof Sys2Proof.Machine

/-- Settles O4: each part of the reset state by computation. -/
theorem hardwareResetValues : Obligations.HardwareResetValues := by
  unfold Obligations.HardwareResetValues
  refine ⟨fun id role line port input s => rfl, ?_⟩
  decide

end

section
/-! Records of a bank and entries of the station table: each operation on one record keeps its ranges (R24, R26, R35 to R48, R53 to R75,
R77 to R93). -/

namespace Sys2Proof.Machine

/-! ## Oven records (R35 to R48) -/

/-- The ranges of an oven record, but for the attention causes, which `Oven.withCauses` sets from the rest. -/
def Oven.Ranged (o : Oven) : Prop :=
  o.credit ≤ 16777215 ∧ o.minutes ≤ 4095 ∧ o.stamp ≤ 65535 ∧ o.tempAge ≤ 65535 ∧ (∀ t, o.temp = some t → 700 ≤ t ∧ t ≤ 1500) ∧
  (o.state ≠ .coking → o.state ≠ .claimed → o.readiness = .notReady ∧ o.minutes = 4095) ∧
  (o.state = .empty ∨ o.state = .outOfService → o.credit = 0 ∧ o.stamp = 0) ∧ (o.held ≠ none → o.state = .held)

theorem Oven.Sound.ranged {o : Oven} (h : o.Sound) : o.Ranged := by
  obtain ⟨credit, minutes, stamp, age, temp, -, -, idle, empty, held⟩ := h
  exact ⟨credit, minutes, stamp, age, temp, idle, empty, held⟩

/-- A record whose causes are set afresh is sound (R37). -/
theorem Oven.Ranged.withCauses {o : Oven} (h : o.Ranged) : o.withCauses.Sound := by
  obtain ⟨credit, minutes, stamp, age, temp, idle, empty, held⟩ := h
  exact ⟨credit, minutes, stamp, age, temp, by simp [Oven.withCauses], by simp [Oven.withCauses], idle, empty, held⟩

/-- The minutes to ready stop at their greatest value (R35, R47). -/
theorem Oven.minutesToReady_le (p : BankPart0) (o : Oven) : o.minutesToReady p ≤ 4095 := by
  unfold Oven.minutesToReady
  split
  · exact Nat.zero_le _
  · exact Nat.min_le_right _ _

/-- Entry to a state leaves the record in its ranges (R36). -/
theorem Oven.Sound.enter {o : Oven} (h : o.Sound) (p : BankPart0) (new : OvenState) : (o.enter p new).Ranged := by
  obtain ⟨credit, -, stamp, age, temp, -⟩ := h
  have ready : ∀ x : Oven, x.minutesToReady p ≤ 4095 := Oven.minutesToReady_le p
  cases new <;> simp_all [Oven.enter, Oven.recompute, Oven.Ranged, Config.minutesMax]

/-- The held timer runs in HELD only (R41). -/
theorem Oven.Ranged.heldFrom {o : Oven} (h : o.Ranged) (hs : o.state = .held) (x : Option Nat) : ({ o with held := x } : Oven).Ranged := by
  obtain ⟨credit, minutes, stamp, age, temp, idle, empty, -⟩ := h
  exact ⟨credit, minutes, stamp, age, temp, idle, empty, fun _ => hs⟩

theorem Oven.Sound.heldFrom {o : Oven} (h : o.Sound) (x : Option Nat) (hx : x ≠ none → o.state = .held) :
    ({ o with held := x } : Oven).Sound := by
  obtain ⟨credit, minutes, stamp, age, temp, overcoked, faulted, idle, empty, -⟩ := h
  exact ⟨credit, minutes, stamp, age, temp, overcoked, faulted, idle, empty, hx⟩

/-- The state after an entry is the new one. -/
theorem Oven.enter_state (o : Oven) (p : BankPart0) (new : OvenState) : (o.enter p new).state = new := by
  cases new <;> rfl

/-- Steps 1 to 3 of a tick keep the ranges (R43 to R47). -/
theorem Oven.Sound.tickReadiness {o : Oven} (h : o.Sound) (p : BankPart0) : (o.tickReadiness p).Ranged := by
  obtain ⟨credit, minutes, stamp, age, temp, -, -, idle, empty, held⟩ := h
  have ready : ∀ x : Oven, x.minutesToReady p ≤ 4095 := Oven.minutesToReady_le p
  by_cases hc : o.cokes = true
  · have cokes : (o.tickTemp.tickCredit p).cokes = true := by
      have : o.tickTemp.cokes = true := hc
      rw [Oven.tickCredit, if_pos this]
      exact hc
    have hs : o.state = .coking ∨ o.state = .claimed := by simpa [Oven.cokes] using hc
    rw [Oven.tickReadiness, if_pos cokes]
    have tick : (o.tickTemp.tickCredit p) = { o.tickTemp with credit := min (o.tickTemp.credit + o.tickTemp.increment p) Config.creditMax } :=
      if_pos hc
    refine ⟨?_, ready _, ?_, ?_, ?_, ?_, ?_, ?_⟩
    all_goals rw [tick]
    · exact Nat.min_le_right _ _
    · exact stamp
    · exact Nat.min_le_right _ _
    · exact temp
    · rcases hs with hs | hs <;> simp [Oven.recompute, Oven.tickTemp, hs]
    · rcases hs with hs | hs <;> simp [Oven.recompute, Oven.tickTemp, hs]
    · exact held
  · have cokes : o.tickTemp.cokes = false := by simpa [Oven.cokes, Oven.tickTemp] using hc
    have tick : o.tickReadiness p = o.tickTemp := by simp [Oven.tickReadiness, Oven.tickCredit, cokes]
    rw [tick]
    exact ⟨credit, minutes, stamp, Nat.min_le_right _ _, temp, idle, empty, held⟩

/-- Step 4 of a tick keeps a sound record (R48). -/
theorem Oven.Sound.tickStamp {o : Oven} (h : o.Sound) : o.tickStamp.Sound := by
  obtain ⟨credit, minutes, stamp, age, temp, overcoked, faulted, idle, empty, held⟩ := h
  cases hs : o.state <;> simp_all [Oven.tickStamp, Oven.Sound]

theorem Oven.Sound.elapse {o : Oven} (h : o.Sound) (d seat : Nat) : (o.elapse d seat).Sound := by
  refine h.heldFrom _ fun hx => h.ranged.2.2.2.2.2.2.2 ?_
  cases hh : o.held <;> simp_all [runTimer]

/-- A wall temperature in its range, with the minutes it gives a coking oven (R42). -/
theorem Oven.Sound.setWallTemp {o : Oven} (h : o.Sound) (p : BankPart0) {t : Nat} (ht : 700 ≤ t ∧ t ≤ 1500) :
    (let o1 : Oven := { o with temp := some t, tempAge := 0, stale := false }
     if o1.cokes then { o1 with minutes := o1.minutesToReady p } else o1).Sound := by
  obtain ⟨credit, minutes, stamp, age, temp, overcoked, faulted, idle, empty, held⟩ := h
  have temp' : ∀ x, some t = some x → 700 ≤ x ∧ x ≤ 1500 := fun x hx => Option.some.inj hx ▸ ht
  dsimp only
  split
  · next hc =>
    have hs : o.state = .coking ∨ o.state = .claimed := by simpa [Oven.cokes] using hc
    refine ⟨credit, Oven.minutesToReady_le p _, stamp, Nat.zero_le _, temp', overcoked, faulted, ?_, empty, held⟩
    rcases hs with hs | hs <;> simp [hs]
  · exact ⟨credit, minutes, stamp, Nat.zero_le _, temp', overcoked, faulted, idle, empty, held⟩

theorem Oven.fresh_sound : Oven.fresh.Sound := by simp [Oven.Sound, Oven.fresh, Config.minutesMax]

/-! ## Regulating loops (R53 to R75) -/

/-- A clamp stays within its bounds. -/
theorem clampInt_range (v : Int) {lo hi : Int} (h : lo ≤ hi) : lo ≤ clampInt v lo hi ∧ clampInt v lo hi ≤ hi := by
  unfold clampInt; split <;> [skip; split] <;> omega

/-- A rate-limited output lies between the output before and the one wanted (R65). -/
theorem rateLimit_range {u t lo hi : Int} (hu : lo ≤ u ∧ u ≤ hi) (ht : lo ≤ t ∧ t ≤ hi) : lo ≤ rateLimit u t ∧ rateLimit u t ≤ hi := by
  unfold rateLimit clampInt; split <;> [skip; split] <;> omega

theorem nextIntegral_range (ki : Nat) (u e : Int) {a : Int} (h : 0 ≤ a ∧ a ≤ 16000) : 0 ≤ nextIntegral ki u e a ∧ nextIntegral ki u e a ≤ 16000 := by
  unfold nextIntegral; split
  · exact h
  · exact clampInt_range _ (by decide)

/-- An oven pressure sample lies in the range of the ring (R53, R54). -/
theorem ovenPressure_range (x : BitVec 12) : -2500 ≤ ovenPressure x.toInt ∧ ovenPressure x.toInt ≤ 2498 := by
  have h1 := x.toInt_lt
  have h2 := x.le_toInt
  norm_num at h1 h2
  unfold ovenPressure
  rcases le_total 0 x.toInt with h | h
  · rw [Int.tdiv_eq_ediv_of_nonneg (by omega)]; omega
  · rw [show x.toInt * 2500 = -(-x.toInt * 2500) by ring, Int.neg_tdiv, Int.tdiv_eq_ediv_of_nonneg (by omega)]; omega

/-- The mean of numbers in a range lies in it. -/
theorem mean_range {lo hi : Int} (l : List Int) (h : ∀ x ∈ l, lo ≤ x ∧ x ≤ hi) : lo * l.length ≤ l.sum ∧ l.sum ≤ hi * l.length := by
  induction l with
  | nil => simp
  | cons x l ih =>
    have hx := h x (List.mem_cons_self ..)
    have hl := ih fun y hy => h y (List.mem_cons_of_mem _ hy)
    simp only [List.sum_cons, List.length_cons, Nat.cast_add, Nat.cast_one, mul_add, mul_one]
    omega

/-- What a loop keeps whatever its ring holds: all of `Loop.Sound` but the filter's part. -/
def Loop.Driven (l : Loop) : Prop :=
  (∀ v, l.u = some v → 0 ≤ v ∧ v ≤ 1000) ∧ (∀ v, l.driven = some v → 0 ≤ v ∧ v ≤ 1000) ∧
  (∀ v, l.target = some v → 0 ≤ v ∧ v ≤ 1000) ∧ 0 ≤ l.a ∧ l.a ≤ 16000 ∧ l.zero ≤ 10 ∧ (l.mode = .isolating → l.zero ≤ 9) ∧
  (l.charge ≠ none ↔ l.mode = .charge) ∧ (l.target ≠ none ↔ l.mode = .manual) ∧
  (l.mode = .released → l.u = none ∧ l.driven = none ∧ l.a = 0)

/-- The filter's part of `Loop.Sound` (R53, R56, R57), but for the attention. -/
def Loop.Filtered (l : Loop) : Prop :=
  l.ring.length = 4 ∧ (∀ x ∈ l.ring, -2500 ≤ x.value ∧ x.value ≤ 2498) ∧ -2500 ≤ l.pf ∧ l.pf ≤ 2498 ∧
  (l.lost = true ↔ ∀ x ∈ l.ring, x.quality ≠ .good) ∧ (l.lostTimer ≠ none ↔ l.lost = true) ∧ l.watch ≤ 150

theorem Loop.sound_iff (l : Loop) : l.Sound ↔ l.Filtered ∧ l.Driven ∧ (l.attention = true → l.lost = true) := by
  constructor
  · rintro ⟨ring, values, pf0, pf1, u, driven, target, a0, a1, zero, isolating, lost, timer, att, charge, manual, released, watch⟩
    exact ⟨⟨ring, values, pf0, pf1, lost, timer, watch⟩, ⟨u, driven, target, a0, a1, zero, isolating, charge, manual, released⟩, att⟩
  · rintro ⟨⟨ring, values, pf0, pf1, lost, timer, watch⟩, ⟨u, driven, target, a0, a1, zero, isolating, charge, manual, released⟩, att⟩
    exact ⟨ring, values, pf0, pf1, u, driven, target, a0, a1, zero, isolating, lost, timer, att, charge, manual, released, watch⟩

/-- The fields of the filter's part decide it. -/
theorem Loop.Filtered.congr {l k : Loop} (h : l.Filtered) (ring : k.ring = l.ring) (pf : k.pf = l.pf) (lost : k.lost = l.lost)
    (timer : k.lostTimer = l.lostTimer) (watch : k.watch = l.watch) : k.Filtered := by
  unfold Loop.Filtered at *
  rw [ring, pf, lost, timer, watch]
  exact h

/-- A change of a loop that leaves the filter's fields alone. -/
theorem Loop.Sound.driving {l k : Loop} (h : l.Sound) (hk : k.Driven) (ring : k.ring = l.ring) (pf : k.pf = l.pf) (lost : k.lost = l.lost)
    (timer : k.lostTimer = l.lostTimer) (watch : k.watch = l.watch) (attention : k.attention = l.attention) : k.Sound := by
  obtain ⟨filtered, -, att⟩ := (Loop.sound_iff l).1 h
  exact (Loop.sound_iff k).2 ⟨filtered.congr ring pf lost timer watch, hk, by rw [attention, lost]; exact att⟩

theorem Loop.Sound.driven {l : Loop} (h : l.Sound) : l.Driven := ((Loop.sound_iff l).1 h).2.1

theorem Loop.Sound.enterIsolating {l : Loop} (h : l.Sound) : l.enterIsolating.Sound := by
  obtain ⟨u, driven, -⟩ := h.driven
  exact h.driving ⟨u, driven, by simp [Loop.enterIsolating]⟩ rfl rfl rfl rfl rfl rfl

theorem Loop.Sound.enterCollect {l : Loop} (h : l.Sound) : l.enterCollect.Sound := by
  obtain ⟨u, driven, -⟩ := h.driven
  exact h.driving ⟨u, driven, by simp [Loop.enterCollect]⟩ rfl rfl rfl rfl rfl rfl

/-- A mode that is none of those with a timer, a target or a condition of their own: timer and target stop. -/
theorem Loop.Sound.plainMode {l : Loop} (h : l.Sound) (m : Mode) (hm : m = .collect ∨ m = .isolated) :
    ({ l with mode := m, charge := none, target := none } : Loop).Sound := by
  obtain ⟨u, driven, -, a0, a1, zero, -⟩ := h.driven
  refine h.driving ⟨u, driven, by simp, a0, a1, zero, ?_⟩ rfl rfl rfl rfl rfl rfl
  rcases hm with rfl | rfl <;> simp

theorem Loop.Sound.toIsolated {l : Loop} (h : l.Sound) : l.toIsolated.Sound := by
  have plain := h.plainMode .isolated (.inr rfl)
  have ramp := h.enterIsolating
  unfold Loop.toIsolated
  cases hm : l.mode <;> dsimp only
  case isolated => exact h
  case isolating => split <;> assumption
  all_goals split <;> assumption

theorem Loop.Sound.owing {l : Loop} (h : l.Sound) (b : Bool) : ({ l with owed := b } : Loop).Sound :=
  h.driving h.driven rfl rfl rfl rfl rfl rfl

theorem Loop.Sound.afterClaim {l : Loop} (h : l.Sound) (new : OvenState) : (l.afterClaim new).Sound := by
  cases new
  case coking => exact h.enterCollect
  all_goals exact h.toIsolated.owing false

theorem Loop.Sound.adoptIsolated {l : Loop} (h : l.Sound) : l.adoptIsolated.Sound := by
  unfold Loop.adoptIsolated
  split
  · exact h
  · exact h.enterIsolating

theorem Loop.Sound.setManual {l : Loop} (h : l.Sound) {t : Int} (ht : 0 ≤ t ∧ t ≤ 1000) : (l.setManual t).Sound := by
  obtain ⟨u, driven, -, a0, a1, zero, -⟩ := h.driven
  exact h.driving ⟨u, driven, fun v hv => Option.some.inj hv ▸ ht, a0, a1, zero, by simp [Loop.setManual]⟩ rfl rfl rfl rfl rfl rfl

theorem Loop.Sound.releaseManual {l : Loop} (h : l.Sound) (hm : l.mode = .manual) : l.releaseManual.Sound := by
  have charge : l.charge = none := by
    obtain ⟨-, -, -, -, -, -, -, charge, -⟩ := h.driven
    by_contra hc
    simp [charge.1 hc] at hm
  have := h.plainMode .collect (.inl rfl)
  rw [← charge] at this
  exact this

theorem Loop.Sound.enterCharge {l : Loop} (h : l.Sound) : l.enterCharge.Sound := by
  obtain ⟨u, driven, -, a0, a1, zero, -⟩ := h.driven
  exact h.driving ⟨u, driven, by simp [Loop.enterCharge], a0, a1, zero, by simp [Loop.enterCharge]⟩ rfl rfl rfl rfl rfl rfl

/-- A charge time that runs ends in COLLECT (R68). -/
theorem Loop.Sound.endCharge {l : Loop} (h : l.Sound) (hc : l.charge ≠ none) : ({ l with charge := none, mode := .collect } : Loop).Sound := by
  have target : l.target = none := by
    obtain ⟨-, -, -, -, -, -, -, charge, target, -⟩ := h.driven
    by_contra ht
    simp [charge.1 hc] at target
    exact ht target
  have := h.plainMode .collect (.inl rfl)
  rw [← target] at this
  exact this

theorem Loop.Sound.restore {l : Loop} (h : l.Sound) {u0 : Int} (hu : 0 ≤ u0 ∧ u0 ≤ 1000) {m : Mode} (hm : m = .collect ∨ m = .isolated) :
    (l.restore u0 m).Sound := by
  obtain ⟨-, driven, -, -, -, zero, -⟩ := h.driven
  refine h.driving ⟨fun v hv => Option.some.inj hv ▸ hu, driven, by simp [Loop.restore], ?_, ?_, zero, ?_⟩ rfl rfl rfl rfl rfl rfl
  · simp only [Loop.restore]; omega
  · simp only [Loop.restore]; omega
  · rcases hm with rfl | rfl <;> simp [Loop.restore]

/-- The output that a step starts from lies in the valve's range. -/
theorem Loop.Driven.output {l : Loop} (h : l.Driven) : 0 ≤ l.u.getD 0 ∧ l.u.getD 0 ≤ 1000 := by
  cases hu : l.u with
  | none => decide
  | some v => exact h.1 v hu

theorem Loop.Driven.regulate {l : Loop} (h : l.Driven) (p1 : BankPart1) (sp dm : Int) (hm : l.mode = .collect ∨ l.mode = .charge) :
    (l.regulate p1 sp dm).Driven := by
  obtain ⟨u, driven, target, a0, a1, zero, isolating, charge, manual, -⟩ := id h
  have out := h.output
  unfold Loop.regulate
  dsimp only
  split
  · exact ⟨fun v hv => Option.some.inj hv ▸ out, driven, target, a0, a1, zero, isolating, charge, manual, by rcases hm with hm | hm <;> simp [hm]⟩
  · have a := nextIntegral_range p1.ki (l.u.getD 0) (l.pf - sp) ⟨a0, a1⟩
    refine ⟨fun v hv => ?_, driven, target, a.1, a.2, zero, isolating, charge, manual, by rcases hm with hm | hm <;> simp [hm]⟩
    rw [← Option.some.inj hv]
    exact rateLimit_range out (clampInt_range _ (by decide))

/-- The step of a mode keeps the outputs in range, with the level on the valve output taken afresh (R58, R64 to R70, R73). -/
theorem Loop.Driven.modeStep {l : Loop} (h : l.Driven) (p0 : BankPart0) (p1 : BankPart1) (sp dm : Int) :
    (l.modeStep p0 p1 sp dm).Driven := by
  obtain ⟨u, driven, target, a0, a1, zero, isolating, charge, manual, released⟩ := id h
  have out := h.output
  unfold Loop.modeStep
  cases hm : l.mode <;> dsimp only
  case collect => exact h.regulate p1 _ _ (.inl hm)
  case charge => exact h.regulate p1 _ _ (.inr hm)
  case isolating =>
    have z := isolating hm
    simp only [hm, reduceCtorEq, iff_false, not_not] at charge manual
    unfold Loop.ramp
    dsimp only
    refine ⟨fun v hv => ?_, driven, target, le_refl _, by norm_num, ?_, ?_, ?_, ?_, ?_⟩
    · simp only [Option.some.injEq] at hv; omega
    all_goals split <;> split <;> simp_all <;> omega
  case isolated =>
    exact ⟨fun v hv => by simp only [Option.some.injEq] at hv; omega, driven, target, le_refl _, by norm_num, zero, by simp,
      by simpa [hm] using charge, by simpa [hm] using manual, by simp⟩
  case manual =>
    have r : 0 ≤ rateLimit (l.u.getD 0) (l.target.getD (l.u.getD 0)) ∧ rateLimit (l.u.getD 0) (l.target.getD (l.u.getD 0)) ≤ 1000 := by
      refine rateLimit_range out ?_
      cases ht : l.target with
      | none => exact out
      | some v => exact target v ht
    refine ⟨fun v hv => Option.some.inj hv ▸ r, driven, target, by dsimp only; omega, by dsimp only; omega, zero, by simp,
      by simpa [hm] using charge, by simpa [hm] using manual, by simp⟩
  case released => exact h

/-- A step leaves RELEASED where it is, and enters it from nowhere. -/
theorem Loop.modeStep_released (l : Loop) (p0 : BankPart0) (p1 : BankPart1) (sp dm : Int) :
    (l.modeStep p0 p1 sp dm).mode = .released ↔ l.mode = .released := by
  unfold Loop.modeStep
  cases hm : l.mode <;> dsimp only
  case collect => unfold Loop.regulate; split <;> simp [hm]
  case charge => unfold Loop.regulate; split <;> simp [hm]
  case isolating => unfold Loop.ramp; dsimp only; split <;> split <;> simp
  all_goals simp [hm]

/-- The step of a mode leaves the filter's fields alone. -/
theorem Loop.modeStep_filter (l : Loop) (p0 : BankPart0) (p1 : BankPart1) (sp dm : Int) :
    let k := l.modeStep p0 p1 sp dm
    k.ring = l.ring ∧ k.pf = l.pf ∧ k.lost = l.lost ∧ k.lostTimer = l.lostTimer ∧ k.watch = l.watch := by
  unfold Loop.modeStep Loop.regulate
  cases hm : l.mode <;> dsimp only
  case collect => split <;> simp
  case charge => split <;> simp
  all_goals simp [Loop.ramp]

/-- A value in the ring's range written, and the ring filtered (R53, R56, R57). -/
theorem Loop.Sound.write_filter {l : Loop} (h : l.Sound) (x : Sample) (hx : -2500 ≤ x.value ∧ x.value ≤ 2498) :
    (l.write x).filter.Filtered := by
  obtain ⟨⟨length, values, pf0, pf1, lost, timer, -⟩, -, -⟩ := (Loop.sound_iff l).1 h
  have length' : (l.write x).ring.length = 4 := by simp [Loop.write, length]
  have values' : ∀ y ∈ (l.write x).ring, -2500 ≤ y.value ∧ y.value ≤ 2498 := by
    intro y hy
    rcases List.mem_cons.1 hy with rfl | hy
    · exact hx
    · exact values y (List.mem_of_mem_take hy)
  have good : ∀ v ∈ (l.write x).good, -2500 ≤ v ∧ v ≤ 2498 := by
    intro v hv
    obtain ⟨y, hy, rfl⟩ := List.mem_map.1 hv
    exact values' y (List.mem_filter.1 hy).1
  have none_good : (l.write x).good = [] ↔ ∀ y ∈ (l.write x).ring, y.quality ≠ .good := by
    simp [Loop.good, List.filter_eq_nil_iff]
  unfold Loop.filter
  cases hg : (l.write x).good with
  | nil =>
    refine ⟨length', values', pf0, pf1, by simpa [hg] using none_good, ?_, Nat.zero_le _⟩
    have lost' : (l.write x).lost = l.lost := rfl
    have timer' : (l.write x).lostTimer = l.lostTimer := rfl
    cases hl : l.lost <;> simp_all
  | cons g gs =>
    have mean := mean_range (g :: gs) (hg ▸ good)
    have pos : (0 : Int) < ((g :: gs).length : Int) := by simp
    have lo : -2500 ≤ (g :: gs).sum / ((g :: gs).length : Int) := Int.le_ediv_of_mul_le pos mean.1
    have hi : (g :: gs).sum / ((g :: gs).length : Int) ≤ 2498 := by
      have := Int.ediv_le_ediv pos mean.2
      rwa [Int.mul_ediv_cancel _ (by omega)] at this
    refine ⟨length', values', lo, hi, ?_, by simp, Nat.zero_le _⟩
    simpa [hg] using none_good

/-- The regulator step keeps a loop sound (R54 to R70, R73). -/
theorem Loop.Sound.step {l : Loop} (h : l.Sound) (x : Sample) (hx : -2500 ≤ x.value ∧ x.value ≤ 2498) (p0 : BankPart0) (p1 : BankPart1)
    (sp dm : Int) : ((l.write x).step p0 p1 sp dm).Sound := by
  have filtered := h.write_filter x hx
  have before : (l.write x).filter.Driven := by
    have : (l.write x).filter.u = l.u ∧ (l.write x).filter.driven = l.driven ∧ (l.write x).filter.target = l.target ∧
        (l.write x).filter.a = l.a ∧ (l.write x).filter.zero = l.zero ∧ (l.write x).filter.mode = l.mode ∧
        (l.write x).filter.charge = l.charge := by
      unfold Loop.filter; split <;> simp [Loop.write]
    obtain ⟨hu, hd, ht, ha, hz, hm, hc⟩ := this
    have := h.driven
    unfold Loop.Driven at this ⊢
    rwa [hu, hd, ht, ha, hz, hm, hc]
  have after := before.modeStep p0 p1 sp dm
  obtain ⟨ring, pf, lost, timer, watch⟩ := (l.write x).filter.modeStep_filter p0 p1 sp dm
  have mode := (l.write x).filter.modeStep_released p0 p1 sp dm
  refine (Loop.sound_iff _).2 ⟨filtered.congr ring pf lost timer watch, ?_, ?_⟩
  · obtain ⟨u, driven, target, a0, a1, zero, isolating, charge, manual, released⟩ := after
    refine ⟨u, fun v hv => ?_, target, a0, a1, zero, isolating, charge, manual, fun hm => ?_⟩
    · simp only [Loop.step] at hv
      split at hv
      · exact driven v hv
      · exact u v hv
    · obtain ⟨hu, hd, ha⟩ := released hm
      refine ⟨hu, ?_, ha⟩
      simp only [Loop.step, if_pos (mode.1 hm)]
      exact hd
  · intro ha
    have := (Bool.and_eq_true _ _ ▸ ha).2
    exact lost.trans this

theorem Loop.Sound.elapse {l : Loop} (h : l.Sound) (d charge : Nat) : (l.elapse d charge).Sound := by
  obtain ⟨⟨length, values, pf0, pf1, lost, timer, watch⟩, driven, att⟩ := (Loop.sound_iff l).1 h
  have run : ∀ limit (t : Option Nat), runTimer d limit t ≠ none ↔ t ≠ none := by
    intro limit t; cases t <;> simp [runTimer]
  obtain ⟨u, drv, target, a0, a1, zero, isolating, charging, rest⟩ := driven
  exact (Loop.sound_iff _).2 ⟨⟨length, values, pf0, pf1, lost, (run _ _).trans timer, Nat.min_le_right _ _⟩,
    ⟨u, drv, target, a0, a1, zero, isolating, (run _ _).trans charging, rest⟩, att⟩

theorem Loop.Sound.lostAttention {l : Loop} (h : l.Sound) (ht : l.lostTimer ≠ none) : ({ l with attention := true } : Loop).Sound := by
  obtain ⟨filtered, driven, -⟩ := (Loop.sound_iff l).1 h
  obtain ⟨-, -, -, -, -, timer, -⟩ := id filtered
  exact (Loop.sound_iff _).2 ⟨filtered, driven, fun _ => timer.1 ht⟩

theorem Loop.fresh_sound : Loop.fresh.Sound := by simp [Loop.Sound, Loop.fresh]

/-! ## Door records (R77 to R93) -/

/-- What a door record keeps of its ring and of its mismatch watch. -/
def Door.Watched (x : Door) : Prop :=
  x.ring.length = 8 ∧ (∀ v ∈ x.ring, v ≤ 255) ∧ (x.mismatched = true → x.mismatch ≠ none)

/-- The timers and flags that go with a seal state and a latch. -/
def Door.Timed (x : Door) : Prop :=
  (x.seat ≠ none ↔ x.sealing = .seating ∧ x.latch = .latched) ∧ (x.leaking ≠ none → x.sealing = .leaking ∧ x.latch = .latched) ∧
  (x.call ≠ none → x.called = true) ∧ (x.called = true → x.sealing = .leaking) ∧ (x.reseal ≠ none ↔ x.sealing = .resealing) ∧
  (x.unlatched = true ↔ x.sealing = .unlatchedUnexpected)

theorem Door.sound_iff (x : Door) : x.Sound ↔ x.Watched ∧ x.Timed := by
  constructor
  · rintro ⟨ring, levels, seat, leaking, call, called, reseal, unlatched, watch⟩
    exact ⟨⟨ring, levels, watch⟩, seat, leaking, call, called, reseal, unlatched⟩
  · rintro ⟨⟨ring, levels, watch⟩, seat, leaking, call, called, reseal, unlatched⟩
    exact ⟨ring, levels, seat, leaking, call, called, reseal, unlatched, watch⟩

theorem Door.Sound.watched {x : Door} (h : x.Sound) : x.Watched := ((Door.sound_iff x).1 h).1

/-- A seal state other than SEATING, LEAKING, RESEALING and UNLATCHED_UNEXPECTED, entered with its timers stopped. -/
theorem Door.Watched.plain {x : Door} (h : x.Watched) (hs : x.sealing ∈ [.tight, .weeping, .off]) (seat : x.seat = none)
    (leaking : x.leaking = none) (call : x.call = none) (called : x.called = false) (reseal : x.reseal = none)
    (unlatched : x.unlatched = false) : x.Sound := by
  refine (Door.sound_iff x).2 ⟨h, ?_⟩
  unfold Door.Timed
  rw [seat, leaking, call, called, reseal, unlatched]
  simp only [List.mem_cons, List.not_mem_nil, or_false] at hs
  rcases hs with hs | hs | hs <;> simp [hs]

theorem leakRingEmpty_levels : leakRingEmpty.length = 8 ∧ ∀ v ∈ leakRingEmpty, v ≤ 255 := by decide

theorem Door.Watched.enterSeating {x : Door} (h : x.Watched) : x.enterSeating.Sound := by
  obtain ⟨-, -, watch⟩ := h
  refine (Door.sound_iff _).2 ⟨⟨leakRingEmpty_levels.1, leakRingEmpty_levels.2, watch⟩, ?_⟩
  cases hl : x.latch <;> simp [Door.Timed, Door.enterSeating, Door.endEpisode, hl]

theorem Door.Watched.enterUnlatched {x : Door} (h : x.Watched) : x.enterUnlatched.Sound := by
  refine (Door.sound_iff _).2 ⟨h, ?_⟩
  simp [Door.Timed, Door.enterUnlatched, Door.endEpisode]

theorem Door.Watched.enterResealing {x : Door} (h : x.Watched) : x.enterResealing.Sound := by
  refine (Door.sound_iff _).2 ⟨h, ?_⟩
  simp [Door.Timed, Door.enterResealing, Door.endEpisode]

theorem Door.Watched.leaveResealing {x : Door} (h : x.Watched) : x.leaveResealing.Sound := by
  unfold Door.leaveResealing
  split
  · exact h.enterSeating
  · exact h.enterUnlatched

/-- The mismatch watch changes alone (R85). -/
theorem Door.Sound.watching {x : Door} (h : x.Sound) (m : Option Mismatch) (b : Bool) (hb : b = true → m ≠ none) :
    ({ x with mismatch := m, mismatched := b } : Door).Sound := by
  obtain ⟨⟨ring, levels, -⟩, timed⟩ := (Door.sound_iff x).1 h
  exact (Door.sound_iff _).2 ⟨⟨ring, levels, hb⟩, timed⟩

theorem Door.Sound.startWatch {x : Door} (h : x.Sound) (k : Watch) : (x.startWatch k).Sound := h.watching _ _ nofun

theorem Door.Sound.endWatch {x : Door} (h : x.Sound) : x.endWatch.Sound := h.watching _ _ nofun

theorem Door.Sound.claimEnded {x : Door} (h : x.Sound) : x.claimEnded.Sound := by
  unfold Door.claimEnded
  repeat' split
  · exact h.endWatch
  · exact h
  · exact h

theorem Door.Sound.enterOff {x : Door} (h : x.Sound) : x.enterOff.Sound := by
  have off : ({ x.endEpisode with sealing := .off, seat := none, reseal := none, unlatched := false } : Door).Sound :=
    Door.Watched.plain (x := { x.endEpisode with sealing := .off, seat := none, reseal := none, unlatched := false }) h.watched (by simp)
      rfl rfl rfl rfl rfl rfl
  unfold Door.enterOff
  dsimp only
  split
  · exact off.startWatch _
  · exact off

/-- The event latch and its snapshot are bound by nothing (R86). -/
theorem Door.Sound.snapping {x : Door} (h : x.Sound) (held : Bool) (latch : Latch) (sealing : Seal) :
    ({ x with held := held, snapLatch := latch, snapSeal := sealing } : Door).Sound := h

/-- The latch field takes a level (R78, R81, R84, R85, R88). -/
theorem Door.Sound.latchTo {x : Door} (h : x.Sound) (level : Latch) (covered seats : Bool) : (x.latchTo level covered seats).Sound := by
  obtain ⟨-, seat, leaking, call, called, reseal, unlatched⟩ := (Door.sound_iff x).1 h
  unfold Door.latchTo
  extract_lets y ends z
  have watched : z.Watched := by
    dsimp only [z]
    split
    · exact ⟨h.watched.1, h.watched.2.1, nofun⟩
    · exact h.watched
  have fields : z.latch = level ∧ z.sealing = x.sealing ∧ z.seat = x.seat ∧ z.leaking = x.leaking ∧ z.call = x.call ∧
      z.called = x.called ∧ z.reseal = x.reseal ∧ z.unlatched = x.unlatched := by
    dsimp only [z]
    split <;> exact ⟨rfl, rfl, rfl, rfl, rfl, rfl, rfl, rfl⟩
  clear_value z
  obtain ⟨latch, sealing, zseat, zleaking, zcall, zcalled, zreseal, zunlatched⟩ := fields
  rw [← sealing, ← zseat] at seat
  rw [← sealing, ← zleaking] at leaking
  rw [← zcall, ← zcalled] at call
  rw [← sealing, ← zcalled] at called
  rw [← sealing, ← zreseal] at reseal
  rw [← sealing, ← zunlatched] at unlatched
  rw [← sealing]
  clear sealing zseat zleaking zcall zcalled zreseal zunlatched
  cases level
  · cases hs : z.sealing <;> dsimp only
    case unlatchedUnexpected => exact watched.enterSeating
    case off =>
      split
      · exact watched.enterSeating
      · exact (Door.sound_iff _).2 ⟨watched, by simp_all [Door.Timed]⟩
    all_goals exact (Door.sound_iff _).2 ⟨watched, by simp_all [Door.Timed]⟩
  · cases hs : z.sealing <;> dsimp only
    case off | resealing | unlatchedUnexpected => exact (Door.sound_iff _).2 ⟨watched, by simp_all [Door.Timed]⟩
    all_goals
      split
      · exact (Door.sound_iff _).2 ⟨watched, by simp_all [Door.Timed]⟩
      · exact watched.enterUnlatched

/-- A leak level in its range is written and assessed (R79, R80, R88). -/
theorem Door.Sound.level {x : Door} (h : x.Sound) (p1 : BankPart1) {v : Nat} (hv : v ≤ 255) : (x.level p1 v).Sound := by
  obtain ⟨⟨length, levels, watch⟩, timed⟩ := (Door.sound_iff x).1 h
  have watched : ({ x with ring := v :: x.ring.take 7 } : Door).Watched := by
    refine ⟨by simp [length], fun w hw => ?_, watch⟩
    rcases List.mem_cons.1 hw with rfl | hw
    · exact hv
    · exact levels w (List.mem_of_mem_take hw)
  unfold Door.level
  dsimp only
  generalize ({ x with ring := v :: x.ring.take 7 } : Door).mean = avg
  split
  · next hc =>
    obtain ⟨latch, changes⟩ := hc
    have from_to : (x.sealing = .tight ∨ x.sealing = .weeping ∨ x.sealing = .leaking) ∧
        (assess p1 avg x.sealing = .tight ∨ assess p1 avg x.sealing = .weeping ∨ assess p1 avg x.sealing = .leaking) := by
      cases hs : x.sealing <;> rw [hs] at changes <;> simp only [assess] at changes ⊢
      case tight => split <;> simp
      case weeping => split <;> [simp; split <;> simp]
      case leaking => split <;> simp
      all_goals simp at changes
    obtain ⟨hfrom, hto⟩ := from_to
    obtain ⟨seat, leaking, call, called, reseal, unlatched⟩ := timed
    split
    · refine (Door.sound_iff _).2 ⟨watched, ?_⟩
      unfold Door.Timed
      rcases hfrom with hs | hs | hs <;> simp_all
    · have seat' : x.seat = none := by by_contra hc; rcases hfrom with hs | hs | hs <;> simp [hs] at seat <;> exact hc seat
      have reseal' : x.reseal = none := by by_contra hc; rcases hfrom with hs | hs | hs <;> simp [hs] at reseal <;> exact hc reseal
      have unlatched' : x.unlatched = false := by
        rcases hfrom with hs | hs | hs <;> simpa [hs] using unlatched
      refine Door.Watched.plain (x := { ({ x with ring := v :: x.ring.take 7 } : Door).endEpisode with sealing := assess p1 avg x.sealing })
        watched ?_ seat' rfl rfl rfl reseal' unlatched'
      rcases hto with hs | hs | hs
      · simp [hs]
      · simp [hs]
      · exact absurd hs ‹_›
  · exact (Door.sound_iff _).2 ⟨watched, timed⟩

/-- A running seat timer ends in TIGHT (R81). -/
theorem Door.Sound.seated {x : Door} (h : x.Sound) (hs : x.seat ≠ none) : ({ x with sealing := .tight, seat := none } : Door).Sound := by
  obtain ⟨watched, seat, leaking, call, called, reseal, unlatched⟩ := (Door.sound_iff x).1 h
  obtain ⟨seating, -⟩ := seat.1 hs
  refine (Door.sound_iff _).2 ⟨watched, ?_⟩
  unfold Door.Timed
  simp_all

/-- A running leaking timer ends in a call (R88). -/
theorem Door.Sound.leaked {x : Door} (h : x.Sound) (hl : x.leaking ≠ none) : ({ x with leaking := none, called := true } : Door).Sound := by
  obtain ⟨watched, seat, leaking, call, called, reseal, unlatched⟩ := (Door.sound_iff x).1 h
  obtain ⟨sealing, -⟩ := leaking hl
  refine (Door.sound_iff _).2 ⟨watched, ?_⟩
  unfold Door.Timed
  simp_all

/-- A call of the episode starts the call timer (R88). -/
theorem Door.Sound.calling {x : Door} (h : x.Sound) (hc : x.called = true) : ({ x with call := some 0 } : Door).Sound := by
  obtain ⟨watched, seat, leaking, -, called, reseal, unlatched⟩ := (Door.sound_iff x).1 h
  exact (Door.sound_iff _).2 ⟨watched, seat, leaking, fun _ => hc, called, reseal, unlatched⟩

theorem Door.Sound.resealing {x : Door} (h : x.Sound) (hr : x.reseal ≠ none) (t : Nat) : ({ x with reseal := some t } : Door).Sound := by
  obtain ⟨watched, seat, leaking, call, called, reseal, unlatched⟩ := (Door.sound_iff x).1 h
  exact (Door.sound_iff _).2 ⟨watched, seat, leaking, call, called, ⟨fun _ => reseal.1 hr, nofun⟩, unlatched⟩

/-- A timer runs on and does not start. -/
theorem runTimer_ne_none (d limit : Nat) (t : Option Nat) : runTimer d limit t ≠ none ↔ t ≠ none := by cases t <;> simp [runTimer]

theorem Door.Sound.elapse {x : Door} (h : x.Sound) (d : Nat) (stopped : Bool) (p1 : BankPart1) : (x.elapse d stopped p1).Sound := by
  obtain ⟨⟨ring, levels, watch⟩, seat, leaking, call, called, reseal, unlatched⟩ := (Door.sound_iff x).1 h
  have run := runTimer_ne_none d
  refine (Door.sound_iff _).2 ⟨⟨ring, levels, fun hm => ?_⟩, (run _ _).trans seat, fun hl => leaking ((run _ _).1 hl),
    fun hc => call ((run _ _).1 hc), called, ?_, unlatched⟩
  · have := watch hm
    simpa [Door.elapse] using this
  · refine Iff.trans ?_ reseal
    unfold Door.elapse
    dsimp only
    split
    · exact Iff.rfl
    · exact run _ _

theorem Door.fresh_sound (latch : Latch) : (Door.fresh latch).Sound := by
  cases latch <;> simp [Door.Sound, Door.fresh, leakRingEmpty]

/-! ## Entries of the station table (R24, R26) -/

/-- The ranges of an entry of the station table. -/
def Entry.Ranged (e : Entry) : Prop := e.missed ≤ 3 ∧ e.age ≤ 65535 ∧ (e.presence = .present → e.missed ≤ 2)

theorem Entry.reset_ranged : Entry.reset.Ranged := by simp [Entry.Ranged, Entry.reset, Config.ageMax]

theorem Entry.Ranged.counted {e : Entry} (h : e.Ranged) (present attention : Bool) : (e.counted present attention).Ranged := by
  obtain ⟨missed, age, short⟩ := h
  unfold Entry.counted Entry.Ranged
  cases hp : e.presence <;> cases present <;> dsimp only
  case present.false =>
    have := short hp
    refine ⟨by omega, age, fun hq => ?_⟩
    split at hq
    · cases hq
    · omega
  all_goals simp_all

theorem Entry.Ranged.announced {e : Entry} (h : e.Ranged) (p : Payload) (t : Trailer) (joining : Bool) : (e.announced p t joining).Ranged :=
  ⟨h.1, Nat.zero_le _, h.2.2⟩

theorem Entry.Ranged.elapse {e : Entry} (h : e.Ranged) (d : Nat) : (e.elapse d).Ranged := ⟨h.1, Nat.min_le_right _ _, h.2.2⟩

end Sys2Proof.Machine
end

section
/-! What each shared operation does to the station table, the reseal records and the records of a bank: it keeps their ranges. -/

namespace Sys2Proof.Machine

/-- Sound tables stay sound from s to t, and so do sound records of a bank. -/
def State.Kept (s t : State) : Prop := (s.TablesSound → t.TablesSound) ∧ (s.BankSound → t.BankSound)

theorem State.Kept.trans {s t u : State} (h1 : s.Kept t) (h2 : t.Kept u) : s.Kept u :=
  ⟨fun h => h2.1 (h1.1 h), fun h => h2.2 (h1.2 h)⟩

/-- What the two invariants do not speak of may change. -/
theorem State.kept_of_same {s t : State} (h : t.table = s.table ∧ t.claims.reseals = s.claims.reseals ∧ t.bank = s.bank) : s.Kept t := by
  obtain ⟨table, reseals, bank⟩ := h
  unfold State.Kept State.TablesSound State.BankSound
  rw [table, reseals, bank]
  exact ⟨id, id⟩

theorem State.kept_refl (s : State) : s.Kept s := kept_of_same ⟨rfl, rfl, rfl⟩

theorem State.Kept.same {s t u : State} (h : s.Kept t) (hu : u.table = t.table ∧ u.claims.reseals = t.claims.reseals ∧ u.bank = t.bank) :
    s.Kept u := h.trans (kept_of_same hu)

theorem State.Kept.report {s t : State} (h : s.Kept t) (r : Report) : s.Kept (t.report r) := h.same ⟨rfl, rfl, rfl⟩

theorem State.Kept.reportIf {s t : State} (h : s.Kept t) (b : Bool) (r : Report) : s.Kept (t.reportIf b r) := h.same (by simp)

theorem State.Kept.reportOven {s t : State} (h : s.Kept t) (i : Nat) (o : OvenState) : s.Kept (t.reportOven i o) := h.same (by simp)

theorem State.Kept.offer {s t : State} (h : s.Kept t) (b : Body) (l : Bool := false) : s.Kept (t.offer b l) := h.same (by simp)

theorem State.Kept.withdrawLate {s t : State} (h : s.Kept t) (c : Nat) (b : Bool) : s.Kept (t.withdrawLate c b) := h.same (by simp)

theorem State.Kept.changePlan {s t : State} (h : s.Kept t) (f : Plan → Plan) : s.Kept (t.changePlan f) := h.same ⟨rfl, rfl, rfl⟩

theorem State.Kept.makeChoice {s t : State} (h : s.Kept t) : s.Kept t.makeChoice := h.same (by simp)

theorem State.Kept.compareReady {s t : State} (h : s.Kept t) : s.Kept t.compareReady := h.same (by simp)

theorem State.Kept.clearRevoke {s t : State} (h : s.Kept t) : s.Kept t.clearRevoke := h.same ⟨rfl, rfl, rfl⟩

theorem State.Kept.abandonWithdrawn {s t : State} (h : s.Kept t) : s.Kept t.abandonWithdrawn := h.same (by simp)

theorem State.Kept.answer {s t : State} (h : s.Kept t) (r : Result) (d : Nat := 0) (v : List Byte := []) : s.Kept (t.answer r d v) :=
  h.same (by simp)

theorem State.Kept.clearWanted {s t : State} (h : s.Kept t) : s.Kept t.clearWanted := h.same ⟨rfl, rfl, rfl⟩

theorem State.Kept.offerRevoke {s t : State} (h : s.Kept t) : s.Kept t.offerRevoke := h.same (by simp)

theorem State.Kept.planClaimEnds {s t : State} (h : s.Kept t) (n : Nat) (x : StageSet) (how : ClaimEnd) : s.Kept (t.planClaimEnds n x how) :=
  h.same (by simp)

theorem State.Kept.carClaimEnds {s t : State} (h : s.Kept t) (how : ClaimEnd) : s.Kept (t.carClaimEnds how) := h.same (by simp)

/-- A choice of two operations. -/
theorem State.kept_ite {s t u : State} {c : Prop} [Decidable c] (ht : c → s.Kept t) (hu : ¬c → s.Kept u) : s.Kept (if c then t else u) := by
  split
  · exact ht ‹_›
  · exact hu ‹_›

theorem State.foldl_kept {α : Type} (f : State → α → State) (h : ∀ (s : State) x, s.Kept (f s x)) (l : List α) (s : State) :
    s.Kept (l.foldl f s) := by
  induction l generalizing s with
  | nil => exact kept_refl s
  | cons x l ih => exact (h s x).trans (ih _)

/-! ## Records by place -/

/-- A property of every entry of a list is kept where the entry at one place changes and keeps it. -/
theorem forall_mem_modify {α : Type} {P : α → Prop} {l : List α} {i : Nat} {f : α → α} (h : ∀ x ∈ l, P x)
    (hf : ∀ x, l[i]? = some x → P x → P (f x)) : ∀ x ∈ l.modify i f, P x := by
  intro x hx
  obtain ⟨k, hk⟩ := List.mem_iff_getElem?.1 hx
  rw [List.getElem?_modify] at hk
  obtain ⟨y, hy, rfl⟩ := Option.map_eq_some_iff.1 hk
  have := h y (List.mem_iff_getElem?.2 ⟨k, hy⟩)
  split
  · next hi => exact hf y (hi ▸ hy) this
  · exact this

theorem State.setOven_kept (s : State) (i : Nat) (f : Oven → Oven) (hf : ∀ o, s.oven? i = some o → o.Sound → (f o).Sound) :
    s.Kept (s.setOven i f) :=
  ⟨id, fun ⟨ovens, loops, doors, age⟩ => ⟨forall_mem_modify ovens hf, loops, doors, age⟩⟩

theorem State.setLoop_kept (s : State) (i : Nat) (f : Loop → Loop) (hf : ∀ l, s.loop? i = some l → l.Sound → (f l).Sound) :
    s.Kept (s.setLoop i f) :=
  ⟨id, fun ⟨ovens, loops, doors, age⟩ => ⟨ovens, forall_mem_modify loops hf, doors, age⟩⟩

theorem State.setDoor_kept (s : State) (d : Nat) (f : Door → Door) (hf : ∀ x, s.door? d = some x → x.Sound → (f x).Sound) :
    s.Kept (s.setDoor d f) :=
  ⟨id, fun ⟨ovens, loops, doors, age⟩ => ⟨ovens, loops, forall_mem_modify doors hf, age⟩⟩

/-- The records by place, where the bank is sound. -/
theorem State.BankSound.oven {s : State} (h : s.BankSound) {i : Nat} {o : Oven} (ho : s.oven? i = some o) : o.Sound :=
  h.1 o (List.mem_iff_getElem?.2 ⟨i, ho⟩)

theorem State.BankSound.loop {s : State} (h : s.BankSound) {i : Nat} {l : Loop} (hl : s.loop? i = some l) : l.Sound :=
  h.2.1 l (List.mem_iff_getElem?.2 ⟨i, hl⟩)

theorem State.BankSound.door {s : State} (h : s.BankSound) {d : Nat} {x : Door} (hx : s.door? d = some x) : x.Sound :=
  h.2.2.1 x (List.mem_iff_getElem?.2 ⟨d, hx⟩)

/-- A change of the bank alone may use that its records are sound. -/
theorem State.kept_of_bank {s t : State} (table : t.table = s.table) (reseals : t.claims.reseals = s.claims.reseals)
    (h : s.BankSound → s.Kept t) : s.Kept t :=
  ⟨fun hs => by unfold State.TablesSound at *; rwa [table, reseals], fun hs => (h hs).2 hs⟩

theorem State.setLoop_owed_kept (s : State) (i : Nat) : s.Kept (s.setLoop i fun l => { l with owed := false }) :=
  s.setLoop_kept i _ fun _ _ h => h.owing false

/-! ## Oven unit -/

theorem State.putOven_kept (s : State) (i : Nat) (o : Oven) (h : s.BankSound → o.Ranged) : s.Kept (s.putOven i o) := by
  refine kept_of_bank (by simp) (by simp) fun hs => ?_
  unfold State.putOven
  split
  · exact kept_refl s
  · exact (s.setOven_kept i _ fun _ _ _ => (h hs).withCauses).reportIf _ _ |>.reportIf _ _

theorem State.enterOven_kept (s : State) (i : Nat) (new : OvenState) : s.Kept (s.enterOven i new) := by
  unfold State.enterOven
  split
  · next p _ o _ ho =>
    refine (s.putOven_kept i _ fun hs => ?_).reportOven i _
    have entered := (hs.oven ho).enter p new
    split
    · next hn => exact entered.heldFrom ((o.enter_state p new).trans hn.1) _
    · exact entered
  · exact kept_refl s

theorem State.tickOven_kept (p : BankPart0) (s : State) (i : Nat) : s.Kept (s.tickOven p i) := by
  unfold State.tickOven
  split
  · exact kept_refl s
  · next o ho =>
    refine State.Kept.trans ?_ (setOven_kept _ i _ fun _ _ h => h.tickStamp)
    have put := s.putOven_kept i (o.tickReadiness p) fun hs => (hs.oven ho).tickReadiness p
    exact kept_ite (fun _ => put) fun _ => put.same (by simp)

theorem State.heldLatch_kept (s : State) (i : Nat) (level : Latch) : s.Kept (s.heldLatch i level) := by
  unfold State.heldLatch
  split
  · next o ho =>
    refine kept_ite (fun hh => ?_) fun _ => kept_refl s
    have held (x : Option Nat) : s.Kept (s.setOven i fun o => { o with held := x }) := by
      refine s.setOven_kept i _ fun o' ho' h => h.heldFrom x fun _ => ?_
      rw [ho] at ho'
      exact Option.some.inj ho' ▸ hh
    exact kept_ite (fun _ => kept_ite (fun _ => held _) fun _ => kept_refl s) fun _ => held _
  · exact kept_refl s

/-! ## Door monitor -/

theorem State.changeDoor_kept (s : State) (d : Nat) (f : Door → Door) (hf : ∀ x, s.door? d = some x → x.Sound → (f x).Sound) :
    s.Kept (s.changeDoor d f) := by
  refine kept_of_bank (by simp) (by simp) fun hs => ?_
  unfold State.changeDoor
  split
  · exact kept_refl s
  · next old hold =>
    have new := hf old hold (hs.door hold)
    refine (((s.setDoor_kept d _ fun _ _ _ => ?_).reportIf _ _).reportIf _ _).reportIf _ _
    split
    · exact new.snapping _ _ _
    · exact new

theorem State.seatDoor_kept (s : State) (d : Nat) : s.Kept (s.seatDoor d) := by
  unfold State.seatDoor
  split
  · exact kept_ite (fun _ => s.changeDoor_kept d _ fun _ _ h => h.watched.enterSeating) fun _ => kept_refl s
  · exact kept_refl s

theorem State.seatDoors_kept (s : State) (i : Nat) : s.Kept (s.seatDoors i) := (s.seatDoor_kept _).trans (seatDoor_kept _ _)

theorem State.endWatches_kept (s : State) (i : Nat) : s.Kept (s.endWatches i) :=
  (s.changeDoor_kept _ _ fun _ _ h => h.claimEnded).trans (changeDoor_kept _ _ _ fun _ _ h => h.claimEnded)

theorem State.freeLatch_kept (s : State) (d : Nat) : s.Kept (s.freeLatch d) := by
  unfold State.freeLatch
  split
  · exact kept_refl s
  · next x hx =>
    refine kept_of_bank (by split <;> simp) (by split <;> simp) fun hs => ?_
    exact kept_ite (fun _ => (s.setDoor_kept d _ fun _ _ _ => (hs.door hx).snapping true x.latch x.sealing).report _)
      fun _ => s.setDoor_kept d _ fun y _ h => h.snapping false y.snapLatch y.snapSeal

theorem State.freeOven_kept (s : State) (i : Nat) : s.Kept (s.freeOven i) := (s.freeLatch_kept _).trans (freeLatch_kept _ _)

theorem State.callReseal_kept (s : State) (d : Nat) (h : ∀ x, s.door? d = some x → x.Sound → x.called = true) : s.Kept (s.callReseal d) :=
  (s.setDoor_kept d _ fun x hx hs => hs.calling (h x hx hs)).offer _

theorem State.doorStage_kept (s : State) (i : Nat) (j : Side) (on : Bool) : s.Kept (s.doorStage i j on) := by
  unfold State.doorStage
  refine kept_ite (fun _ => ?_) fun _ => s.changeDoor_kept _ _ fun _ _ h => h.enterOff
  exact kept_ite (fun _ => (s.seatDoor_kept _).trans (changeDoor_kept _ _ _ fun _ _ h => h.startWatch _)) fun _ => s.seatDoor_kept _

/-! ## Regulator -/

theorem State.offerIsolated_kept (s : State) (i : Nat) : s.Kept (s.offerIsolated i) := by
  unfold State.offerIsolated
  have offered (b : Body) : s.Kept (s.offer b) := kept_of_same (by simp)
  split
  · exact kept_ite (fun _ => kept_ite (fun _ => offered _) fun _ => (offered _).trans (setLoop_owed_kept _ i)) fun _ => kept_refl s
  · exact kept_refl s

theorem State.offerOwed_kept (s : State) (i : Nat) : s.Kept (s.offerOwed i) := by
  unfold State.offerOwed
  split
  · exact kept_ite (fun _ => kept_ite (fun _ => s.offerIsolated_kept i) fun _ => s.setLoop_owed_kept i) fun _ => kept_refl s
  · exact kept_refl s

theorem State.regulatorStep_kept (s : State) (i : Nat) (x : Sample) (hx : -2500 ≤ x.value ∧ x.value ≤ 2498) :
    s.Kept (s.regulatorStep i x) := by
  refine kept_of_bank (by simp) (by simp) fun hs => ?_
  unfold State.regulatorStep
  split
  · next p0 p1 l _ hl =>
    have stepped := (hs.loop hl).step x hx p0 p1 (s.setpoint p0 p1 i) (s.mainDeviation p1)
    have put (b : Bool) := s.setLoop_kept i (fun _ => { (l.write x).step p0 p1 (s.setpoint p0 p1 i) (s.mainDeviation p1) with owed := b })
      fun _ _ _ => stepped.owing b
    refine kept_ite (fun _ => ?_) fun _ => (put _).reportIf _ _
    exact ((put _).reportIf _ _).trans (offerIsolated_kept _ i)
  · exact kept_refl s

/-! ## Reseal records and the end of a claim -/

/-- The reseal records changed without a change of their number. -/
theorem State.setReseals_kept (s : State) (l : List (Option Reseal)) (h : l.length = s.claims.reseals.length) : s.Kept (s.setReseals l) :=
  ⟨fun ⟨length, entries, four⟩ => ⟨length, entries, h.trans four⟩, id⟩

theorem State.leaveResealing_kept (s : State) (d : Nat) : s.Kept (s.changeDoor d Door.leaveResealing) :=
  s.changeDoor_kept d _ fun _ _ h => h.watched.leaveResealing

theorem State.endDoorReseal_kept (s : State) (n : Nat) (j : Side) : s.Kept (s.endDoorReseal n j) := by
  unfold State.endDoorReseal
  split
  · exact s.leaveResealing_kept _
  · exact kept_refl s

theorem State.loseReseal_kept (s : State) (r : Reseal) : s.Kept (s.loseReseal r) := by
  unfold State.loseReseal
  split
  · exact (s.leaveResealing_kept _).report _
  · exact kept_refl s

theorem State.giveUpReseal_kept (s : State) (n : Nat) (j : Side) : s.Kept (s.giveUpReseal n j) := by
  unfold State.giveUpReseal
  split
  · exact ((s.setReseals_kept _ (by simp)).trans (leaveResealing_kept _ _)).report _ |>.offer _
  · exact s.leaveResealing_kept _
  · exact kept_refl s

theorem State.bankClaimEnds_kept (s : State) (n : Nat) (t : StageSet) (how : ClaimEnd) : s.Kept (s.bankClaimEnds n t how) := by
  unfold State.bankClaimEnds
  split
  · exact kept_refl s
  · next i _ =>
    refine State.Kept.trans (State.Kept.trans ?_ (endWatches_kept _ i)) (seatDoors_kept _ i)
    split
    · exact (s.enterOven_kept i _).trans (setLoop_kept _ i _ fun _ _ h => h.afterClaim _)
    · exact State.Kept.trans (kept_of_same (by simp)) (setLoop_owed_kept _ i)

theorem State.endClaim_kept (s : State) (how : ClaimEnd) : s.Kept (s.endClaim how) := by
  unfold State.endClaim
  split
  · exact kept_refl s
  · next c _ =>
    have ended (e : Option Claim) : s.Kept (s.withClaims { s.claims with record := e, retry := none }) := kept_of_same ⟨rfl, rfl, rfl⟩
    have bank := (((ended (some { c with ending := how })).report (c.endReport how)).withdrawLate c.serial how.byAbandon).trans
      (bankClaimEnds_kept _ c.oven c.stages how)
    exact (bank.planClaimEnds _ _ _).clearRevoke.clearWanted.carClaimEnds how

theorem State.bankClaimTaken_kept (s : State) (n : Nat) : s.Kept (s.bankClaimTaken n) := by
  unfold State.bankClaimTaken
  split
  · exact kept_refl s
  · next i _ =>
    refine State.Kept.trans (State.Kept.trans (State.Kept.trans ?_ (giveUpReseal_kept _ n .ps)) (giveUpReseal_kept _ n .cs))
      (seatDoors_kept _ i)
    exact kept_ite (fun _ => (s.enterOven_kept i _).trans (setLoop_kept _ i _ fun _ _ h => h.enterIsolating))
      fun _ => kept_of_same (by simp)

theorem State.bankClaimAdopted_kept (s : State) (n : Nat) (t : StageSet) : s.Kept (s.bankClaimAdopted n t) := by
  unfold State.bankClaimAdopted
  split
  · exact kept_refl s
  · next i _ =>
    refine State.Kept.trans (State.Kept.trans (State.Kept.trans ?_ (giveUpReseal_kept _ n .ps)) (giveUpReseal_kept _ n .cs))
      (seatDoors_kept _ i)
    have unchanged : s.Kept (s.reportOvenUnchanged i) := kept_of_same (by simp)
    have found : s.Kept (if t.isolated = false then
        if (s.oven? i).map Oven.state = some .coking then (s.enterOven i .claimed).setLoop i Loop.enterIsolating else s.reportOvenUnchanged i
      else if (s.oven? i).map Oven.state = some .coking ∨ (s.oven? i).map Oven.state = some .held then
        (s.enterOven i (if t.ramOut then .pushing else .claimed)).setLoop i Loop.adoptIsolated
      else s.reportOvenUnchanged i) :=
      kept_ite
        (fun _ => kept_ite (fun _ => (s.enterOven_kept i _).trans (setLoop_kept _ i _ fun _ _ h => h.enterIsolating)) fun _ => unchanged)
        fun _ => kept_ite (fun _ => (s.enterOven_kept i _).trans (setLoop_kept _ i _ fun _ _ h => h.adoptIsolated)) fun _ => unchanged
    exact kept_ite (fun _ => found.trans (setLoop_owed_kept _ i)) fun _ => found

theorem State.takeClaim_kept (s : State) (n c sender : Nat) (forced : Bool) : s.Kept (s.takeClaim n c sender forced) := by
  have filled (r : Option Claim) : s.dropClaim.Kept (s.dropClaim.withClaims { s.dropClaim.claims with record := r, highest := c, retry := none }) :=
    kept_of_same ⟨rfl, rfl, rfl⟩
  exact ((((s.endClaim_kept _).trans (filled _)).trans (bankClaimTaken_kept _ n)).changePlan _).makeChoice.compareReady

theorem State.adoptTrailer_kept (s : State) (t : Trailer) : s.Kept (s.adoptTrailer t) := by
  unfold State.adoptTrailer
  extract_lets same s1 src s2 s3 s4
  have dropped : s.Kept s1 := kept_ite (fun _ => kept_refl s) fun _ => s.endClaim_kept _
  have filled : s.Kept s2 := dropped.same ⟨rfl, rfl, rfl⟩
  have adopted : s.Kept s3 := (filled.trans (bankClaimAdopted_kept s2 t.oven t.stages)).changePlan _
  have revoked : s.Kept s4 := kept_ite (fun _ => adopted) fun _ => adopted.clearRevoke
  exact kept_ite (fun _ => dropped.same ⟨rfl, rfl, rfl⟩) fun _ => revoked.compareReady

/-! ## Stages -/

theorem State.bankStage_kept (s : State) (n : Nat) (x : Stage) : s.Kept (s.bankStage n x) := by
  unfold State.bankStage
  split
  · exact kept_refl s
  · next i _ =>
    cases x
    case isolated => exact s.setLoop_owed_kept i
    case psDoorOff | csDoorOff | psDoorOn | csDoorOn => exact s.doorStage_kept _ _ _
    case ramOut => exact kept_ite (fun _ => s.enterOven_kept i _) fun _ => kept_refl s
    all_goals exact kept_refl s

theorem State.applyStage_kept (s : State) (c : Claim) (x : Stage) (revoke : Bool) : s.Kept (s.applyStage c x revoke) := by
  unfold State.applyStage
  extract_lets t s1 s2 s3
  have seen : s.Kept s1 := kept_of_same (by simp [s1])
  have staged : s.Kept s2 := kept_ite (fun _ => seen) fun _ => seen.trans (bankStage_kept _ _ _)
  have told : s.Kept s3 := staged.same (by simp [s3])
  exact kept_ite (fun _ => told.trans (endClaim_kept _ _)) fun _ => told

/-! ## The life of a station -/

theorem State.emptyClaims_kept (s : State) : s.Kept s.emptyClaims := by
  have lost : s.dropClaim.Kept (s.dropClaim.openReseals.foldl State.loseReseal s.dropClaim) := foldl_kept _ loseReseal_kept _ _
  have emptied : s.dropClaim.Kept s.dropClaim.emptyReseals :=
    lost.trans ⟨fun ⟨length, entries, _⟩ => ⟨length, entries, rfl⟩, id⟩
  exact ((s.endClaim_kept _).trans emptied).same ⟨rfl, rfl, rfl⟩

theorem State.leaveBlocks_kept (s : State) : s.Kept s.leaveBlocks :=
  State.Kept.trans (t := (s.withQueue []).changeLine Line.off) (kept_of_same ⟨rfl, rfl, rfl⟩)
    ((emptyClaims_kept _).same (by simp [State.leaveBlocks]))

/-- A new station table of 32 entries in their ranges. -/
theorem State.withTable_kept (s : State) (l : List Entry) (length : s.table.length = 32 → l.length = 32)
    (entries : (∀ e ∈ s.table, e.Ranged) → ∀ e ∈ l, e.Ranged) : s.Kept (s.withTable l) :=
  ⟨fun ⟨hl, he, hr⟩ => ⟨length hl, entries he, hr⟩, id⟩

theorem State.enterOffLine_kept (s : State) : s.Kept s.enterOffLine := by
  unfold State.enterOffLine
  extract_lets s1 s2 s3
  have left : s.Kept s2 := State.Kept.trans (t := s1) (kept_of_same ⟨rfl, rfl, rfl⟩) (leaveBlocks_kept s1)
  have cleared : s2.Kept (s2.withTable (List.replicate 32 .reset)) :=
    s2.withTable_kept _ (fun _ => by simp) fun _ e he => (List.eq_of_mem_replicate he) ▸ Entry.reset_ranged
  have told : s.Kept s3 := (left.trans cleared).same (by simp [s3])
  exact kept_ite (fun _ => told.same (by simp)) fun _ => told

theorem State.enterConflict_kept (s : State) (c : Cause) : s.Kept (s.enterConflict c) := by
  have entered (f : Life → Life) : s.Kept (s.changeLife f) := kept_of_same ⟨rfl, rfl, rfl⟩
  exact (((entered _).report _).trans (leaveBlocks_kept _)).abandonWithdrawn

theorem State.retryLater_kept (s : State) (b : Body) : s.Kept (s.retryLater b) := by
  unfold State.retryLater State.retryAbandon
  repeat' split
  all_goals exact kept_of_same (by simp)

theorem State.enterListenOnly_kept (s : State) : s.Kept s.enterListenOnly := by
  unfold State.enterListenOnly
  extract_lets bodies s1 s2
  have told : s.Kept s2 := kept_of_same (by simp [s1, s2])
  exact (told.trans (foldl_kept _ retryLater_kept bodies s2)).same (by simp)

theorem State.enterJoining_kept (s : State) : s.Kept s.enterJoining := by
  refine State.Kept.same (t := s.withTable (s.table.set s.straps.id (s.ownEntry (s.entry s.straps.id)))) ?_
    (by simp [State.enterJoining])
  refine s.withTable_kept _ (fun h => by simpa using h) fun h e he => ?_
  rcases List.mem_or_eq_of_mem_set he with he | rfl
  · exact h e he
  · have : (s.entry s.straps.id).Ranged := by
      unfold State.entry
      cases hx : s.table[s.straps.id]? with
      | none => exact Entry.reset_ranged
      | some x => exact h x (List.mem_iff_getElem?.2 ⟨_, hx⟩)
    exact this

theorem State.enterOnLine_kept (s : State) : s.Kept s.enterOnLine := by
  unfold State.enterOnLine
  extract_lets s1 s2
  have told : s.Kept s2 := kept_of_same (by simp [s1, s2])
  exact (told.trans (foldl_kept _ offerOwed_kept _ s2)).offerRevoke.compareReady

end Sys2Proof.Machine
end

section
/-! What the outcome of a window and the passage of time do to the station table, the reseal records and the records of a bank. -/

namespace Sys2Proof.Machine

/-! ## Taken frames -/

/-- An entry of the station table changed within its ranges. -/
theorem State.setEntry_kept (s : State) (id : Nat) (f : Entry → Entry) (hf : ∀ e : Entry, e.Ranged → (f e).Ranged) :
    s.Kept (s.setEntry id f) :=
  s.withTable_kept _ (fun h => by simpa using h) fun h => forall_mem_modify h fun e _ he => hf e he

theorem State.entryTaken_kept (s : State) (f : Frame) : s.Kept (s.entryTaken f) := by
  unfold State.entryTaken State.entryAnnounced
  split
  · refine kept_ite (fun _ => (s.setEntry_kept _ _ fun _ _ => Entry.reset_ranged).report _) fun _ => ?_
    exact (s.setEntry_kept _ _ fun _ he => he.announced _ _ _).reportIf _ _
  · exact s.setEntry_kept _ _ fun _ he => he

theorem countTable_ranged {field : List Byte} {l : List Entry} (h : ∀ e ∈ l, e.Ranged) : ∀ e ∈ countTable field l, e.Ranged := by
  intro e he
  obtain ⟨i, hi, rfl⟩ := List.mem_mapIdx.1 he
  exact (h _ (List.getElem_mem hi)).counted _ _

theorem State.censusTaken_kept (s : State) (field : List Byte) : s.Kept (s.censusTaken field) := by
  unfold State.censusTaken
  extract_lets table s1 s2 count s3
  have counted : s.Kept (s.withTable table) :=
    s.withTable_kept _ (fun h => by simpa [table, countTable] using h) countTable_ranged
  have told : s.Kept s2 := counted.same (by simp [s1, s2])
  have joins : s.Kept s3 := told.same ⟨rfl, rfl, rfl⟩
  exact kept_ite (fun _ => kept_ite (fun _ => joins.trans (enterOnLine_kept s3)) fun _ => joins) fun _ => told

theorem State.announceTaken_kept (s : State) (f : Frame) (p : Payload) (t : Trailer) : s.Kept (s.announceTaken f p t) := by
  have checked : s.Kept (s.duplicateCheck f p) := by
    unfold State.duplicateCheck
    refine kept_ite (fun _ => kept_refl s) fun _ => ?_
    split
    · exact kept_ite (fun _ => s.enterConflict_kept _) fun _ => (kept_refl s).report _
    · exact kept_refl s
  have adopted (u : State) : u.Kept (u.adoptClaim f t) := by
    unfold State.adoptClaim
    refine kept_ite (fun _ => kept_ite (fun _ => (u.adoptTrailer_kept t).same ⟨rfl, rfl, rfl⟩) fun _ => ?_) fun _ => kept_refl u
    exact kept_ite (fun _ => kept_refl u) fun _ => u.adoptTrailer_kept t
  exact kept_ite (fun _ => (checked.trans (adopted _)).same (u := State.followPusher _ f p) (by simp)) fun _ => checked

theorem State.chargedTaken_kept (s : State) (n : Nat) : s.Kept (s.chargedTaken n) := by
  unfold State.chargedTaken
  split
  · next i _ =>
    refine kept_ite (fun _ => ?_) fun _ => kept_of_same (by simp)
    have emptied : s.Kept (s.setOven i fun o => { o with credit := 0, stamp := 0 }) := by
      refine s.setOven_kept i _ fun o _ h => ?_
      obtain ⟨-, minutes, -, age, temp, overcoked, faulted, idle, -, held⟩ := h
      exact ⟨Nat.zero_le _, minutes, Nat.zero_le _, age, temp, overcoked, faulted, idle, fun _ => ⟨rfl, rfl⟩, held⟩
    exact (emptied.trans (enterOven_kept _ i _)).trans (setLoop_kept _ i _ fun _ _ h => h.enterCharge)
  · exact kept_refl s

theorem State.resealClaimTaken_kept (s : State) (sender n side r : Nat) : s.Kept (s.resealClaimTaken sender n side r) := by
  unfold State.resealClaimTaken
  extract_lets src s1
  have highest : s.Kept s1 := kept_of_same ⟨rfl, rfl, rfl⟩
  have recorded (j : Side) : s1.Kept (s1.recordReseal sender n j r) := by
    unfold State.recordReseal
    extract_lets k x s2
    have put : s1.Kept s2 := s1.setReseals_kept _ (by simp)
    split
    · exact kept_ite (fun _ => put.trans (loseReseal_kept _ _)) fun _ => put
    · exact put
  have resealing (u : State) (j : Side) : u.Kept (u.doorResealing n j) := by
    unfold State.doorResealing
    split
    · exact u.changeDoor_kept _ _ fun _ _ h => h.watched.enterResealing
    · exact kept_refl u
  split
  · next j _ =>
    have entered := (highest.trans (recorded j)).trans (resealing _ j)
    exact kept_ite (fun _ => entered.same ⟨rfl, rfl, rfl⟩) fun _ => entered
  · exact highest

theorem State.resealDoneTaken_kept (s : State) (r outcome : Nat) : s.Kept (s.resealDoneTaken r outcome) := by
  unfold State.resealDoneTaken
  extract_lets s0 s1 src s2
  have settled : s.Kept s1 := (kept_of_same ⟨rfl, rfl, rfl⟩ : s.Kept s0).trans (s0.setReseals_kept _ (by simp))
  have seen : s.Kept s2 := kept_ite (fun _ => settled.same ⟨rfl, rfl, rfl⟩) fun _ => settled
  split
  · next how _ =>
    have one (u : State) (x : Reseal) : u.Kept (u.endReseal x how) := (u.endDoorReseal_kept _ _).report _
    exact (seen.trans (s2.setReseals_kept _ (by simp))).trans (foldl_kept (fun t x => t.endReseal x how) one _ _)
  · exact seen

theorem State.stageTaken_kept (s : State) (n c x : Nat) (revoke : Bool) : s.Kept (s.stageTaken n c x revoke) := by
  unfold State.stageTaken
  split
  · exact s.applyStage_kept _ _ _
  · exact kept_refl s

theorem State.abandonTaken_kept (s : State) (n c cause : Nat) : s.Kept (s.abandonTaken n c cause) := by
  unfold State.abandonTaken
  extract_lets s1
  have left : s.Kept s1 := kept_of_same ⟨rfl, rfl, rfl⟩
  exact kept_ite (fun _ => left.trans (endClaim_kept _ _)) fun _ => left

/-- A main pressure record that is fresh (R60, R62). -/
theorem State.freshMain_kept (s : State) (m : Option MainRecord) : s.Kept (s.withBank { s.bank with main := m, mainAge := 0 }) :=
  ⟨id, fun ⟨ovens, loops, doors, _⟩ => ⟨ovens, loops, doors, Nat.zero_le _⟩⟩

theorem State.mainPressureTaken_kept (s : State) (p : Int) (q : Nat) : s.Kept (s.mainPressureTaken p q) := by
  unfold State.mainPressureTaken
  split
  · exact kept_ite (fun _ => kept_refl s) fun _ => s.freshMain_kept _
  · exact kept_refl s

theorem State.kindTaken_kept (s : State) (f : Frame) (census : List Byte) : s.Kept (s.kindTaken f census) := by
  unfold State.kindTaken
  cases f.body with
  | census => exact s.censusTaken_kept _
  | announce p t => exact s.announceTaken_kept _ _ _
  | mainPressure p q => exact s.mainPressureTaken_kept _ _
  | charged n => exact s.chargedTaken_kept _
  | pushClaim n c forced => exact s.takeClaim_kept _ _ _ _
  | pushStage n c x r => exact s.stageTaken_kept _ _ _ _
  | pushAbandon n c a => exact s.abandonTaken_kept _ _ _
  | resealCall n j => exact kept_of_same (by simp)
  | resealClaim n j r => exact s.resealClaimTaken_kept _ _ _ _
  | resealDone n j r o => exact s.resealDoneTaken_kept _ _
  | stopNote a r => exact kept_of_same (by simp)
  | resume r => exact kept_of_same (by simp)

theorem State.frameTaken_kept (s : State) (f : Frame) (census : List Byte) : s.Kept (s.frameTaken f census) :=
  ((s.entryTaken_kept f).same (u := State.adoptStopped _ f) (by simp)).trans (kindTaken_kept _ _ _)

/-! ## The frame in flight and the end of the window -/

theorem State.afterThird_kept (s : State) (b : Body) : s.Kept (s.afterThird b) := by
  unfold State.afterThird
  cases b with
  | pushStage n c x r =>
    refine kept_ite (fun _ => ?_) fun _ => kept_ite (fun _ => ?_) fun _ => kept_ite (fun _ => kept_of_same (by simp)) fun _ => kept_refl s
    · split
      · exact s.setLoop_owed_kept _
      · exact kept_refl s
    · have unwanted : s.Kept (if s.unwantedRevoke (.pushStage n c x r) then s.clearWanted else s) :=
        kept_ite (fun _ => (kept_refl s).clearWanted) fun _ => kept_refl s
      exact kept_ite (fun _ => kept_ite (fun _ => unwanted.same ⟨rfl, rfl, rfl⟩) fun _ => unwanted.clearRevoke) fun _ => unwanted
  | pushAbandon n c a => unfold State.retryAbandon; exact kept_ite (fun _ => kept_of_same ⟨rfl, rfl, rfl⟩) fun _ => kept_refl s
  | _ => exact kept_refl s

theorem State.ownRetried_kept (s : State) (e : QueueEntry) : s.Kept (s.ownRetried e) := by
  unfold State.ownRetried
  refine kept_ite (fun _ => kept_of_same (by simp)) fun _ => kept_ite (fun _ => ?_) fun _ => ?_
  · refine kept_of_same ?_
    dsimp only
    repeat' split
    all_goals simp
  · exact State.Kept.trans (kept_of_same (by simp)) (afterThird_kept _ _)

/-- The leaving announce of this station has ended its window or has been cut: entry to OFF_LINE (R22). -/
theorem State.dropped_offLine_kept (s : State) : s.Kept s.dropInFlight.enterOffLine :=
  State.Kept.trans (kept_of_same ⟨rfl, rfl, rfl⟩) (enterOffLine_kept _)

theorem State.ownOutcome_kept (s : State) (vetoed : Bool) : s.Kept (s.ownOutcome vetoed) := by
  unfold State.ownOutcome
  split
  · next e _ =>
    refine kept_ite (fun _ => ?_) fun _ => ?_
    · unfold State.ownVetoed
      split
      case h_3 => exact kept_ite (fun _ => s.dropped_offLine_kept) fun _ => kept_of_same ⟨rfl, rfl, rfl⟩
      case h_7 | h_8 | h_9 | h_10 | h_11 | h_12 => exact s.ownRetried_kept e
      all_goals exact kept_of_same (by first | (split <;> simp) | simp)
    · unfold State.ownTaken
      extract_lets s1
      split
      case h_6 => exact kept_ite (fun _ => s.dropped_offLine_kept) fun _ => kept_of_same ⟨rfl, rfl, rfl⟩
      all_goals exact kept_of_same (by first | (split <;> simp [s1]) | simp [s1])
  · exact kept_refl s

theorem State.counters_kept (s : State) (fault : Bool) : s.Kept (s.counters fault) := by
  unfold State.counters
  extract_lets s1
  have counted : s.Kept s1 := kept_of_same ⟨rfl, rfl, rfl⟩
  exact kept_ite (fun _ => counted.trans (enterListenOnly_kept s1))
    fun _ => kept_ite (fun _ => counted.same (by simp)) fun _ => counted

theorem State.handOn_kept (s : State) (w : Window) (vetoed : Bool) : s.Kept (s.handOn w vetoed) := by
  unfold State.handOn
  split
  · next f _ =>
    have taken : s.Kept (if vetoed then s else s.frameTaken f w.census) := kept_ite (fun _ => kept_refl s) fun _ => s.frameTaken_kept f _
    exact kept_ite (fun _ => taken.same (u := State.othersOutcome _ w.own f w.verdict vetoed) (by simp)) fun _ => kept_refl s
  · exact kept_refl s

theorem State.conclude_kept (s : State) (w : Window) (vetoed : Bool) : s.Kept (s.conclude w vetoed) := by
  unfold State.conclude
  extract_lets s1 s2
  have closed : s.Kept (s.changeLine Line.closed) := kept_of_same ⟨rfl, rfl, rfl⟩
  have handed : s.Kept s1 := closed.trans (handOn_kept _ _ _)
  have told : s.Kept s2 := kept_ite (fun _ => handed.trans (ownOutcome_kept s1 vetoed)) fun _ => handed
  refine (told.trans (counters_kept s2 w.fault)).trans ?_
  unfold State.clashCheck
  exact kept_ite (fun _ => enterConflict_kept _ _) fun _ => kept_refl _

theorem State.cutInFlight_kept (s : State) : s.Kept s.cutInFlight := by
  unfold State.cutInFlight
  split
  · next e _ =>
    unfold State.ownCut
    split
    case h_3 => exact kept_ite (fun _ => s.dropped_offLine_kept) fun _ => kept_of_same ⟨rfl, rfl, rfl⟩
    all_goals exact kept_of_same (by first | (split <;> simp) | simp)
  · exact kept_refl s

theorem State.unblock_kept (s : State) (vto : Bool) : s.Kept (s.unblock vto) := by
  unfold State.unblock State.reportUnblocked
  have line (u : State) : u.Kept (if u.line.state = .off then u else u.reportLife) :=
    kept_ite (fun _ => kept_refl u) fun _ => (kept_refl u).report _
  split
  · exact (s.conclude_kept _ _).trans (line _)
  · exact State.Kept.trans (t := s.setLine .gap) (kept_of_same ⟨rfl, rfl, rfl⟩) (line _)

/-! ## The passage of time -/

theorem State.elapse_kept (s : State) (d : Nat) : s.Kept (s.elapse d) := by
  refine ⟨fun ⟨length, entries, reseals⟩ => ⟨by simpa [State.elapse] using length, fun e he => ?_, ?_⟩, fun ⟨ovens, loops, doors, age⟩ => ?_⟩
  · obtain ⟨x, hx, rfl⟩ := List.mem_map.1 he
    exact Entry.Ranged.elapse (entries x hx) d
  · simpa [State.elapse, Tracker.elapse] using reseals
  · unfold State.BankSound State.elapse Bank.elapse
    dsimp only
    split
    · exact ⟨ovens, loops, doors, age⟩
    · refine ⟨fun o ho => ?_, fun l hl => ?_, fun x hx => ?_, Nat.min_le_right _ _⟩
      · obtain ⟨y, hy, rfl⟩ := List.mem_map.1 ho
        exact (ovens y hy).elapse _ _
      · obtain ⟨y, hy, rfl⟩ := List.mem_map.1 hl
        exact (loops y hy).elapse _ _
      · obtain ⟨y, hy, rfl⟩ := List.mem_map.1 hx
        exact (doors y hy).elapse _ _ _

theorem State.elapseTo_kept (s : State) (a b : Nat) : s.Kept (s.elapseTo a b) := s.elapse_kept _

/-- What time leaves of a property of the door at a place. -/
theorem State.elapse_door {P : Door → Prop} (hP : ∀ x d b p, P x → P (x.elapse d b p)) {s : State} {d i : Nat} {y : Door}
    (h : ∀ x, s.door? i = some x → P x) (hy : (s.elapse d).door? i = some y) : P y := by
  unfold State.door? State.elapse Bank.elapse at hy
  dsimp only at hy
  split at hy
  · exact h y hy
  · rw [List.getElem?_map] at hy
    obtain ⟨x, hx, rfl⟩ := Option.map_eq_some_iff.1 hy
    exact hP x _ _ _ (h x hx)

/-- What time leaves of a property of the loop at a place. -/
theorem State.elapse_loop {P : Loop → Prop} (hP : ∀ l d c, P l → P (l.elapse d c)) {s : State} {d i : Nat} {y : Loop}
    (h : ∀ l, s.loop? i = some l → P l) (hy : (s.elapse d).loop? i = some y) : P y := by
  unfold State.loop? State.elapse Bank.elapse at hy
  dsimp only at hy
  split at hy
  · exact h y hy
  · rw [List.getElem?_map] at hy
    obtain ⟨x, hx, rfl⟩ := Option.map_eq_some_iff.1 hy
    exact hP x _ _ (h x hx)

end Sys2Proof.Machine
end

section
/-! Each row keeps sound tables and sound records of a bank, and so does every step. -/

namespace Sys2Proof.Machine

/-- Whatever the row answers is kept sound. -/
def State.Answers (s : State) (o : Host.Outcome State Fault Refusal) : Prop := ∀ t, o = .next t → s.Kept t

/-- What a row makes of the station, if anything, is kept sound. -/
def State.Makes (s : State) (after : Option State) : Prop := ∀ t, after = some t → s.Kept t

theorem State.Makes.answers {s : State} {after : Option State} (h : s.Makes after) : s.Answers (s.event after) := by
  intro t ht
  cases after with
  | none => cases ht; exact kept_refl s
  | some u => cases ht; exact (h u rfl).same ⟨rfl, rfl, rfl⟩

theorem State.makes_some {s t : State} (h : s.Kept t) : s.Makes (some t) := fun _ ht => Option.some.inj ht ▸ h

theorem State.makes_none (s : State) : s.Makes none := fun _ h => absurd h (by simp)

theorem State.makes_onlyIf {s t : State} (b : Bool) (h : b = true → s.Kept t) : s.Makes (onlyIf b t) := by
  cases b
  · exact makes_none s
  · exact makes_some (h rfl)

theorem State.makes_map {α : Type} {s : State} (o : Option α) (f : α → State) (h : ∀ x, o = some x → s.Kept (f x)) : s.Makes (o.map f) := by
  cases o with
  | none => exact makes_none s
  | some x => exact makes_some (h x rfl)

theorem State.makes_bind {α : Type} {s : State} (o : Option α) (f : α → Option State) (h : ∀ x, o = some x → s.Makes (f x)) :
    s.Makes (o.bind f) := by
  cases o with
  | none => exact makes_none s
  | some x => exact h x rfl

/-- A change of what the invariants do not speak of. -/
theorem State.makes_same {s t : State} (h : t.table = s.table ∧ t.claims.reseals = s.claims.reseals ∧ t.bank = s.bank) : s.Makes (some t) :=
  makes_some (kept_of_same h)

/-! ## Commands -/

/-- A command keeps the tables and the bank where its own rule does. -/
theorem State.command_answers (s : State) (code : Nat) (widths : List Nat) (roles : List Role) (run : List Byte → State)
    (h : ∀ b, s.Kept (run b)) : s.Answers (s.command code widths roles run) := by
  refine (makes_map _ _ fun c _ => ?_).answers
  have answered (r : Result) (d : Nat) : s.Kept (s.answer r d) := (kept_refl s).answer r d
  split
  · exact answered _ _
  · exact kept_ite (fun _ => h _) fun _ => answered _ _

/-- A command that names an oven of the bank. -/
theorem State.onOven_kept (s : State) (b : List Byte) (run : BankPart0 → Nat → State) (h : ∀ p i, s.Kept (run p i)) :
    s.Kept (s.onOven b run) := by
  unfold State.onOven
  split
  · exact (kept_refl s).answer _
  · split
    · exact (kept_refl s).answer _ _
    · exact h _ _

/-- Bytes spell a number below their place value. -/
theorem natLow_lt (l : List Byte) : natLow l < 256 ^ l.length := by
  induction l with
  | nil => decide
  | cons b l ih =>
    have := b.isLt
    rw [natLow, List.length_cons, pow_succ]
    omega

theorem natAt_lt (b : List Byte) (offset width : Nat) : natAt b offset width < 256 ^ width :=
  lt_of_lt_of_le (natLow_lt _) (Nat.pow_le_pow_right (by decide) (by simp))

theorem State.execSetWallTemp_answers (s : State) : s.Answers (execSetWallTemp s) := by
  refine s.command_answers _ _ _ _ fun b => s.onOven_kept b _ fun p i => State.Kept.answer (s.setOven_kept i _ fun o _ h => ?_) _ _ _
  have range := clampInt_range (intAt b 1 2) (lo := 700) (hi := 1500) (by decide)
  exact h.setWallTemp p (by omega)

theorem State.execRestoreOven_answers (s : State) : s.Answers (execRestoreOven s) := by
  refine s.command_answers _ _ _ _ fun b => s.onOven_kept b _ fun p i => ?_
  have answered (r : Result) (d : Nat := 0) : s.Kept (s.answer r d) := (kept_refl s).answer r d
  split
  · exact answered _ _
  · next new _ =>
    refine kept_ite (fun _ => answered _ _) fun hu => kept_ite (fun _ => answered _) fun hunknown => ?_
    have credit := natAt_lt b 2 3
    have stamp := natAt_lt b 7 2
    have unknown : s.ovenState? i = some .unknown := by
      by_contra hc
      exact hunknown (.inl hc)
    have declared : s.Kept (s.setOven i fun o => { o with credit := natAt b 2 3, stamp := natAt b 7 2 }) := by
      refine s.setOven_kept i _ fun o ho h => ?_
      have state : o.state = .unknown := by
        rw [State.ovenState?, ho] at unknown
        exact Option.some.inj unknown
      obtain ⟨-, minutes, -, age, temp, overcoked, faulted, idle, -, held⟩ := h
      exact ⟨by dsimp only; omega, minutes, by dsimp only; omega, age, temp, overcoked, faulted, idle, by simp [state], held⟩
    have restored := (declared.trans (enterOven_kept _ i new)).trans (setLoop_kept _ i (Loop.restore (natAt b 5 2)
      (if new = .coking then .collect else .isolated)) fun _ _ h => h.restore (by omega) (by split <;> simp))
    exact restored.answer _

theorem State.toIsolated_kept (s : State) (i : Nat) : s.Kept (s.setLoop i Loop.toIsolated) := s.setLoop_kept i _ fun _ _ h => h.toIsolated

theorem State.serviceOut_kept (s : State) (i : Nat) : s.Kept (s.serviceOut i) :=
  (((s.enterOven_kept i _).trans (toIsolated_kept _ i)).trans (seatDoors_kept _ i)).answer _

theorem State.execSetService_answers (s : State) : s.Answers (execSetService s) := by
  refine s.command_answers _ _ _ _ fun b => s.onOven_kept b _ fun p i => ?_
  have answered (r : Result) (d : Nat := 0) : s.Kept (s.answer r d) := (kept_refl s).answer r d
  split
  · exact kept_ite (fun _ => answered _) fun _ => s.serviceOut_kept i
  · exact s.serviceOut_kept i
  · exact s.serviceOut_kept i
  · exact ((s.enterOven_kept i _).trans (toIsolated_kept _ i)).answer _
  all_goals exact answered _ _

theorem State.execSetValve_answers (s : State) : s.Answers (execSetValve s) := by
  refine s.command_answers _ _ _ _ fun b => s.onOven_kept b _ fun p i => ?_
  have answered (r : Result) (d : Nat := 0) : s.Kept (s.answer r d) := (kept_refl s).answer r d
  split
  · have range := clampInt_range (intAt b 2 2) (lo := 0) (hi := 1000) (by decide)
    exact kept_ite (fun _ => (s.setLoop_kept i _ fun _ _ h => h.setManual range).answer _ _ _) fun _ => answered _
  · refine kept_ite (fun hm => (s.setLoop_kept i _ fun l hl h => h.releaseManual ?_).answer _) fun _ => answered _
    rw [hl] at hm
    exact of_decide_eq_true hm
  · exact answered _ _

theorem State.execClearFault_answers (s : State) : s.Answers (execClearFault s) := by
  refine s.command_answers _ _ _ _ fun b => s.onOven_kept b _ fun p i => ?_
  have answered (r : Result) (d : Nat := 0) : s.Kept (s.answer r d) := (kept_refl s).answer r d
  exact kept_ite (fun _ => answered _) fun _ => kept_ite
    (fun _ => (((s.enterOven_kept i _).trans (toIsolated_kept _ i)).trans (seatDoors_kept _ i)).answer _) fun _ => answered _ _

theorem State.execFreeDoorLatch_answers (s : State) : s.Answers (execFreeDoorLatch s) := by
  refine s.command_answers _ _ _ _ fun b => ?_
  exact kept_ite (fun _ => (foldl_kept _ freeOven_kept _ s).answer _) fun _ => s.onOven_kept b _ fun _ i => (s.freeOven_kept i).answer _

/-! ## START and the other commands of all roles -/

theorem Bank.fresh_kept (s : State) (p0 : BankPart0) (p1 : BankPart1) (inputs : BitVec 16) : s.Kept (s.withBank (.fresh p0 p1 inputs)) := by
  refine ⟨id, fun _ => ⟨fun o ho => ?_, fun l hl => ?_, fun x hx => ?_, le_refl _⟩⟩
  · exact (List.eq_of_mem_replicate ho) ▸ Oven.fresh_sound
  · exact (List.eq_of_mem_replicate hl) ▸ Loop.fresh_sound
  · obtain ⟨d, -, rfl⟩ := List.mem_map.1 hx
    exact Door.fresh_sound _

theorem State.accept_kept (s : State) (c : Configuration) (inputs : BitVec 16) : s.Kept (s.accept c inputs) := by
  refine State.Kept.trans ?_ (enterJoining_kept _)
  unfold State.configure
  extract_lets s1
  have held : s.Kept s1 := kept_of_same ⟨rfl, rfl, rfl⟩
  have unlatched (u : State) (d : Nat) : u.Kept (u.unlatchAtStart d) :=
    kept_ite (fun _ => u.changeDoor_kept d _ fun _ _ h => h.watched.enterUnlatched) fun _ => kept_refl u
  split
  · exact (held.trans (Bank.fresh_kept s1 _ _ inputs)).trans (foldl_kept _ unlatched _ _)
  · exact held.same ⟨rfl, rfl, rfl⟩
  · exact held
  · exact held

theorem State.startChecks_kept (s : State) (pass : State) (h : s.Kept pass) : s.Kept (s.startChecks pass) :=
  kept_ite (fun _ => (kept_refl s).answer _ _) fun _ => kept_ite (fun _ => h) fun _ => (kept_refl s).answer _

theorem State.startGate_kept (s : State) (widths : List Nat) (len : Nat) (pass : State) (h : s.Kept pass) :
    s.Kept (s.startGate widths len pass) := by
  unfold State.startGate
  split
  · exact (kept_refl s).answer _ _
  · exact s.startChecks_kept pass h

theorem State.startBody_kept (s : State) (b : List Byte) (inputs : BitVec 16) : s.Kept (s.startBody b inputs) := by
  have answered (r : Result) (d : Nat := 0) : s.Kept (s.answer r d) := (kept_refl s).answer r d
  have none : s.Kept s.startNoPart := s.startChecks_kept _ (answered _ _)
  unfold State.startBody
  split
  · exact answered _ _
  · refine kept_ite (fun _ => ?_) fun _ => kept_ite (fun _ => ?_) fun _ => none
    · refine s.startGate_kept _ _ _ ?_
      dsimp only
      split
      · exact answered _ _
      · exact State.Kept.answer (t := s.withStaged (some (BankPart0.ofBody b))) (kept_of_same ⟨rfl, rfl, rfl⟩) _ _
    · have discarded : s.Kept (s.withStaged Option.none) := kept_of_same ⟨rfl, rfl, rfl⟩
      refine discarded.trans (startGate_kept _ _ _ _ ?_)
      split
      · exact (kept_refl _).answer _
      · dsimp only
        split
        · exact (kept_refl _).answer _ _
        · exact accept_kept _ _ _
  · refine kept_ite (fun _ => s.startGate_kept _ _ _ ?_) fun _ => none
    split
    · exact answered _ _
    · exact s.accept_kept _ _

theorem State.execStart_answers (inputs : BitVec 16) (s : State) : s.Answers (execStart inputs s) :=
  (State.makes_map _ _ fun c _ => s.startBody_kept c.body inputs).answers

theorem State.execRejoin_answers (s : State) : s.Answers (execRejoin s) :=
  s.command_answers _ _ _ _ fun _ => State.kept_ite (fun _ => s.enterJoining_kept) fun _ => (State.kept_refl s).answer _

theorem State.execLeave_answers (s : State) : s.Answers (execLeave s) := by
  refine s.command_answers _ _ _ _ fun _ => ?_
  have online : s.Kept s.leaveOnLine := by
    unfold State.leaveOnLine
    extract_lets b s1
    have held : s.Kept s1 := State.Kept.same ((State.kept_refl s).offer b true) ⟨rfl, rfl, rfl⟩
    exact State.kept_ite (fun _ => held) fun _ => held.trans (State.enterOffLine_kept s1)
  split
  · exact online
  · exact online
  · exact State.Kept.trans (t := s.holdLeave) (State.kept_of_same ⟨rfl, rfl, rfl⟩) (State.enterOffLine_kept _)
  all_goals exact (State.kept_refl s).answer _

end Sys2Proof.Machine
end

section
/-! The rows that move the tables or the bank: the line's windows, the timers, and the rows of a bank. -/

namespace Sys2Proof.Machine

/-! ## Rows of the battery line -/

theorem State.Kept.recordVeto {s t : State} (h : s.Kept t) (w : Window) (c : Cause) : s.Kept (t.recordVeto w c) := by
  unfold State.recordVeto
  extract_lets v
  exact (h.same ⟨rfl, rfl, rfl⟩ : s.Kept (t.withClaims { t.claims with veto := some v })).reportIf _ _

theorem State.releaseHold_kept (s : State) (w : Window) : s.Kept (s.releaseHold w) := by
  unfold State.releaseHold
  refine kept_ite (fun _ => ?_) fun _ => kept_refl s
  split
  · exact kept_refl s
  · exact kept_of_same ⟨rfl, rfl, rfl⟩
  · refine State.Kept.recordVeto ?_ _ _
    exact kept_of_same ⟨rfl, rfl, rfl⟩

theorem State.putWindow_kept (s : State) (w : Window) : s.Kept (s.putWindow w) :=
  State.Kept.trans (t := s.changeWindow fun _ => w) (kept_of_same ⟨rfl, rfl, rfl⟩) (releaseHold_kept _ w)

theorem State.reachHoldTimeout_kept (s : State) (w : Window) : s.Kept (s.reachHoldTimeout w) := by
  have holds (u : State) (x : Window) : u.Kept (u.holdTimeout x) := by
    refine kept_ite (fun _ => State.Kept.recordVeto ?_ _ _) fun _ => ?_
    all_goals exact kept_of_same ⟨rfl, rfl, rfl⟩
  exact (s.elapseTo_kept _ _).trans (holds _ _)

theorem State.openWindow_kept (s : State) (w : Window) : s.Kept (s.openWindow w) := by
  unfold State.openWindow
  extract_lets j s1
  have opened : s.Kept s1 := kept_of_same ⟨rfl, rfl, rfl⟩
  split
  · exact opened.same ⟨rfl, rfl, rfl⟩
  · exact opened

theorem State.windowBlocked_kept (s : State) (w : Window) : s.Kept (s.windowBlocked w) := by
  unfold State.windowBlocked
  extract_lets s1
  have reached : s.Kept s1 :=
    kept_ite (fun _ => kept_refl s) fun _ => kept_ite (fun _ => s.reachHoldTimeout_kept w) fun _ => kept_of_same ⟨rfl, rfl, rfl⟩
  exact reached.trans (elapseTo_kept s1 _ _)

theorem State.execFrameEnd_answers (rx : Reception) (s : State) : s.Answers (execFrameEnd rx s) := by
  refine State.Makes.answers ?_
  split
  · exact makes_onlyIf _ fun _ => s.openWindow_kept _
  · exact makes_some (s.openWindow_kept _)
  all_goals exact makes_none s

theorem State.execSettleOutcome_answers (vto : Bool) (s : State) : s.Answers (execSettleOutcome vto s) := by
  refine State.Makes.answers ?_
  split
  · exact makes_onlyIf _ fun _ => s.conclude_kept _ _
  · exact makes_onlyIf _ fun _ => kept_of_same ⟨rfl, rfl, rfl⟩

theorem State.execLineBlocked_answers (s : State) : s.Answers (execLineBlocked s) := by
  refine State.Makes.answers ?_
  split
  · exact makes_map _ _ fun w _ => ((s.windowBlocked_kept w).same (u := State.setLine _ .blocked) ⟨rfl, rfl, rfl⟩).report _
  · exact makes_same ⟨rfl, rfl, rfl⟩
  · exact makes_same ⟨rfl, rfl, rfl⟩
  all_goals exact makes_none s

theorem State.execStopRunDetected_answers (s : State) : s.Answers (execStopRunDetected s) := by
  refine (makes_onlyIf _ fun _ => ?_).answers
  have cut (u : State) : u.Kept u.cutUnsampled := kept_ite (fun _ => kept_refl u) fun _ => u.cutInFlight_kept
  have stopped (f : StopState → StopState) (r : Report) : s.Kept (((s.changeLine Line.stopRun).changeStop f).report r) :=
    kept_of_same ⟨rfl, rfl, rfl⟩
  exact (stopped _ _).trans (cut _)

theorem State.execStopRunEnd_answers (asserted : Bool) (s : State) : s.Answers (execStopRunEnd asserted s) := by
  refine (makes_onlyIf _ fun _ => ?_).answers
  have ended : s.Kept ((s.changeLine (Line.stopRunEnd asserted)).changeStop fun t => { t with mark := t.mark.map fun _ => some 0 }) :=
    kept_of_same ⟨rfl, rfl, rfl⟩
  exact kept_ite (fun _ => ended.trans (unblock_kept _ _)) fun _ => ended

theorem State.execStuckLine_answers (s : State) : s.Answers (execStuckLine s) := by
  refine State.Makes.answers ?_
  split
  · exact makes_onlyIf _ fun _ => State.Kept.report (t := State.changeLine _ _) ((s.elapseTo_kept _ _).same ⟨rfl, rfl, rfl⟩) _
  · exact makes_none s

/-! ## Timers of the station -/

/-- The remaining time of a timer passes, and then what neither invariant speaks of changes. -/
theorem State.elapseTo_same (s : State) (a b : Nat) {t : State}
    (h : t.table = (s.elapseTo a b).table ∧ t.claims.reseals = (s.elapseTo a b).claims.reseals ∧ t.bank = (s.elapseTo a b).bank) : s.Kept t :=
  (s.elapseTo_kept a b).same h

theorem State.execAnnounceTimer_answers (full : Bool) (s : State) : s.Answers (execAnnounceTimer full s) := by
  refine (makes_bind _ _ fun t _ => ?_).answers
  split
  · exact makes_some (s.elapseTo_same t Config.announcePeriod (by simp))
  · exact makes_onlyIf _ fun _ => s.elapseTo_same t Config.announceSpacing (by simp)

theorem State.execLeaveTimeout_answers (s : State) : s.Answers (execLeaveTimeout s) := by
  refine State.Makes.answers ?_
  split
  · next t _ =>
    have waited := s.elapseTo_kept t Config.commandWait
    exact makes_some (kept_ite (fun _ => waited.same (by simp)) fun _ => waited.trans (enterOffLine_kept _))
  all_goals exact makes_none s

theorem State.offerTimeout_kept (s : State) (c : Claim) : s.Kept (s.offerTimeout c) := by
  unfold State.offerTimeout
  extract_lets src s1 b s2
  have stopped : s.Kept s1 := kept_of_same ⟨rfl, rfl, rfl⟩
  have offered : s.Kept s2 := stopped.offer b
  exact kept_ite (fun _ => stopped) fun _ => kept_ite (fun _ => offered) fun _ => offered.same ⟨rfl, rfl, rfl⟩

theorem State.execClaimTimerExpiry_answers (s : State) : s.Answers (execClaimTimerExpiry s) :=
  (makes_bind _ _ fun _ _ => makes_onlyIf _ fun _ => (s.elapseTo_kept _ _).trans (offerTimeout_kept _ _)).answers

theorem State.execAbandonRetry_answers (s : State) : s.Answers (execAbandonRetry s) := by
  refine (makes_map _ _ fun t _ => ?_).answers
  dsimp only
  split
  · exact (s.elapseTo_kept t Config.retryLimit).trans (offerTimeout_kept _ _)
  · exact s.elapseTo_same t Config.retryLimit ⟨rfl, rfl, rfl⟩

theorem State.execAbandonWaitTimeout_answers (s : State) : s.Answers (execAbandonWaitTimeout s) := by
  refine State.Makes.answers ?_
  split
  · next t _ => exact makes_some (s.elapseTo_same t Config.commandWait (by simp))
  all_goals exact makes_none s

theorem State.execResealRecordTimerExpiry_answers (slot : Nat) (s : State) : s.Answers (execResealRecordTimerExpiry slot s) := by
  refine (makes_bind _ _ fun r _ => makes_onlyIf _ fun _ => ?_).answers
  extract_lets s1 s2
  have ended : s.Kept s2 := (s.elapseTo_kept r.timer Config.recordLimit).trans (s1.setReseals_kept _ (by simp))
  exact kept_ite (fun _ => ended.trans (loseReseal_kept _ _)) fun _ => ended.report _

/-! ## Rows of a bank -/

theorem State.execOvenTick_answers (s : State) : s.Answers (execOvenTick s) := by
  refine State.Makes.answers ?_
  split
  · next p _ t _ _ =>
    have restarted : s.Kept ((s.elapseTo t Config.ovenTick).withBank { (s.elapseTo t Config.ovenTick).bank with tick := some 0 }) :=
      (s.elapseTo_kept _ _).trans ⟨id, id⟩
    exact makes_some (restarted.trans (foldl_kept _ (tickOven_kept p) _ _))
  · exact makes_none s

theorem State.execHeldTimerExpiry_answers (i : Nat) (s : State) : s.Answers (execHeldTimerExpiry i s) := by
  refine State.Makes.answers ?_
  split
  · exact makes_some (((s.elapseTo_kept _ _).trans (enterOven_kept _ i _)).trans (setLoop_kept _ i _ fun _ _ h => h.enterCollect))
  · exact makes_none s

theorem State.execPressureSample_answers (i : Nat) (x : BitVec 12) (s : State) : s.Answers (execPressureSample i x s) :=
  (makes_map _ _ fun _ _ => s.regulatorStep_kept i _ (ovenPressure_range x)).answers

theorem State.execSampleWatchExpiry_answers (i : Nat) (s : State) : s.Answers (execSampleWatchExpiry i s) :=
  (makes_map _ _ fun _ _ => (s.elapseTo_kept _ _).trans (regulatorStep_kept _ i _ (by decide))).answers

theorem State.execLostTimerExpiry_answers (i : Nat) (s : State) : s.Answers (execLostTimerExpiry i s) := by
  refine (makes_bind _ _ fun l hl => ?_).answers
  split
  · next t ht _ =>
    refine makes_some (State.Kept.report ((s.elapseTo_kept t Config.lostLimit).trans (setLoop_kept _ i _ fun y hy h => h.lostAttention ?_)) _)
    refine elapse_loop (P := fun y => y.lostTimer ≠ none) (fun y d c => (runTimer_ne_none d _ y.lostTimer).2) (fun k hk => ?_) hy
    rw [hl] at hk
    simp [← Option.some.inj hk, ht]
  · exact makes_none s

theorem State.execMainReportTimer_answers (s : State) : s.Answers (execMainReportTimer s) := by
  refine (makes_map _ _ fun t _ => ?_).answers
  have restarted : s.Kept ((s.elapseTo t Config.mainReport).withBank { (s.elapseTo t Config.mainReport).bank with mainTimer := some 0 }) :=
    (s.elapseTo_kept _ _).trans ⟨id, id⟩
  dsimp only
  unfold State.offerMain
  split
  · exact kept_ite (fun _ => restarted.offer _) fun _ => restarted
  · exact restarted

theorem State.execMainSample_answers (x : BitVec 12) (s : State) : s.Answers (execMainSample x s) :=
  (makes_bind _ _ fun _ _ => makes_onlyIf _ fun _ => s.freshMain_kept _).answers

theorem State.execChargeTimerExpiry_answers (i : Nat) (s : State) : s.Answers (execChargeTimerExpiry i s) := by
  refine State.Makes.answers ?_
  split
  · next p0 _ t _ ht =>
    obtain ⟨l, hl, hc⟩ := Option.bind_eq_some_iff.1 ht
    refine makes_some ((s.elapseTo_kept _ _).trans (setLoop_kept _ i _ fun y hy h => h.endCharge ?_))
    refine elapse_loop (P := fun y => y.charge ≠ none) (fun y d c => (runTimer_ne_none d c y.charge).2) (fun k hk => ?_) hy
    rw [hl] at hk
    simp [← Option.some.inj hk, hc]
  · exact makes_none s

theorem State.execLatchEvent_answers (d : Nat) (level : Latch) (s : State) : s.Answers (execLatchEvent d level s) :=
  (makes_bind _ _ fun _ _ => makes_onlyIf _ fun _ =>
    (s.changeDoor_kept d _ fun _ _ h => h.latchTo level _ _).trans (heldLatch_kept _ _ _)).answers

theorem State.execLeakLevel_answers (d : Nat) (level : BitVec 10) (s : State) : s.Answers (execLeakLevel d level s) := by
  refine State.Makes.answers ?_
  split
  · exact makes_some (s.changeDoor_kept d _ fun _ _ h => h.level _ (Nat.min_le_right _ _))
  · exact makes_none s

/-- A timer of a door that runs still does when time has passed. -/
theorem State.elapse_door_timer {g : Door → Option Nat} (hg : ∀ x d b p, g x ≠ none → g (x.elapse d b p) ≠ none) {s : State} {d i t : Nat}
    {y : Door} (h : (s.door? i).bind g = some t) (hy : (s.elapse d).door? i = some y) : g y ≠ none := by
  obtain ⟨x, hx, ht⟩ := Option.bind_eq_some_iff.1 h
  refine elapse_door (P := fun z => g z ≠ none) hg (fun z hz => ?_) hy
  rw [hx] at hz
  simp [← Option.some.inj hz, ht]

theorem State.execSeatTimerExpiry_answers (d : Nat) (s : State) : s.Answers (execSeatTimerExpiry d s) := by
  refine State.Makes.answers ?_
  split
  · next p1 t _ ht =>
    exact makes_some ((s.elapseTo_kept _ _).trans (changeDoor_kept _ d _ fun y hy h =>
      h.seated (elapse_door_timer (fun x d _ _ => (runTimer_ne_none d _ x.seat).2) ht hy)))
  · exact makes_none s

theorem State.execLeakingTimerExpiry_answers (d : Nat) (s : State) : s.Answers (execLeakingTimerExpiry d s) := by
  refine State.Makes.answers ?_
  split
  · next p1 t _ ht =>
    have leaked := (s.elapseTo_kept t (1000 * p1.leakDelay)).trans (setDoor_kept _ d (fun x => { x with leaking := none, called := true })
      fun y hy h => h.leaked (elapse_door_timer (fun x d _ _ => (runTimer_ne_none d _ x.leaking).2) ht hy))
    refine makes_some (leaked.trans (callReseal_kept _ d fun x hx _ => ?_))
    rw [State.door?, State.setDoor_bank, List.getElem?_modify_eq] at hx
    obtain ⟨y, -, rfl⟩ := Option.map_eq_some_iff.1 hx
    rfl
  · exact makes_none s

theorem State.execCallTimerExpiry_answers (d : Nat) (s : State) : s.Answers (execCallTimerExpiry d s) := by
  refine (makes_map _ _ fun t ht => (s.elapseTo_kept t Config.callLimit).trans (callReseal_kept _ d fun x hx h => ?_)).answers
  obtain ⟨-, -, -, call, -⟩ := ((Door.sound_iff x).1 h)
  exact call (elapse_door_timer (fun x d _ _ => (runTimer_ne_none d _ x.call).2) ht hx)

theorem State.execMismatchWatchExpiry_answers (d : Nat) (s : State) : s.Answers (execMismatchWatchExpiry d s) := by
  refine (makes_bind _ _ fun x hx => ?_).answers
  split
  · next m hm _ =>
    refine makes_some ((s.elapseTo_kept m.timer Config.mismatchLimit).trans (changeDoor_kept _ d _ fun y hy h =>
      h.watching y.mismatch true fun _ => ?_))
    refine elapse_door (P := fun z => z.mismatch ≠ none) (fun z d b p hz => by simpa [Door.elapse] using hz) (fun z hz => ?_) hy
    rw [hx] at hz
    simp [← Option.some.inj hz, hm]
  · exact makes_none s

theorem State.execResealTimerExpiry_answers (d : Nat) (s : State) : s.Answers (execResealTimerExpiry d s) := by
  refine State.Makes.answers ?_
  split
  · next t ht =>
    refine makes_onlyIf _ fun _ => ?_
    have restarted := (s.elapseTo_kept t s.resealLimit).trans (setDoor_kept _ d (fun x => { x with reseal := some 0 }) fun y hy h =>
      h.resealing (elapse_door_timer (fun x d b p hz => by
        unfold Door.elapse
        dsimp only
        split
        · exact hz
        · exact (runTimer_ne_none d _ x.reseal).2 hz) ht hy) 0)
    unfold State.offerGivenUp
    split
    · exact restarted.offer _
    · exact restarted
  · next t _ _ =>
    refine makes_onlyIf _ fun _ => ?_
    have waited := s.elapseTo_kept t s.resealLimit
    unfold State.offerOwedDone
    split
    · exact (waited.trans (setReseals_kept _ _ (by simp))).offer _
    · exact waited
  · exact makes_none s

end Sys2Proof.Machine
end

section
/-! PROOFS. The rows that move neither the tables nor the bank, and every step (O9). -/

namespace Sys2Proof.Machine

/-! ## Rows of the battery line and of the stop state -/

theorem State.execContend_answers (rivals : List Byte) (s : State) : s.Answers (execContend rivals s) := by
  have begun (k : Nat) : s.Kept (s.beginFlight k) := kept_of_same ⟨rfl, rfl, rfl⟩
  have contended (u : State) (e : QueueEntry) : u.Kept (u.contendWith rivals e) := by
    unfold State.contendWith State.loseContention
    refine kept_ite (fun _ => ?_) fun _ => kept_of_same ⟨rfl, rfl, rfl⟩
    dsimp only
    split
    · exact kept_of_same (by simp [State.setLine])
    · exact kept_of_same ⟨rfl, rfl, rfl⟩
  refine State.Makes.answers ?_
  split
  · exact makes_bind _ _ fun k _ => makes_map _ _ fun e _ => (begun k).trans (contended _ e)
  · exact makes_none s

theorem State.execIdClash_answers (recessive : Bool) (s : State) : s.Answers (execIdClash recessive s) := by
  refine (makes_onlyIf _ fun _ => kept_ite (fun _ => s.enterConflict_kept _) fun _ => ?_).answers
  exact kept_of_same ⟨rfl, rfl, rfl⟩

theorem State.closeAsk_kept (s : State) (w : Window) (v : Verdict) : s.Kept (s.closeAsk w v) := s.putWindow_kept _

theorem State.execConsentTimeout_answers (s : State) : s.Answers (execConsentTimeout s) :=
  (makes_map _ _ fun w _ => (s.elapseTo_kept w.timer Config.consentWait).trans (closeAsk_kept _ _ _)).answers

theorem State.execHoldTimeout_answers (s : State) : s.Answers (execHoldTimeout s) :=
  (makes_bind _ _ fun w _ => makes_onlyIf _ fun _ => s.reachHoldTimeout_kept w).answers

theorem State.execMinimumHoldElapsed_answers (s : State) : s.Answers (execMinimumHoldElapsed s) :=
  (makes_bind _ _ fun _ _ => makes_onlyIf _ fun _ => s.putWindow_kept _).answers

theorem State.execDominantBitInSettle_answers (s : State) : s.Answers (execDominantBitInSettle s) :=
  (makes_bind _ _ fun _ _ => makes_onlyIf _ fun _ => s.putWindow_kept _).answers

theorem State.givePulse_kept (s : State) (c : StopCause) : s.Kept (s.givePulse c) :=
  kept_ite (fun _ => kept_refl s) fun _ => kept_of_same (by simp)

theorem State.execStopInputAsserted_answers (s : State) : s.Answers (execStopInputAsserted s) := by
  refine (makes_onlyIf _ fun _ => ?_).answers
  have asserted : s.Kept (s.changeStop fun x => { x with input := true }) := kept_of_same ⟨rfl, rfl, rfl⟩
  exact kept_ite (fun _ => asserted.trans (givePulse_kept _ _)) fun _ => asserted

/-! ## Timers of the line, the plan, the guide and the car -/

theorem State.execUnnotedMarkExpiry_answers (s : State) : s.Answers (execUnnotedMarkExpiry s) :=
  (makes_map _ _ fun t _ => s.elapseTo_same t Config.unnotedLimit (by simp)).answers

theorem State.execCensusTimerExpiry_answers (s : State) : s.Answers (execCensusTimerExpiry s) :=
  (makes_map _ _ fun t _ => s.elapseTo_same t (Config.censusPeriod s.straps.id) (by simp)).answers

theorem State.execPlanTimerExpiry_answers (s : State) : s.Answers (execPlanTimerExpiry s) :=
  (makes_map _ _ fun t _ => s.elapseTo_same t Config.planPeriod (by simp)).answers

theorem State.execRevokeRetryTimer_answers (s : State) : s.Answers (execRevokeRetryTimer s) :=
  (makes_map _ _ fun t _ => s.elapseTo_same t Config.retryLimit (by simp)).answers

theorem State.execReadyRetryTimer_answers (s : State) : s.Answers (execReadyRetryTimer s) :=
  (makes_map _ _ fun t _ => s.elapseTo_same t Config.retryLimit (by simp)).answers

theorem State.execMoveTimerExpiry_answers (s : State) : s.Answers (execMoveTimerExpiry s) := by
  refine State.Makes.answers ?_
  split
  · next k t _ _ => exact makes_onlyIf _ fun _ => s.elapseTo_same t (1000 * k.moveLimit) (by simp)
  · exact makes_none s

theorem State.execQuenchTimeExpiry_answers (s : State) : s.Answers (execQuenchTimeExpiry s) := by
  refine State.Makes.answers ?_
  split
  · next k t _ _ => exact makes_onlyIf _ fun _ => s.elapseTo_same t (1000 * k.quench) (by simp)
  · exact makes_none s

theorem State.execDrainTimeExpiry_answers (s : State) : s.Answers (execDrainTimeExpiry s) := by
  refine State.Makes.answers ?_
  split
  · next k t _ _ => exact makes_onlyIf _ fun _ => s.elapseTo_same t (1000 * k.drain) (by simp)
  · exact makes_none s

theorem State.setChain_kept (s : State) (closed : Bool) : s.Kept (s.setChain closed) := by
  unfold State.setChain
  split
  · exact kept_refl s
  all_goals exact kept_of_same ⟨rfl, rfl, rfl⟩

theorem State.execMoveStart_answers (s : State) : s.Answers (execMoveStart s) := by
  refine State.Makes.answers ?_
  split
  · refine makes_onlyIf _ fun _ => kept_of_same ?_
    unfold State.startMove
    dsimp only
    split <;> simp
  · exact makes_none s

/-! ## The processor port -/

theorem State.receiveByte_kept (s : State) (b : RxChar) : s.Kept (s.receiveByte b) := by
  have bad (c : Option Byte) : s.Kept ((s.setRx .hunt).badMessage c) := kept_of_same (by simp)
  have rx (x : Assembler) : s.Kept (s.setRx x) := kept_of_same ⟨rfl, rfl, rfl⟩
  unfold State.receiveByte
  split
  · exact kept_ite (fun _ => rx _) fun _ => kept_refl s
  · exact kept_ite (fun _ => bad _) fun _ => rx _
  · exact kept_ite (fun _ => bad _) fun _ => rx _
  · exact kept_ite (fun _ => bad _) fun _ => kept_ite (fun _ => rx _) fun _ =>
      kept_ite (fun _ => kept_of_same (by simp)) fun _ => bad _

theorem State.execInterByteGap_answers (s : State) : s.Answers (execInterByteGap s) := by
  refine State.Makes.answers ?_
  split
  · exact makes_none s
  · exact makes_same (by simp)

theorem State.execMessageSent_answers (s : State) : s.Answers (execMessageSent s) := by
  refine State.Makes.answers ?_
  split
  · exact makes_same ⟨rfl, rfl, rfl⟩
  · exact makes_none s

/-! ## Commands -/

theorem State.answer_kept (s : State) (r : Result) (d : Nat := 0) (v : List Byte := []) : s.Kept (s.answer r d v) := (kept_refl s).answer r d v

theorem State.refuse_kept (s : State) (c : Cause) : s.Kept (s.refuse c) := s.answer_kept _ _

theorem State.offerFor_kept (s : State) (b : Body) (v : List Byte := []) : s.Kept (s.offerFor b v) :=
  kept_ite (fun _ => ((kept_refl s).offer b).answer _ _ _) fun _ => ((kept_refl s).offer b).answer _

theorem State.readPart_kept (s : State) (content : List Byte) (n place : Nat) : s.Kept (s.readPart content n place) :=
  kept_ite (fun _ => s.answer_kept _ _ _) fun _ => s.answer_kept _ _

theorem State.execStop_answers (s : State) : s.Answers (execStop s) :=
  s.command_answers _ _ _ _ fun _ => kept_ite (fun _ => (s.givePulse_kept _).answer _) fun _ => s.answer_kept _

theorem State.execResume_answers (s : State) : s.Answers (execResume s) :=
  s.command_answers _ _ _ _ fun _ => kept_ite (fun _ => s.answer_kept _) fun _ => kept_ite (fun _ => s.refuse_kept _) fun _ =>
    kept_ite (fun _ => s.refuse_kept _) fun _ => kept_ite (fun _ => s.answer_kept _) fun _ => s.offerFor_kept _

theorem State.execConsent_answers (s : State) : s.Answers (execConsent s) := by
  refine s.command_answers _ _ _ _ fun b => kept_ite (fun _ => s.answer_kept _ _) fun _ => ?_
  split
  · exact kept_ite (fun _ => (s.closeAsk_kept _ _).answer _) fun _ => s.answer_kept _
  · exact s.answer_kept _

theorem State.abandonClaim_kept (s : State) : s.Kept s.abandonClaim := by
  unfold State.abandonClaim
  split
  · exact s.answer_kept _
  · exact kept_ite (fun _ => s.refuse_kept _) fun _ => kept_ite (fun _ => s.answer_kept _) fun _ => s.offerFor_kept _

theorem State.execAbandon_answers (s : State) : s.Answers (execAbandon s) :=
  s.command_answers _ _ _ _ fun _ => kept_ite (fun _ => s.answer_kept _) fun _ =>
    kept_ite (fun _ => State.Kept.answer (t := s.withdraw Body.isPushClaim) (kept_of_same (by simp)) _ _) fun _ =>
      kept_ite (fun _ => kept_of_same ⟨rfl, rfl, rfl⟩) fun _ => s.abandonClaim_kept

theorem State.requestPlanned_kept (s : State) (p : Plan) (forced : Bool) : s.Kept (s.requestPlanned p forced) := by
  unfold State.requestPlanned
  extract_lets r s1
  have chosen : s.Kept s1 := kept_of_same ⟨rfl, rfl, rfl⟩
  split
  · exact chosen.trans (offerFor_kept _ _ _)
  · exact kept_ite (fun _ => chosen.trans (offerFor_kept _ _ _)) fun _ => chosen.answer _ _ _
  · exact chosen.answer _ _ _

theorem State.execPushRequest_answers (s : State) : s.Answers (execPushRequest s) := by
  refine s.command_answers _ _ _ _ fun b => ?_
  dsimp only
  split
  · exact s.answer_kept _
  · exact kept_ite (fun _ => s.answer_kept _ _) fun _ => kept_ite (fun _ => s.answer_kept _) fun _ =>
      kept_ite (fun _ => s.refuse_kept _) fun _ => kept_ite (fun _ => s.refuse_kept _) fun _ =>
        kept_ite (fun _ => s.requestPlanned_kept _ _) fun _ => kept_ite (fun _ => s.offerFor_kept _ _) fun _ => s.answer_kept _

theorem State.execPlanChange_answers (s : State) : s.Answers (execPlanChange s) := by
  refine s.command_answers _ _ _ _ fun b => ?_
  dsimp only
  split
  · exact s.answer_kept _
  · exact kept_ite (fun _ => s.answer_kept _ _) fun _ => kept_ite (fun _ => s.answer_kept _ _) fun _ =>
      State.Kept.answer (kept_of_same (by simp)) _

theorem State.moveMachine_kept (s : State) (n : Nat) : s.Kept (s.moveMachine n) := by
  unfold State.moveMachine
  dsimp only
  split
  · exact kept_of_same (by simp)
  · exact kept_of_same ⟨rfl, rfl, rfl⟩

theorem State.execMachineAt_answers (s : State) : s.Answers (execMachineAt s) :=
  s.command_answers _ _ _ _ fun _ => kept_ite (fun _ => s.answer_kept _) fun _ => kept_ite (fun _ => s.answer_kept _ _) fun _ =>
    kept_ite (fun _ => s.answer_kept _) fun _ => (s.moveMachine_kept _).answer _

theorem State.reportStage_kept (s : State) (c : Claim) (x : Option Stage) : s.Kept (s.reportStage c x) := by
  cases x with
  | some x =>
    have set : s.Kept (s.reportSet c x) := kept_ite (fun _ => s.answer_kept _) fun _ =>
      kept_ite (fun _ => State.Kept.answer (t := s.wantSet c.serial) (kept_of_same (by simp)) _) fun _ => s.offerFor_kept _
    exact kept_ite (fun _ => s.refuse_kept _) fun _ => kept_ite (fun _ => set) fun _ => s.answer_kept _
  | none =>
    have clear : s.Kept (s.reportClear c) := by
      unfold State.reportClear
      extract_lets s1
      have revoking : s.Kept s1 := kept_of_same (by simp [s1])
      exact kept_ite (fun _ => revoking.answer _) fun _ => revoking.answer _
    exact kept_ite (fun _ => clear) fun _ => s.answer_kept _

theorem State.execStage_answers (s : State) : s.Answers (execStage s) := by
  refine s.command_answers _ _ _ _ fun _ => kept_ite (fun _ => s.answer_kept _) fun _ => ?_
  split
  · exact s.answer_kept _ _
  · refine kept_ite (fun _ => s.answer_kept _) fun _ => ?_
    split
    · exact s.answer_kept _
    · exact s.reportStage_kept _ _

theorem State.execLevelDone_answers (s : State) : s.Answers (execLevelDone s) := by
  refine s.command_answers _ _ _ _ fun _ => kept_ite (fun _ => s.answer_kept _) fun _ => kept_ite (fun _ => s.answer_kept _ _) fun _ =>
    kept_ite (fun _ => s.answer_kept _) fun _ => kept_ite (fun _ => s.refuse_kept _) fun _ => kept_ite (fun _ => s.refuse_kept _) fun _ => ?_
  split
  · exact s.answer_kept _
  · exact kept_ite (fun _ => s.answer_kept _) fun _ => kept_ite (fun _ => s.answer_kept _) fun _ =>
      kept_ite (fun _ => s.answer_kept _) fun _ => s.offerFor_kept _

theorem State.resealStart_kept (s : State) (n : Nat) (j : Side) : s.Kept (s.resealStart n j) :=
  kept_ite (fun _ => s.answer_kept _) fun _ => kept_ite (fun _ => s.answer_kept _ _) fun _ => kept_ite (fun _ => s.answer_kept _) fun _ =>
    kept_ite (fun _ => s.refuse_kept _) fun _ => kept_ite (fun _ => s.refuse_kept _) fun _ => kept_ite (fun _ => s.refuse_kept _) fun _ =>
      kept_ite (fun _ => s.refuse_kept _) fun _ => kept_ite (fun _ => s.answer_kept _) fun _ => s.offerFor_kept _ _

theorem State.execResealStart_answers (s : State) : s.Answers (execResealStart s) := by
  refine s.command_answers _ _ _ _ fun _ => ?_
  split
  · exact s.resealStart_kept _ _
  · exact s.answer_kept _

theorem State.resealFinish_kept (s : State) (j : Side) : s.Kept (s.resealFinish j) := by
  refine kept_ite (fun _ => s.answer_kept _) fun _ =>
    kept_ite (fun _ => State.Kept.answer (t := s.withdraw Body.isResealClaim) (kept_of_same (by simp)) _ _) fun _ =>
      kept_ite (fun _ => s.answer_kept _) fun _ => ?_
  split
  · exact s.answer_kept _
  · exact kept_ite (fun _ => s.answer_kept _) fun _ => s.offerFor_kept _

theorem State.execResealFinish_answers (s : State) : s.Answers (execResealFinish s) := by
  refine s.command_answers _ _ _ _ fun _ => ?_
  split
  · exact s.resealFinish_kept _
  · exact s.answer_kept _

/-- A command of the car keeps both where its own rule does. -/
theorem State.carCommand_answers (s : State) (code : Nat) (widths : List Nat) (run : List Byte → State) (h : ∀ b, s.Kept (run b)) :
    s.Answers (s.carCommand code widths run) :=
  s.command_answers _ _ _ _ fun b => kept_ite (fun _ => h b) fun _ => s.answer_kept _

theorem State.carTravels_kept (s : State) (m : Nat) : s.Kept (s.carTravels m) := by
  have moved : s.Kept (s.setMarker m).compareReady := kept_of_same (by simp)
  unfold State.carTravels
  split
  · exact kept_ite (fun _ => kept_of_same (by simp)) fun _ => moved
  · exact moved

theorem State.carMoved_kept (s : State) (m : Nat) : s.Kept (s.carMoved m) := by
  have moved : s.Kept (s.setMarker m).compareReady := kept_of_same (by simp)
  have displaced (k : Claim) : s.Kept (s.carDisplaced k m) :=
    kept_ite (fun _ => kept_of_same (by simp)) fun _ => kept_of_same (by simp)
  unfold State.carMoved
  split
  · split
    · exact displaced _
    · exact kept_of_same (by simp)
  · split
    · exact displaced _
    · exact moved
  all_goals exact kept_of_same (by simp)

theorem State.execCarAt_answers (s : State) : s.Answers (execCarAt s) :=
  s.carCommand_answers _ _ _ fun _ => kept_ite (fun _ => s.answer_kept _ _) fun _ =>
    kept_ite (fun _ => (s.carTravels_kept _).answer _) fun _ => kept_ite (fun _ => s.answer_kept _) fun _ => (s.carMoved_kept _).answer _

theorem State.execLoadSensed_answers (s : State) : s.Answers (execLoadSensed s) := by
  refine s.carCommand_answers _ _ _ fun _ => kept_ite (fun _ => s.answer_kept _) fun _ => ?_
  split
  · exact s.answer_kept _
  · exact kept_ite (fun _ => s.answer_kept _) fun _ => kept_ite (fun _ => s.answer_kept _) fun _ => s.offerFor_kept _

theorem State.execGateClosed_answers (s : State) : s.Answers (execGateClosed s) :=
  s.carCommand_answers _ _ _ fun _ => kept_ite (fun _ => State.Kept.answer (kept_of_same (by simp)) _ _ _) fun _ => s.answer_kept _

theorem State.execPark_answers (s : State) : s.Answers (execPark s) :=
  s.carCommand_answers _ _ _ fun _ => State.Kept.answer (kept_of_same (by simp)) _

theorem State.execClearCar_answers (s : State) : s.Answers (execClearCar s) := by
  refine s.carCommand_answers _ _ _ fun _ => ?_
  split
  · exact s.answer_kept _ _
  · exact kept_ite (fun _ => State.Kept.answer (kept_of_same (by simp)) _) fun _ => s.answer_kept _

theorem State.execReadStatus_answers (s : State) : s.Answers (execReadStatus s) := s.command_answers _ _ _ _ fun _ => s.readPart_kept _ _ _

theorem State.execReadView_answers (s : State) : s.Answers (execReadView s) := s.command_answers _ _ _ _ fun _ => s.readPart_kept _ _ _

theorem State.execReadClaim_answers (s : State) : s.Answers (execReadClaim s) := s.command_answers _ _ _ _ fun _ => s.readPart_kept _ _ _

theorem State.execReadOven_answers (s : State) : s.Answers (execReadOven s) := by
  refine s.command_answers _ _ _ _ fun _ => ?_
  split
  · exact s.answer_kept _
  · split
    · exact s.answer_kept _ _
    · exact s.readPart_kept _ _ _

theorem State.execReadPlan_answers (s : State) : s.Answers (execReadPlan s) := by
  refine s.command_answers _ _ _ _ fun _ => ?_
  split
  · exact s.answer_kept _
  · exact s.readPart_kept _ _ _

/-! ## Every row, and every step -/

theorem State.execHardwareReset_answers (id : BitVec 5) (role line port : BitVec 2) (input : Bool) (s : State) :
    s.Answers (execHardwareReset id role line port input s) := by
  intro t ht
  cases ht
  refine ⟨fun _ => ⟨rfl, fun e he => ?_, rfl⟩, fun _ => ⟨fun _ h => absurd h List.not_mem_nil, fun _ h => absurd h List.not_mem_nil, fun _ h => absurd h List.not_mem_nil, le_refl _⟩⟩
  exact (List.eq_of_mem_replicate (n := 32) he) ▸ Entry.reset_ranged

/-- A row that happens only where b, and changes neither the tables nor the bank. -/
theorem State.quiet_row {s t : State} (b : Bool) (h : t.table = s.table ∧ t.claims.reseals = s.claims.reseals ∧ t.bank = s.bank) :
    s.Answers (s.event (onlyIf b t)) := (makes_onlyIf b fun _ => kept_of_same h).answers

open State in
/-- Every row of the table keeps the station table, the reseal records and the bank sound. -/
theorem exec_answers (i : Instr) (s : State) : s.Answers (exec i s) := by
  cases i with
  | hardwareReset => exact execHardwareReset_answers _ _ _ _ _ s
  | idleGapComplete => exact quiet_row _ ⟨rfl, rfl, rfl⟩
  | contend => exact execContend_answers _ s
  | otherStartBit => exact quiet_row _ ⟨rfl, rfl, rfl⟩
  | idClash => exact execIdClash_answers _ s
  | voidFrame => exact quiet_row _ ⟨rfl, rfl, rfl⟩
  | frameEnd => exact execFrameEnd_answers _ s
  | consentTimeout => exact execConsentTimeout_answers s
  | holdTimeout => exact execHoldTimeout_answers s
  | settleOutcome => exact execSettleOutcome_answers _ s
  | lineBlocked => exact execLineBlocked_answers s
  | blockedCleared => exact (makes_onlyIf _ fun _ => unblock_kept _ _).answers
  | stopRunDetected => exact execStopRunDetected_answers s
  | stopRunEnd => exact execStopRunEnd_answers _ s
  | stuckLine => exact execStuckLine_answers s
  | unnotedMarkExpiry => exact execUnnotedMarkExpiry_answers s
  | stopInputAsserted => exact execStopInputAsserted_answers s
  | stopInputClear => exact quiet_row _ ⟨rfl, rfl, rfl⟩
  | censusTimerExpiry => exact execCensusTimerExpiry_answers s
  | announceTimer => exact execAnnounceTimer_answers _ s
  | leaveTimeout => exact execLeaveTimeout_answers s
  | ovenTick => exact execOvenTick_answers s
  | heldTimerExpiry => exact execHeldTimerExpiry_answers _ s
  | pressureSample => exact execPressureSample_answers _ _ s
  | sampleWatchExpiry => exact execSampleWatchExpiry_answers _ s
  | lostTimerExpiry => exact execLostTimerExpiry_answers _ s
  | mainSample => exact execMainSample_answers _ s
  | mainReportTimer => exact execMainReportTimer_answers s
  | chargeTimerExpiry => exact execChargeTimerExpiry_answers _ s
  | latchEvent => exact execLatchEvent_answers _ _ s
  | leakLevel => exact execLeakLevel_answers _ _ s
  | seatTimerExpiry => exact execSeatTimerExpiry_answers _ s
  | leakingTimerExpiry => exact execLeakingTimerExpiry_answers _ s
  | callTimerExpiry => exact execCallTimerExpiry_answers _ s
  | mismatchWatchExpiry => exact execMismatchWatchExpiry_answers _ s
  | resealTimerExpiry => exact execResealTimerExpiry_answers _ s
  | resealRecordTimerExpiry => exact execResealRecordTimerExpiry_answers _ s
  | planTimerExpiry => exact execPlanTimerExpiry_answers s
  | chainOpens => exact (makes_onlyIf _ fun _ => s.setChain_kept _).answers
  | chainClosed => exact (makes_onlyIf _ fun _ => s.setChain_kept _).answers
  | revokeRetryTimer => exact execRevokeRetryTimer_answers s
  | moveStart => exact execMoveStart_answers s
  | moveTimerExpiry => exact execMoveTimerExpiry_answers s
  | quenchTimeExpiry => exact execQuenchTimeExpiry_answers s
  | drainTimeExpiry => exact execDrainTimeExpiry_answers s
  | readyRetryTimer => exact execReadyRetryTimer_answers s
  | claimTimerExpiry => exact execClaimTimerExpiry_answers s
  | abandonRetry => exact execAbandonRetry_answers s
  | abandonWaitTimeout => exact execAbandonWaitTimeout_answers s
  | messageReceived => exact (makes_some (foldl_kept _ receiveByte_kept _ s)).answers
  | interByteGap => exact execInterByteGap_answers s
  | messageSent => exact execMessageSent_answers s
  | unassignedCommand => exact (makes_map _ _ fun _ _ => s.answer_kept _).answers
  | start => exact execStart_answers _ s
  | rejoin => exact execRejoin_answers s
  | leave => exact execLeave_answers s
  | stop => exact execStop_answers s
  | resume => exact execResume_answers s
  | consent => exact execConsent_answers s
  | pushRequest => exact execPushRequest_answers s
  | abandon => exact execAbandon_answers s
  | stage => exact execStage_answers s
  | machineAt => exact execMachineAt_answers s
  | levelDone => exact execLevelDone_answers s
  | resealStart => exact execResealStart_answers s
  | resealFinish => exact execResealFinish_answers s
  | carAt => exact execCarAt_answers s
  | loadSensed => exact execLoadSensed_answers s
  | gateClosed => exact execGateClosed_answers s
  | park => exact execPark_answers s
  | clearCar => exact execClearCar_answers s
  | setWallTemp => exact execSetWallTemp_answers s
  | restoreOven => exact execRestoreOven_answers s
  | setService => exact execSetService_answers s
  | setValve => exact execSetValve_answers s
  | clearFault => exact execClearFault_answers s
  | freeDoorLatch => exact execFreeDoorLatch_answers s
  | planChange => exact execPlanChange_answers s
  | readStatus => exact execReadStatus_answers s
  | readView => exact execReadView_answers s
  | readClaim => exact execReadClaim_answers s
  | readOven => exact execReadOven_answers s
  | readPlan => exact execReadPlan_answers s
  | readCar => exact s.carCommand_answers _ _ _ fun _ => s.readPart_kept _ _ _
  | holdOrVetoAssertedInIdle => exact quiet_row _ ⟨rfl, rfl, rfl⟩
  | minimumHoldElapsed => exact execMinimumHoldElapsed_answers s
  | dominantBitInSettle => exact execDominantBitInSettle_answers s

/-- Every step keeps them sound: the row at the front of the queue, or a millisecond of an empty one. -/
theorem step_answers (s : State) : s.Answers (step s) := by
  unfold step
  split
  · next i rest _ =>
    have popped : s.Kept (s.withPending rest) := State.kept_of_same ⟨rfl, rfl, rfl⟩
    exact fun t ht => popped.trans (exec_answers i _ t ht)
  · intro t ht
    cases ht
    exact s.elapse_kept 1

end Sys2Proof.Machine

open Sys2Proof Sys2Proof.Machine

/-- Settles O9: every row and a passing millisecond keep the two invariants (`step_answers`). -/
theorem tablesAndBankStaySound : Obligations.TablesAndBankStaySound :=
  ⟨fun s t h hs => (step_answers s t hs).1 h, fun s t h hs => (step_answers s t hs).2 h⟩

end

section
/-! PROOFS. Every row leads to a next state, leaves the queue of rows alone, and keeps straps and configuration (O3). -/

namespace Sys2Proof.Machine

/-! ## What stays -/

/-- The straps, the configuration and the queue of rows are the same in t as in s. -/
abbrev State.Stays (s t : State) : Prop := t.straps = s.straps ∧ t.config = s.config ∧ t.pending = s.pending

theorem State.Stays.trans {s t u : State} (h : s.Stays t) (k : t.Stays u) : s.Stays u := by
  obtain ⟨straps, config, pending⟩ := h
  exact ⟨k.1.trans straps, k.2.1.trans config, k.2.2.trans pending⟩

theorem State.stays_ite {s t u : State} {c : Prop} [Decidable c] (ht : s.Stays t) (hu : s.Stays u) : s.Stays (if c then t else u) := by
  split
  · exact ht
  · exact hu

theorem State.foldl_stays {α : Type} (f : State → α → State) (h : ∀ (s : State) x, s.Stays (f s x)) (l : List α) (s : State) :
    s.Stays (l.foldl f s) :=
  ⟨foldl_keeps State.straps f (fun s x => (h s x).1) l s, foldl_keeps State.config f (fun s x => (h s x).2.1) l s,
    foldl_keeps State.pending f (fun s x => (h s x).2.2) l s⟩

/-- They are the same in the state after the row's effect, where there is one. -/
def State.Leads (s : State) (after : Option State) : Prop := ∀ t, after = some t → s.Stays t

theorem State.leads_some {s t : State} (h : s.Stays t) : s.Leads (some t) := fun _ ht => Option.some.inj ht ▸ h

theorem State.leads_none (s : State) : s.Leads none := fun _ h => absurd h (by simp)

theorem State.leads_onlyIf {s t : State} (b : Bool) (h : s.Stays t) : s.Leads (onlyIf b t) := by
  unfold onlyIf
  split
  · exact leads_some h
  · exact leads_none s

theorem State.leads_map {α : Type} {s : State} (o : Option α) (f : α → State) (h : ∀ x, s.Stays (f x)) : s.Leads (o.map f) := by
  cases o with
  | none => exact leads_none s
  | some x => exact leads_some (h x)

theorem State.leads_bind {α : Type} {s : State} (o : Option α) (f : α → Option State) (h : ∀ x, s.Leads (f x)) :
    s.Leads (o.bind f) := by
  cases o with
  | none => exact leads_none s
  | some x => exact h x

/-- The row leads to a next state, in which they are the same. -/
def State.Reaches (s : State) (o : Host.Outcome State Fault Refusal) : Prop := ∃ t, o = .next t ∧ s.Stays t

theorem State.Leads.reaches {s : State} {after : Option State} (h : s.Leads after) : s.Reaches (s.event after) := by
  cases after with
  | none => exact ⟨s, rfl, rfl, rfl, rfl⟩
  | some t => exact ⟨t.derive, rfl, (h t rfl).trans (by simp [State.Stays])⟩

theorem State.command_reaches (s : State) (code : Nat) (widths : List Nat) (roles : List Role) (run : List Byte → State)
    (h : ∀ b, s.Stays (run b)) : s.Reaches (s.command code widths roles run) := by
  refine (leads_map _ _ fun c => ?_).reaches
  split
  · simp [State.Stays]
  · exact stays_ite (h _) (by simp [State.Stays])

theorem State.carCommand_reaches (s : State) (code : Nat) (widths : List Nat) (run : List Byte → State) (h : ∀ b, s.Stays (run b)) :
    s.Reaches (s.carCommand code widths run) :=
  s.command_reaches _ _ _ _ fun b => stays_ite (h b) (by simp [State.Stays])

/-! ## Operations that only rows use -/

@[simp] theorem State.onOven_stays (s : State) (b : List Byte) (run : BankPart0 → Nat → State) (h : ∀ p i, s.Stays (run p i)) :
    s.Stays (s.onOven b run) := by
  unfold State.onOven
  split
  · simp [State.Stays]
  · split
    · simp [State.Stays]
    · exact h _ _

@[simp] theorem State.setLine_stays (s : State) (x : LineState) : s.Stays (s.setLine x) := by
  simp [State.Stays, State.setLine]

@[simp] theorem State.loseContention_stays (s : State) (e : QueueEntry) : s.Stays (s.loseContention e) := by
  unfold State.loseContention
  dsimp only
  repeat' split
  all_goals simp [State.Stays]

@[simp] theorem State.contendWith_stays (s : State) (l : List Byte) (e : QueueEntry) : s.Stays (s.contendWith l e) := by
  unfold State.contendWith
  dsimp only
  repeat' split
  all_goals simp [State.Stays]

@[simp] theorem State.readVeto_stays (s : State) : s.Stays (s.readVeto) := by
  simp [State.Stays, State.readVeto]

@[simp] theorem State.reachHoldTimeout_stays (s : State) (w : Window) : s.Stays (s.reachHoldTimeout w) := by
  simp [State.Stays, State.reachHoldTimeout]

@[simp] theorem State.windowBlocked_stays (s : State) (w : Window) : s.Stays (s.windowBlocked w) := by
  unfold State.windowBlocked
  dsimp only
  repeat' split
  all_goals simp [State.Stays]

@[simp] theorem State.reportUnblocked_stays (s : State) : s.Stays (s.reportUnblocked) := by
  unfold State.reportUnblocked
  repeat' split
  all_goals simp [State.Stays]

@[simp] theorem State.unblock_stays (s : State) (v : Bool) : s.Stays (s.unblock v) := by
  unfold State.unblock
  repeat' split
  all_goals simp [State.Stays]

@[simp] theorem State.offerMain_stays (s : State) : s.Stays (s.offerMain) := by
  unfold State.offerMain
  repeat' split
  all_goals simp [State.Stays]

@[simp] theorem State.offerGivenUp_stays (s : State) (d : Nat) : s.Stays (s.offerGivenUp d) := by
  unfold State.offerGivenUp
  repeat' split
  all_goals simp [State.Stays]

@[simp] theorem State.offerOwedDone_stays (s : State) (d : Nat) : s.Stays (s.offerOwedDone d) := by
  unfold State.offerOwedDone
  repeat' split
  all_goals simp [State.Stays]

@[simp] theorem State.setChain_stays (s : State) (b : Bool) : s.Stays (s.setChain b) := by
  unfold State.setChain
  repeat' split
  all_goals simp [State.Stays]

@[simp] theorem State.offerTimeout_stays (s : State) (c : Claim) : s.Stays (s.offerTimeout c) := by
  unfold State.offerTimeout
  dsimp only
  repeat' split
  all_goals simp [State.Stays]

@[simp] theorem State.leaveOnLine_stays (s : State) : s.Stays (s.leaveOnLine) := by
  unfold State.leaveOnLine
  dsimp only
  repeat' split
  all_goals simp [State.Stays, State.holdLeave]

@[simp] theorem State.requestPlanned_stays (s : State) (p : Plan) (f : Bool) : s.Stays (s.requestPlanned p f) := by
  unfold State.requestPlanned
  dsimp only
  repeat' split
  all_goals simp [State.Stays, State.requestClaim, State.notReady]

@[simp] theorem State.abandonClaim_stays (s : State) : s.Stays (s.abandonClaim) := by
  unfold State.abandonClaim
  repeat' split
  all_goals simp [State.Stays]

@[simp] theorem State.reportSet_stays (s : State) (c : Claim) (x : Stage) : s.Stays (s.reportSet c x) := by
  unfold State.reportSet
  repeat' split
  all_goals simp [State.Stays]

@[simp] theorem State.reportClear_stays (s : State) (c : Claim) : s.Stays (s.reportClear c) := by
  unfold State.reportClear
  dsimp only
  repeat' split
  all_goals simp [State.Stays]

@[simp] theorem State.reportStage_stays (s : State) (c : Claim) (x : Option Stage) : s.Stays (s.reportStage c x) := by
  unfold State.reportStage
  repeat' split
  all_goals simp [State.Stays]

@[simp] theorem State.moveMachine_stays (s : State) (n : Nat) : s.Stays (s.moveMachine n) := by
  unfold State.moveMachine
  dsimp only
  repeat' split
  all_goals simp [State.Stays]

@[simp] theorem State.resealStart_stays (s : State) (n : Nat) (j : Side) : s.Stays (s.resealStart n j) := by
  unfold State.resealStart
  dsimp only
  repeat' split
  all_goals simp [State.Stays]

@[simp] theorem State.resealFinish_stays (s : State) (j : Side) : s.Stays (s.resealFinish j) := by
  unfold State.resealFinish
  repeat' split
  all_goals simp [State.Stays]

@[simp] theorem State.setMarker_stays (s : State) (m : Nat) : s.Stays (s.setMarker m) := by
  simp [State.Stays, State.setMarker]

@[simp] theorem State.carTravels_stays (s : State) (m : Nat) : s.Stays (s.carTravels m) := by
  unfold State.carTravels
  repeat' split
  all_goals simp [State.Stays]

@[simp] theorem State.carDisplaced_stays (s : State) (k : Claim) (m : Nat) : s.Stays (s.carDisplaced k m) := by
  unfold State.carDisplaced
  repeat' split
  all_goals simp [State.Stays]

@[simp] theorem State.carMoved_stays (s : State) (m : Nat) : s.Stays (s.carMoved m) := by
  unfold State.carMoved
  repeat' split
  all_goals simp [State.Stays]

@[simp] theorem State.readPart_stays (s : State) (l : List Byte) (n p : Nat) : s.Stays (s.readPart l n p) := by
  unfold State.readPart
  repeat' split
  all_goals simp [State.Stays]

end Sys2Proof.Machine
end

section
namespace Sys2Proof.Machine

/-! ## Rows with several outcomes -/

open State

theorem State.execContend_reaches (rivals : List Byte) (s : State) : s.Reaches (execContend rivals s) := by
  refine Leads.reaches ?_
  split
  · exact leads_bind _ _ fun _ => leads_map _ _ fun _ => by simp [Stays, beginFlight]
  · exact leads_none s

theorem State.execFrameEnd_reaches (rx : Reception) (s : State) : s.Reaches (execFrameEnd rx s) := by
  refine Leads.reaches ?_
  split
  · exact leads_onlyIf _ (by simp [Stays])
  · exact leads_some (by simp [Stays])
  all_goals exact leads_none s

theorem State.execSettleOutcome_reaches (vto : Bool) (s : State) : s.Reaches (execSettleOutcome vto s) := by
  refine Leads.reaches ?_
  split <;> exact leads_onlyIf _ (by simp [Stays])

theorem State.execLineBlocked_reaches (s : State) : s.Reaches (execLineBlocked s) := by
  refine Leads.reaches ?_
  split
  · exact leads_map _ _ fun _ => by simp [Stays]
  · exact leads_some (by simp [Stays])
  · exact leads_some (by simp [Stays])
  all_goals exact leads_none s

theorem State.execStopRunEnd_reaches (asserted : Bool) (s : State) : s.Reaches (execStopRunEnd asserted s) :=
  (leads_onlyIf _ (stays_ite (by simp [Stays]) (by simp [Stays]))).reaches

theorem State.execStuckLine_reaches (s : State) : s.Reaches (execStuckLine s) := by
  refine Leads.reaches ?_
  split
  · exact leads_onlyIf _ (by simp [Stays])
  · exact leads_none s

theorem State.execAnnounceTimer_reaches (full : Bool) (s : State) : s.Reaches (execAnnounceTimer full s) := by
  refine (leads_bind _ _ fun _ => ?_).reaches
  split
  · exact leads_some (by simp [Stays])
  · exact leads_onlyIf _ (by simp [Stays])

theorem State.execLeaveTimeout_reaches (s : State) : s.Reaches (execLeaveTimeout s) := by
  refine Leads.reaches ?_
  split
  · exact leads_some (stays_ite (by simp [Stays]) (by simp [Stays]))
  all_goals exact leads_none s

theorem State.execAbandonRetry_reaches (s : State) : s.Reaches (execAbandonRetry s) := by
  refine (leads_map _ _ fun _ => ?_).reaches
  dsimp only
  split <;> simp [Stays]

theorem State.execAbandonWaitTimeout_reaches (s : State) : s.Reaches (execAbandonWaitTimeout s) := by
  refine Leads.reaches ?_
  split
  · exact leads_some (by simp [Stays])
  all_goals exact leads_none s

theorem State.execResealRecordTimerExpiry_reaches (slot : Nat) (s : State) : s.Reaches (execResealRecordTimerExpiry slot s) :=
  (leads_bind _ _ fun _ => leads_onlyIf _ (stays_ite (by simp [Stays]) (by simp [Stays]))).reaches

theorem State.execOvenTick_reaches (s : State) : s.Reaches (execOvenTick s) := by
  refine Leads.reaches ?_
  split
  · exact leads_some (Stays.trans (by simp [Stays]) (foldl_stays _ (fun s i => by simp [Stays]) _ _))
  · exact leads_none s

theorem State.execHeldTimerExpiry_reaches (i : Nat) (s : State) : s.Reaches (execHeldTimerExpiry i s) := by
  refine Leads.reaches ?_
  split
  · exact leads_some (by simp [Stays])
  · exact leads_none s

theorem State.execLostTimerExpiry_reaches (i : Nat) (s : State) : s.Reaches (execLostTimerExpiry i s) := by
  refine (leads_bind _ _ fun _ => ?_).reaches
  split
  · exact leads_some (by simp [Stays])
  · exact leads_none s

theorem State.execChargeTimerExpiry_reaches (i : Nat) (s : State) : s.Reaches (execChargeTimerExpiry i s) := by
  refine Leads.reaches ?_
  split
  · exact leads_some (by simp [Stays])
  · exact leads_none s

theorem State.execLeakLevel_reaches (d : Nat) (level : BitVec 10) (s : State) : s.Reaches (execLeakLevel d level s) := by
  refine Leads.reaches ?_
  split
  · exact leads_some (by simp [Stays])
  · exact leads_none s

theorem State.execSeatTimerExpiry_reaches (d : Nat) (s : State) : s.Reaches (execSeatTimerExpiry d s) := by
  refine Leads.reaches ?_
  split
  · exact leads_some (by simp [Stays])
  · exact leads_none s

theorem State.execLeakingTimerExpiry_reaches (d : Nat) (s : State) : s.Reaches (execLeakingTimerExpiry d s) := by
  refine Leads.reaches ?_
  split
  · exact leads_some (by simp [Stays])
  · exact leads_none s

theorem State.execMismatchWatchExpiry_reaches (d : Nat) (s : State) : s.Reaches (execMismatchWatchExpiry d s) := by
  refine (leads_bind _ _ fun _ => ?_).reaches
  split
  · exact leads_some (by simp [Stays])
  · exact leads_none s

theorem State.execResealTimerExpiry_reaches (d : Nat) (s : State) : s.Reaches (execResealTimerExpiry d s) := by
  refine Leads.reaches ?_
  split
  · exact leads_onlyIf _ (by simp [Stays])
  · exact leads_onlyIf _ (by simp [Stays])
  · exact leads_none s

theorem State.execMoveStart_reaches (s : State) : s.Reaches (execMoveStart s) := by
  refine Leads.reaches ?_
  split
  · exact leads_onlyIf _ (by simp [Stays])
  · exact leads_none s

theorem State.execMoveTimerExpiry_reaches (s : State) : s.Reaches (execMoveTimerExpiry s) := by
  refine Leads.reaches ?_
  split
  · exact leads_onlyIf _ (by simp [Stays])
  · exact leads_none s

theorem State.execQuenchTimeExpiry_reaches (s : State) : s.Reaches (execQuenchTimeExpiry s) := by
  refine Leads.reaches ?_
  split
  · exact leads_onlyIf _ (by simp [Stays])
  · exact leads_none s

theorem State.execDrainTimeExpiry_reaches (s : State) : s.Reaches (execDrainTimeExpiry s) := by
  refine Leads.reaches ?_
  split
  · exact leads_onlyIf _ (by simp [Stays])
  · exact leads_none s

theorem State.execInterByteGap_reaches (s : State) : s.Reaches (execInterByteGap s) := by
  refine Leads.reaches ?_
  split
  · exact leads_none s
  · exact leads_some (by simp [Stays])

theorem State.execMessageSent_reaches (s : State) : s.Reaches (execMessageSent s) := by
  refine Leads.reaches ?_
  split
  · exact leads_some (by simp [Stays])
  · exact leads_none s

theorem State.execLeave_reaches (s : State) : s.Reaches (execLeave s) := by
  refine s.command_reaches _ _ _ _ fun _ => ?_
  split <;> simp [Stays, holdLeave]

theorem State.execConsent_reaches (s : State) : s.Reaches (execConsent s) := by
  refine s.command_reaches _ _ _ _ fun _ => stays_ite (by simp [Stays]) ?_
  split
  · exact stays_ite (by simp [Stays]) (by simp [Stays])
  · simp [Stays]

theorem State.execPushRequest_reaches (s : State) : s.Reaches (execPushRequest s) := by
  refine s.command_reaches _ _ _ _ fun _ => ?_
  unfold requestExplicit requestClaim
  dsimp only
  repeat' split
  all_goals simp [Stays]

theorem State.execPlanChange_reaches (s : State) : s.Reaches (execPlanChange s) := by
  refine s.command_reaches _ _ _ _ fun _ => ?_
  dsimp only
  repeat' split
  all_goals simp [Stays]

theorem State.execStage_reaches (s : State) : s.Reaches (execStage s) := by
  refine s.command_reaches _ _ _ _ fun _ => ?_
  repeat' split
  all_goals simp [Stays]

theorem State.execLevelDone_reaches (s : State) : s.Reaches (execLevelDone s) := by
  refine s.command_reaches _ _ _ _ fun _ => ?_
  dsimp only
  repeat' split
  all_goals simp [Stays]

theorem State.execResealStart_reaches (s : State) : s.Reaches (execResealStart s) := by
  refine s.command_reaches _ _ _ _ fun _ => ?_
  split <;> simp [Stays]

theorem State.execResealFinish_reaches (s : State) : s.Reaches (execResealFinish s) := by
  refine s.command_reaches _ _ _ _ fun _ => ?_
  split <;> simp [Stays]

theorem State.execLoadSensed_reaches (s : State) : s.Reaches (execLoadSensed s) := by
  refine s.carCommand_reaches _ _ _ fun _ => ?_
  repeat' split
  all_goals simp [Stays]

theorem State.execClearCar_reaches (s : State) : s.Reaches (execClearCar s) := by
  refine s.carCommand_reaches _ _ _ fun _ => ?_
  repeat' split
  all_goals simp [Stays]

theorem State.execRestoreOven_reaches (s : State) : s.Reaches (execRestoreOven s) := by
  refine s.command_reaches _ _ _ _ fun b => s.onOven_stays b _ fun _ _ => ?_
  repeat' split
  all_goals simp [Stays, restoreOven]

theorem State.execSetService_reaches (s : State) : s.Reaches (execSetService s) := by
  refine s.command_reaches _ _ _ _ fun b => s.onOven_stays b _ fun _ _ => ?_
  repeat' split
  all_goals simp [Stays, serviceOut]

theorem State.execSetValve_reaches (s : State) : s.Reaches (execSetValve s) := by
  refine s.command_reaches _ _ _ _ fun b => s.onOven_stays b _ fun _ _ => ?_
  unfold setValve releaseValve
  dsimp only
  repeat' split
  all_goals simp [Stays]

theorem State.execClearFault_reaches (s : State) : s.Reaches (execClearFault s) :=
  s.command_reaches _ _ _ _ fun b => s.onOven_stays b _ fun _ _ =>
    stays_ite (by simp [Stays]) (stays_ite (by simp [Stays]) (by simp [Stays]))

theorem State.execFreeDoorLatch_reaches (s : State) : s.Reaches (execFreeDoorLatch s) := by
  have freed (l : List Nat) : s.Stays (l.foldl freeOven s) := foldl_stays freeOven (fun _ _ => by simp [Stays]) l s
  have answered (l : List Nat) : s.Stays ((l.foldl freeOven s).answer .accepted) := (freed l).trans (by simp [Stays])
  exact s.command_reaches _ _ _ _ fun b => stays_ite (answered _) (s.onOven_stays b _ fun _ _ => by simp [Stays])

theorem State.execReadOven_reaches (s : State) : s.Reaches (execReadOven s) := by
  refine s.command_reaches _ _ _ _ fun _ => ?_
  repeat' split
  all_goals simp [Stays]

theorem State.execReadPlan_reaches (s : State) : s.Reaches (execReadPlan s) := by
  refine s.command_reaches _ _ _ _ fun _ => ?_
  split <;> simp [Stays]

theorem State.execMachineAt_reaches (s : State) : s.Reaches (execMachineAt s) := by
  refine s.command_reaches _ _ _ _ fun _ => ?_
  dsimp only
  repeat' split
  all_goals simp [Stays]

theorem State.execCarAt_reaches (s : State) : s.Reaches (execCarAt s) := by
  refine s.carCommand_reaches _ _ _ fun _ => ?_
  dsimp only
  repeat' split
  all_goals simp [Stays]

theorem State.execPark_reaches (s : State) : s.Reaches (execPark s) :=
  s.carCommand_reaches _ _ _ fun _ => by simp [Stays]

theorem State.execSetWallTemp_reaches (s : State) : s.Reaches (execSetWallTemp s) :=
  s.command_reaches _ _ _ _ fun b => s.onOven_stays b _ fun _ _ => by simp [Stays, setWallTemp]

theorem State.execReadStatus_reaches (s : State) : s.Reaches (execReadStatus s) :=
  s.command_reaches _ _ _ _ fun _ => readPart_stays _ _ _ _

theorem State.execReadView_reaches (s : State) : s.Reaches (execReadView s) :=
  s.command_reaches _ _ _ _ fun _ => readPart_stays _ _ _ _

theorem State.execReadClaim_reaches (s : State) : s.Reaches (execReadClaim s) :=
  s.command_reaches _ _ _ _ fun _ => readPart_stays _ _ _ _

theorem State.execReadCar_reaches (s : State) : s.Reaches (execReadCar s) :=
  s.carCommand_reaches _ _ _ fun _ => readPart_stays _ _ _ _

/-! ## START: a configuration once held stands -/

/-- The straps and the queue of rows stay, and so does a configuration that is held. -/
def State.Configures (s t : State) : Prop := t.straps = s.straps ∧ t.pending = s.pending ∧ ∀ c, s.config = some c → t.config = some c

theorem State.Stays.configures {s t : State} (h : s.Stays t) : s.Configures t := by
  obtain ⟨straps, config, pending⟩ := h
  exact ⟨straps, pending, fun _ hc => config.trans hc⟩

theorem State.unlatchAtStart_stays (s : State) (d : Nat) : s.Stays (s.unlatchAtStart d) :=
  stays_ite (by simp [Stays]) (by simp [Stays])

/-- START is accepted only where no configuration is held. -/
theorem State.accept_configures (s : State) (c : Configuration) (inputs : BitVec 16) (h : s.config = none) :
    s.Configures (s.accept c inputs) := by
  have configured : (s.configure c inputs).straps = s.straps ∧ (s.configure c inputs).pending = s.pending := by
    unfold configure
    dsimp only
    split
    · obtain ⟨straps, -, pending⟩ := foldl_stays unlatchAtStart unlatchAtStart_stays (List.range (2 * _)) _
      exact ⟨straps, pending⟩
    all_goals exact ⟨rfl, rfl⟩
  obtain ⟨straps, pending⟩ := configured
  refine ⟨?_, ?_, ?_⟩
  · simp [accept, straps]
  · simp [accept, pending]
  · simp [h]

theorem State.startGate_configures (s : State) (widths : List Nat) (len : Nat) (pass : State)
    (h : s.config = none → s.Configures pass) : s.Configures (s.startGate widths len pass) := by
  have answered (r : Result) (d : Nat) : s.Configures (s.answer r d) := Stays.configures (by simp [Stays])
  unfold startGate startChecks
  split
  · exact answered _ _
  · split
    · exact answered _ _
    · split
      · next free => exact h (by simpa [startable, started] using (Bool.and_eq_true_iff.1 free).2)
      · exact answered _ _

theorem State.startNoPart_configures (s : State) : s.Configures s.startNoPart :=
  Stays.configures (stays_ite (by simp [Stays]) (stays_ite (by simp [Stays]) (by simp [Stays])))

theorem State.startPart0_configures (s : State) (b : List Byte) : s.Configures (s.startPart0 b) := by
  refine s.startGate_configures _ _ _ fun _ => ?_
  dsimp only
  split <;> exact Stays.configures (by simp [Stays])

theorem State.startPart1_configures (s : State) (b : List Byte) (inputs : BitVec 16) : s.Configures (s.startPart1 b inputs) := by
  refine (s.withStaged none).startGate_configures _ _ _ fun free => ?_
  split
  · exact Stays.configures (by simp [Stays])
  · dsimp only
    split
    · exact Stays.configures (by simp [Stays])
    · exact accept_configures _ _ _ free

theorem State.startOther_configures (s : State) (b : List Byte) (inputs : BitVec 16) : s.Configures (s.startOther b inputs) := by
  refine s.startGate_configures _ _ _ fun free => ?_
  split
  · exact Stays.configures (by simp [Stays])
  · exact accept_configures _ _ _ free

theorem State.startBody_configures (s : State) (b : List Byte) (inputs : BitVec 16) : s.Configures (s.startBody b inputs) := by
  unfold startBody
  split
  · exact Stays.configures (by simp [Stays])
  · split
    · exact s.startPart0_configures b
    · split
      · exact s.startPart1_configures b inputs
      · exact s.startNoPart_configures
  · split
    · exact s.startOther_configures b inputs
    · exact s.startNoPart_configures

theorem State.execStart_configures (inputs : BitVec 16) (s : State) : ∃ t, execStart inputs s = .next t ∧ s.Configures t := by
  unfold execStart event
  refine ⟨_, rfl, ?_⟩
  cases s.beginning fun k => decide (k.toNat = 0x01) with
  | none => exact Stays.configures ⟨rfl, rfl, rfl⟩
  | some c =>
    obtain ⟨straps, pending, config⟩ := s.startBody_configures c.body inputs
    refine ⟨?_, ?_, fun k hk => ?_⟩
    · simp [straps]
    · simp [pending]
    · simp [config k hk]

/-! ## Every row -/

/-- Every row but HARDWARE_RESET and START leads to a next state in which straps, configuration and queue of rows are the same. -/
theorem exec_reaches (i : Instr) (s : State) (reset : ∀ id role line port input, i ≠ .hardwareReset id role line port input)
    (start : ∀ inputs, i ≠ .start inputs) : s.Reaches (exec i s) := by
  cases i with
  | hardwareReset => exact absurd rfl (reset _ _ _ _ _)
  | start => exact absurd rfl (start _)
  | idleGapComplete => exact (leads_onlyIf _ (by simp [Stays])).reaches
  | contend => exact execContend_reaches _ s
  | otherStartBit => exact (leads_onlyIf _ (by simp [Stays])).reaches
  | idClash => exact (leads_onlyIf _ (stays_ite (by simp [Stays]) (by simp [Stays]))).reaches
  | voidFrame => exact (leads_onlyIf _ (by simp [Stays])).reaches
  | frameEnd => exact execFrameEnd_reaches _ s
  | consentTimeout => exact (leads_map _ _ fun _ => by simp [Stays]).reaches
  | holdTimeout => exact (leads_bind _ _ fun _ => leads_onlyIf _ (by simp [Stays])).reaches
  | settleOutcome => exact execSettleOutcome_reaches _ s
  | lineBlocked => exact execLineBlocked_reaches s
  | blockedCleared => exact (leads_onlyIf _ (by simp [Stays])).reaches
  | stopRunDetected => exact (leads_onlyIf _ (by simp [Stays])).reaches
  | stopRunEnd => exact execStopRunEnd_reaches _ s
  | stuckLine => exact execStuckLine_reaches s
  | unnotedMarkExpiry => exact (leads_map _ _ fun _ => by simp [Stays]).reaches
  | stopInputAsserted => exact (leads_onlyIf _ (stays_ite (by simp [Stays]) (by simp [Stays]))).reaches
  | stopInputClear => exact (leads_onlyIf _ (by simp [Stays])).reaches
  | censusTimerExpiry => exact (leads_map _ _ fun _ => by simp [Stays]).reaches
  | announceTimer => exact execAnnounceTimer_reaches _ s
  | leaveTimeout => exact execLeaveTimeout_reaches s
  | ovenTick => exact execOvenTick_reaches s
  | heldTimerExpiry => exact execHeldTimerExpiry_reaches _ s
  | pressureSample => exact (leads_map _ _ fun _ => by simp [Stays]).reaches
  | sampleWatchExpiry => exact (leads_map _ _ fun _ => by simp [Stays]).reaches
  | lostTimerExpiry => exact execLostTimerExpiry_reaches _ s
  | mainSample => exact (leads_bind _ _ fun _ => leads_onlyIf _ (by simp [Stays])).reaches
  | mainReportTimer => exact (leads_map _ _ fun _ => by simp [Stays]).reaches
  | chargeTimerExpiry => exact execChargeTimerExpiry_reaches _ s
  | latchEvent => exact (leads_bind _ _ fun _ => leads_onlyIf _ (by simp [Stays])).reaches
  | leakLevel => exact execLeakLevel_reaches _ _ s
  | seatTimerExpiry => exact execSeatTimerExpiry_reaches _ s
  | leakingTimerExpiry => exact execLeakingTimerExpiry_reaches _ s
  | callTimerExpiry => exact (leads_map _ _ fun _ => by simp [Stays]).reaches
  | mismatchWatchExpiry => exact execMismatchWatchExpiry_reaches _ s
  | resealTimerExpiry => exact execResealTimerExpiry_reaches _ s
  | resealRecordTimerExpiry => exact execResealRecordTimerExpiry_reaches _ s
  | planTimerExpiry => exact (leads_map _ _ fun _ => by simp [Stays]).reaches
  | chainOpens => exact (leads_onlyIf _ (by simp [Stays])).reaches
  | chainClosed => exact (leads_onlyIf _ (by simp [Stays])).reaches
  | revokeRetryTimer => exact (leads_map _ _ fun _ => by simp [Stays]).reaches
  | moveStart => exact execMoveStart_reaches s
  | moveTimerExpiry => exact execMoveTimerExpiry_reaches s
  | quenchTimeExpiry => exact execQuenchTimeExpiry_reaches s
  | drainTimeExpiry => exact execDrainTimeExpiry_reaches s
  | readyRetryTimer => exact (leads_map _ _ fun _ => by simp [Stays]).reaches
  | claimTimerExpiry => exact (leads_bind _ _ fun _ => leads_onlyIf _ (by simp [Stays])).reaches
  | abandonRetry => exact execAbandonRetry_reaches s
  | abandonWaitTimeout => exact execAbandonWaitTimeout_reaches s
  | messageReceived => exact (leads_some (foldl_stays receiveByte (fun _ _ => by simp [Stays]) _ s)).reaches
  | interByteGap => exact execInterByteGap_reaches s
  | messageSent => exact execMessageSent_reaches s
  | unassignedCommand => exact (leads_map _ _ fun _ => by simp [Stays]).reaches
  | rejoin => exact s.command_reaches _ _ _ _ fun _ => stays_ite (by simp [Stays]) (by simp [Stays])
  | leave => exact execLeave_reaches s
  | stop => exact s.command_reaches _ _ _ _ fun _ => stays_ite (by simp [Stays]) (by simp [Stays])
  | resume => exact s.command_reaches _ _ _ _ fun _ => stays_ite (by simp [Stays]) (stays_ite (by simp [Stays]) (stays_ite (by simp [Stays]) (stays_ite (by simp [Stays]) (by simp [Stays]))))
  | consent => exact execConsent_reaches s
  | pushRequest => exact execPushRequest_reaches s
  | abandon => exact s.command_reaches _ _ _ _ fun _ => stays_ite (by simp [Stays]) (stays_ite (by simp [Stays]) (stays_ite (by simp [Stays]) (by simp [Stays])))
  | stage => exact execStage_reaches s
  | machineAt => exact execMachineAt_reaches s
  | levelDone => exact execLevelDone_reaches s
  | resealStart => exact execResealStart_reaches s
  | resealFinish => exact execResealFinish_reaches s
  | carAt => exact execCarAt_reaches s
  | loadSensed => exact execLoadSensed_reaches s
  | gateClosed => exact s.carCommand_reaches _ _ _ fun _ => stays_ite (by simp [Stays]) (by simp [Stays])
  | park => exact execPark_reaches s
  | clearCar => exact execClearCar_reaches s
  | setWallTemp => exact execSetWallTemp_reaches s
  | restoreOven => exact execRestoreOven_reaches s
  | setService => exact execSetService_reaches s
  | setValve => exact execSetValve_reaches s
  | clearFault => exact execClearFault_reaches s
  | freeDoorLatch => exact execFreeDoorLatch_reaches s
  | planChange => exact execPlanChange_reaches s
  | readStatus => exact execReadStatus_reaches s
  | readView => exact execReadView_reaches s
  | readClaim => exact execReadClaim_reaches s
  | readOven => exact execReadOven_reaches s
  | readPlan => exact execReadPlan_reaches s
  | readCar => exact execReadCar_reaches s
  | holdOrVetoAssertedInIdle => exact (leads_onlyIf _ (by simp [Stays])).reaches
  | minimumHoldElapsed => exact (leads_bind _ _ fun _ => leads_onlyIf _ (by simp [Stays])).reaches
  | dominantBitInSettle => exact (leads_bind _ _ fun _ => leads_onlyIf _ (by simp [Stays])).reaches

theorem execHardwareReset_pending (id : BitVec 5) (role line port : BitVec 2) (input : Bool) (s : State) :
    ∃ t, exec (.hardwareReset id role line port input) s = .next t ∧ t.pending = s.pending := ⟨_, rfl, rfl⟩

end Sys2Proof.Machine

open Sys2Proof Sys2Proof.Machine

/-- Settles O3: HARDWARE_RESET, START and the other rows apart. -/
theorem everyRowAnswersAndKeepsConfiguration : Obligations.EveryRowAnswersAndKeepsConfiguration := by
  refine ⟨fun i s => ?_, fun i s t reset ht => ?_⟩
  · by_cases reset : ∀ id role line port input, i ≠ .hardwareReset id role line port input
    · by_cases start : ∀ inputs, i ≠ .start inputs
      · obtain ⟨t, ht, -, -, pending⟩ := exec_reaches i s reset start
        exact ⟨t, ht, pending⟩
      · simp only [not_forall, not_not] at start
        obtain ⟨inputs, rfl⟩ := start
        obtain ⟨t, ht, -, pending, -⟩ := s.execStart_configures inputs
        exact ⟨t, ht, pending⟩
    · simp only [not_forall, not_not] at reset
      obtain ⟨id, role, line, port, input, rfl⟩ := reset
      exact execHardwareReset_pending id role line port input s
  · have configures : ∃ u, exec i s = .next u ∧ s.Configures u := by
      by_cases start : ∀ inputs, i ≠ .start inputs
      · obtain ⟨u, hu, stays⟩ := exec_reaches i s reset start
        exact ⟨u, hu, stays.configures⟩
      · simp only [not_forall, not_not] at start
        obtain ⟨inputs, rfl⟩ := start
        exact s.execStart_configures inputs
    obtain ⟨u, hu, straps, -, config⟩ := configures
    cases hu.symm.trans ht
    exact ⟨straps, config⟩

end

section
/-! PROOFS. A millisecond of an empty queue (O2). -/

namespace Sys2Proof.Machine

/-- A timer that a millisecond of the statement runs is the model's. -/
theorem run_eq_runTimer {run : Nat → Option Nat → Option Nat} (stopped : ∀ limit, run limit none = none)
    (running : ∀ limit x, run limit (some x) = some (min (x + 1) limit)) : run = runTimer 1 := by
  funext limit t
  cases t with
  | none => exact stopped limit
  | some x => exact running limit x

/-- The parts that passing time does not touch. -/
theorem State.elapse_sameBut (s : State) (d : Nat) :
    SameBut [.life, .time, .line, .table, .claims, .stop, .bank, .plan, .machine, .car, .port] s (s.elapse d) := by
  intro p hp
  cases p with
  | straps | config | staged | queue | out | free | pending => rfl
  | life | time | line | table | claims | stop | bank | plan | machine | car | port => exact absurd hp (by decide)

/-- Where a running claim timer stands after a millisecond. -/
theorem Claim.elapse_one (limit : Nat) (stopped : Bool) (c : Claim) :
    c.elapse 1 limit stopped = if stopped = false ∧ c.ending = .opened then { c with timer := min (c.timer + 1) limit } else c := by
  simp only [Claim.elapse, and_comm]

theorem Line.elapse_one (l : Line) : l.elapse 1 = { l with
    dat := if l.dat = .stopPulse then .released else l.dat
    window := l.window.map fun w => { w with timer := min (w.timer + 1) 100 }
    run := runTimer 1 1000 l.run } := by
  simp [Line.elapse, Config.blockedLimit, Config.stuckLimit]

theorem State.elapse_bank (s : State) (d : Nat) {p0 : BankPart0} {p1 : BankPart1} {n limit : Nat} {m : ConsentMask}
    (h : s.config = some ⟨n, limit, m, .bank p0 p1⟩) : (s.elapse d).bank = s.bank.elapse d s.stop.stopped (some (p0, p1)) := by
  simp [State.elapse, State.bankConfig, h]

end Sys2Proof.Machine

open Sys2Proof Sys2Proof.Machine

/-- Settles O2: the step is `elapse 1`, unit by unit. -/
theorem emptyQueuePassesOneMillisecond : Obligations.EmptyQueuePassesOneMillisecond := by
  intro s run empty stopped running
  obtain rfl := run_eq_runTimer stopped running
  refine ⟨s.elapse 1, ?_, s.elapse_sameBut 1, rfl, rfl, rfl, Line.elapse_one _, rfl, rfl, rfl, ?_, ?_, ?_, ?_, ?_, ?_⟩
  · simp [step, empty, State.idle]
  · rfl
  · simp only [State.elapse, Tracker.elapse, funext (Claim.elapse_one s.pushLimit s.stop.stopped)]
    rfl
  · intro p0 p1 n limit m h
    exact s.elapse_bank 1 h
  · intro h
    simp [State.elapse, h, Bank.elapse]
  · intro quench drain move n limit m h
    simp only [State.elapse, State.carConfig, h, Car.elapse, Car.phaseLimit]
  · intro h
    simp [State.elapse, h, Car.elapse]

end

section
/-! PROOFS. The judgement of a frame, check by check (O33, O35). -/

namespace Sys2Proof.Machine

/-! ## Records that checks look at -/

theorem State.openClaim_isSome (s : State) : s.openClaim.isSome = true ↔ ∃ r, s.claims.record = some r ∧ r.ending = .opened := by
  simp [State.openClaim, Option.any_eq_true]

theorem State.mem_openReseals (s : State) (r : Reseal) : r ∈ s.openReseals ↔ some r ∈ s.claims.reseals ∧ r.ending = .opened := by
  simp [State.openReseals, Reseal.isOpen]

/-- An open reseal record of oven n, whatever its side. -/
theorem State.resealOn_either (s : State) (n : Nat) :
    (s.resealOn n .ps || s.resealOn n .cs) = true ↔ ∃ r, some r ∈ s.claims.reseals ∧ r.ending = .opened ∧ r.oven = n := by
  have side (r : Reseal) : r.side = .ps ∨ r.side = .cs := by cases r.side <;> simp
  simp only [Bool.or_eq_true, State.resealOn, List.any_eq_true, decide_eq_true_eq, s.mem_openReseals]
  constructor
  · rintro (⟨r, ⟨mem, ending⟩, oven, -⟩ | ⟨r, ⟨mem, ending⟩, oven, -⟩) <;> exact ⟨r, mem, ending, oven⟩
  · rintro ⟨r, mem, ending, oven⟩
    exact (side r).imp (fun h => ⟨r, ⟨mem, ending⟩, oven, h⟩) fun h => ⟨r, ⟨mem, ending⟩, oven, h⟩

theorem serialExpected_iff (highest serial : Nat) : serialExpected highest serial = true ↔ highest = 0 ∨ serial = highest % 255 + 1 := by
  rw [serialExpected, nextSerial, Bool.or_eq_true, decide_eq_true_eq, decide_eq_true_eq]

/-! ## The judgement by station state -/

theorem State.judge_listenOnly (s : State) (own : Bool) (f : Frame) (h : s.life.state = .listenOnly) : s.judge own f = .take := by
  simp [State.judge, h]

theorem State.judge_joining (s : State) (own : Bool) (f : Frame) (h : s.life.state = .joining) : s.judge own f = s.judgeJoining own f.body := by
  simp [State.judge, h]

theorem State.judge_onLine (s : State) (own : Bool) (f : Frame) (h : s.life.state = .onLine) :
    s.judge own f = s.judgeOnLine own f.sender f.body := by
  simp [State.judge, h]

/-- A joining station and a claim on oven n. -/
theorem State.judgeClaimJoining_eq (s : State) (n : Nat) :
    s.judgeClaimJoining n = if s.ovenIndex n = none then .take else .veto .ownerJoining := by
  unfold State.judgeClaimJoining
  cases s.ovenIndex n <;> simp

/-! ## PUSH_CLAIM -/

/-- The common checks, the last two as the statement has them. -/
theorem State.claimChecks_eq (s : State) (sender n c : Nat) (running : s.stop.stopped = false)
    (role : (s.entry sender).role = some .pusher) (serial : s.claims.highest = 0 ∨ c = s.claims.highest % 255 + 1) :
    s.claimChecks sender n c =
      if s.openClaim.isSome then some .claimBusy else if s.resealOn n .ps || s.resealOn n .cs then some .resealOpen else none := by
  have expected := (serialExpected_iff s.claims.highest c).2 serial
  simp [State.claimChecks, firstCause, running, State.hasRole, role, expected]

theorem State.bankClaimChecks_eq {s : State} {p : BankPart0} {i : Nat} {forced : Bool} {o : Oven} {x y : Door} {l : Loop}
    (oven : s.bank.ovens[i]? = some o) (ps : s.bank.doors[2 * i]? = some x) (cs : s.bank.doors[2 * i + 1]? = some y)
    (loop : s.bank.loops[i]? = some l) :
    s.bankClaimChecks p i forced =
      if o.state ≠ .coking ∨ o.credit < (if forced = true then 64 * p.target - 3840 else 64 * p.target) then some .notReady
      else if x.latch = .unlatched ∨ y.latch = .unlatched ∨ x.sealing ∉ [Seal.tight, .weeping, .leaking] ∨
          y.sealing ∉ [Seal.tight, .weeping, .leaking] then some .doorState
      else if l.mode = .manual ∨ l.mode = .released ∨ l.lost = true then some .regulator
      else none := by
  have unfit (z : Door) : z.unfit = true ↔ z.latch = .unlatched ∨ z.sealing ∉ [Seal.tight, .weeping, .leaking] := by
    simp [Door.unfit, and_assoc]
  have doors : s.anyDoor i Door.unfit = true ↔ x.latch = .unlatched ∨ y.latch = .unlatched ∨ x.sealing ∉ [Seal.tight, .weeping, .leaking] ∨
      y.sealing ∉ [Seal.tight, .weeping, .leaking] := by
    simp only [State.anyDoor, doorIndex, Side.index, State.door?, Nat.add_zero, ps, cs, Option.any_some, Bool.or_eq_true, unfit]
    tauto
  have regulator : (s.loop? i).any Loop.unfit = true ↔ l.mode = .manual ∨ l.mode = .released ∨ l.lost = true := by
    simp [State.loop?, loop, Loop.unfit, or_assoc]
  have short : ((s.oven? i).any fun o => creditShort p forced o.credit) = true ↔
      o.credit < (if forced = true then 64 * p.target - 3840 else 64 * p.target) := by
    rw [State.oven?, oven, Option.any_some, creditShort, decide_eq_true_eq, BankPart0.creditTarget]
  have coking : (!(s.oven? i).any fun o => decide (o.state = .coking)) = true ↔ o.state ≠ .coking := by
    simp [State.oven?, oven]
  simp only [State.bankClaimChecks, firstCause, coking, short, doors, regulator]
  exact (ite_or _ _ _ _).symm

/-- A judgement whose first check is known. -/
theorem judgement_ite {p : Prop} [Decidable p] (c : Cause) (rest : Option Cause) (asks : Bool) :
    judgement (if p then some c else rest) asks = if p then .veto c else judgement rest asks := by
  split <;> rfl

theorem judgement_none (asks : Bool) : judgement none asks = if asks = true then .ask else .take := rfl

/-- The consent mask of the configuration held. -/
theorem State.consent_eq {s : State} {n limit : Nat} {m : ConsentMask} {r : RoleConfig} (h : s.config = some ⟨n, limit, m, r⟩) :
    s.consent = m := by
  simp [State.consent, h]

theorem State.guideJudgement_eq (s : State) (n : Nat) (asks : Bool) :
    judgement (s.guideClaimChecks n) asks =
      if s.machine.position ≠ n then .veto .position
      else if (s.openReseals.any fun r => decide (r.side = .cs)) = true then .veto .resealOpen
      else if s.owner? n = none then .veto .ownerAbsent
      else if asks = true then .ask else .take := by
  simp only [State.guideClaimChecks, firstCause, judgement_ite, judgement_none, decide_eq_true_eq, Option.isNone_iff_eq_none]

theorem State.carJudgement_eq (s : State) (n : Nat) (asks : Bool) :
    judgement (s.carClaimChecks n) asks =
      if s.car.state ≠ .spotted ∨ s.car.marker ≠ n ∨ s.car.load ≠ .none then .veto .car
      else if s.owner? n = none then .veto .ownerAbsent
      else if asks = true then .ask else .take := by
  have car : (!(decide (s.car.state = .spotted) && decide (s.car.marker = n) && decide (s.car.load = .none))) = true ↔
      s.car.state ≠ .spotted ∨ s.car.marker ≠ n ∨ s.car.load ≠ .none := by
    simp [or_assoc]
  simp only [State.carClaimChecks, firstCause, judgement_ite, judgement_none, car, Option.isNone_iff_eq_none]

/-- A claim that passes the common checks is judged by the station's role. -/
theorem State.judgePushClaim_passed {s : State} {sender n c : Nat} {forced : Bool} (h : s.claimChecks sender n c = none) :
    s.judgePushClaim sender n c forced =
      match s.role with
      | .bank =>
        match s.bankConfig, s.ovenIndex n with
        | some (p, _), some i => judgement (s.bankClaimChecks p i forced) s.consent.pushClaim
        | _, _ => .take
      | .guide => judgement (s.guideClaimChecks n) s.consent.pushClaim
      | .quench => judgement (s.carClaimChecks n) s.consent.pushClaim
      | .pusher => .take := by
  simp only [State.judgePushClaim, h] <;> rfl

/-- One that does not is vetoed with the first cause. -/
theorem State.judgePushClaim_vetoed {s : State} {sender n c : Nat} {forced : Bool} {x : Cause} (h : s.claimChecks sender n c = some x) :
    s.judgePushClaim sender n c forced = .veto x := by
  simp only [State.judgePushClaim, h]

end Sys2Proof.Machine

open Sys2Proof Sys2Proof.Machine

/-- Settles O33: the common checks one by one, then the checks of each role. -/
theorem pushClaimJudged : Obligations.PushClaimJudged := by
  intro s f n c forced hb
  refine ⟨fun joining => ?_, fun listening => s.judge_listenOnly _ _ listening, fun onLine => ?_⟩
  · rw [s.judge_joining _ _ joining, hb]
    exact s.judgeClaimJoining_eq n
  have judged : s.judge false f = s.judgePushClaim f.sender n c forced := by rw [s.judge_onLine _ _ onLine, hb]; rfl
  rw [judged]
  refine ⟨fun stopped => ?_, fun running => ⟨fun other => ?_, fun pusher => ⟨fun known stale => ?_, fun serial => ?_⟩⟩⟩
  · exact State.judgePushClaim_vetoed (by simp [State.claimChecks, firstCause, stopped])
  · exact State.judgePushClaim_vetoed (by simp [State.claimChecks, firstCause, running, State.hasRole, other])
  · have unexpected : serialExpected s.claims.highest c = false := by
      simpa [known, stale] using mt (serialExpected_iff s.claims.highest c).1
    exact State.judgePushClaim_vetoed (by simp [State.claimChecks, firstCause, running, State.hasRole, pusher, unexpected])
  have checks := s.claimChecks_eq f.sender n c running pusher serial
  refine ⟨fun r record opened => ?_, fun closed => ⟨fun r record opened oven => ?_, fun others => ?_⟩⟩
  · exact State.judgePushClaim_vetoed (checks.trans (if_pos (s.openClaim_isSome.2 ⟨r, record, opened⟩)))
  all_goals
    have noClaim : ¬ s.openClaim.isSome = true := fun h => by
      obtain ⟨r, record, opened⟩ := s.openClaim_isSome.1 h
      exact closed r record opened
    rw [if_neg noClaim] at checks
  · exact State.judgePushClaim_vetoed (checks.trans (if_pos ((s.resealOn_either n).2 ⟨r, record, opened, oven⟩)))
  have noReseal : ¬ (s.resealOn n .ps || s.resealOn n .cs) = true := fun h => by
    obtain ⟨r, record, opened, oven⟩ := (s.resealOn_either n).1 h
    exact others r record opened oven
  have passed := State.judgePushClaim_passed (forced := forced) (checks.trans (if_neg noReseal))
  refine ⟨fun role => ?_, fun role oven => ?_, fun p0 p1 cfgN lim m i o x y l need role config oven record ps cs loop hneed => ?_,
    fun role => ?_, fun role => ?_⟩
  · rw [passed, role]
  · rw [passed, role, oven]
    cases s.bankConfig <;> rfl
  · have bank : s.bankConfig = some (p0, p1) := by simp [State.bankConfig, config]
    rw [passed, role, bank, oven, State.consent_eq config, hneed]
    simp only [State.bankClaimChecks_eq record ps cs loop, judgement_ite, judgement_none]
  · rw [passed, role]
    exact s.guideJudgement_eq n _
  · rw [passed, role]
    exact s.carJudgement_eq n _

end

section
/-! PROOFS. The judgement of the other frames, check by check (O35). -/

namespace Sys2Proof.Machine

/-! ## Reseal frames -/

theorem Side.ofCode_code (j : Side) : Side.ofCode? j.code = some j := by cases j <;> rfl

/-- No side has a code above 1. -/
theorem Side.ofCode_none {n : Nat} (h : 2 ≤ n) : Side.ofCode? n = none := by
  match n, h with
  | n + 2, _ => rfl

theorem State.claimOn_isSome (s : State) (n : Nat) :
    (s.claimOn n).isSome = true ↔ (s.claims.record.any fun c => decide (c.ending = .opened ∧ c.oven = n)) = true := by
  unfold State.claimOn State.openClaim
  cases s.claims.record with
  | none => simp
  | some c => by_cases opened : c.ending = .opened <;> by_cases oven : c.oven = n <;> simp [Option.filter, opened, oven]

theorem State.resealChecks_eq (s : State) (sender n r : Nat) (j : Side) :
    s.resealChecks sender n j.code r =
      if s.stop.stopped = true then some .stopped
      else if (s.entry sender).role ≠ some j.role then some .role
      else if s.claims.highestReseal ≠ 0 ∧ r ≠ s.claims.highestReseal % 255 + 1 then some .staleSerial
      else if (s.openReseals.any fun y => decide (y.oven = n ∧ y.side = j)) = true ∨ 4 ≤ s.openReseals.length then some .resealOpen
      else if (s.claims.record.any fun c => decide (c.ending = .opened ∧ c.oven = n)) = true then some .claimBusy
      else if s.owner? n = none then some .ownerAbsent
      else none := by
  have role : (!s.servesSide sender j.code) = true ↔ (s.entry sender).role ≠ some j.role := by
    simp [State.servesSide, Side.ofCode_code, State.hasRole]
  have serial : (!serialExpected s.claims.highestReseal r) = true ↔
      s.claims.highestReseal ≠ 0 ∧ r ≠ s.claims.highestReseal % 255 + 1 := by
    rw [Bool.not_eq_true', ← Bool.not_eq_true, serialExpected_iff, not_or]
  have taken : ((Side.ofCode? j.code).any (s.resealOn n) || decide (4 ≤ s.openReseals.length)) = true ↔
      (s.openReseals.any fun y => decide (y.oven = n ∧ y.side = j)) = true ∨ 4 ≤ s.openReseals.length := by
    rw [Side.ofCode_code, Option.any_some, Bool.or_eq_true, decide_eq_true_eq, State.resealOn]
  simp only [State.resealChecks, firstCause, role, serial, taken, s.claimOn_isSome, Option.isNone_iff_eq_none]

/-- A side that does not exist has no role to serve it. -/
theorem State.resealChecks_noSide (s : State) (sender n r : Nat) {j : Nat} (h : 2 ≤ j) :
    s.resealChecks sender n j r = if s.stop.stopped = true then some .stopped else some .role := by
  simp [State.resealChecks, firstCause, State.servesSide, Side.ofCode_none h]

theorem OvenState.barsReseal_iff (o : OvenState) : o.barsReseal = true ↔ o ∈ [OvenState.unknown, .claimed, .pushing, .held] := by
  cases o <;> decide

theorem Seal.barsReseal_iff (x : Seal) : x.barsReseal = true ↔ x ∈ [Seal.off, .resealing, .seating] := by
  cases x <;> decide

theorem State.resealDoorChecks_eq (s : State) (i : Nat) (j : Side) :
    s.resealDoorChecks i j.code =
      if ((s.bank.ovens[i]?).any fun o => decide (o.state ∈ [.unknown, .claimed, .pushing, .held])) = true ∨
          ((s.bank.doors[doorIndex i j]?).any fun x => decide (x.sealing ∈ [.off, .resealing, .seating])) = true then
        some .doorState
      else none := by
  have oven : (fun o : Oven => o.state.barsReseal) = fun o => decide (o.state ∈ [OvenState.unknown, .claimed, .pushing, .held]) :=
    funext fun o => by rw [Bool.eq_iff_iff, OvenState.barsReseal_iff, decide_eq_true_eq]
  have door : (fun x : Door => x.sealing.barsReseal) = fun x => decide (x.sealing ∈ [Seal.off, .resealing, .seating]) :=
    funext fun x => by rw [Bool.eq_iff_iff, Seal.barsReseal_iff, decide_eq_true_eq]
  simp only [State.resealDoorChecks, firstCause, Side.ofCode_code, Option.any_some, State.oven?, State.door?, oven, door]
  exact (ite_or _ _ _ _).symm

theorem State.judgeResealClaim_eq (s : State) (sender n r : Nat) (j : Side) :
    s.judgeResealClaim sender n j.code r =
      if s.stop.stopped = true then .veto .stopped
      else if (s.entry sender).role ≠ some j.role then .veto .role
      else if s.claims.highestReseal ≠ 0 ∧ r ≠ s.claims.highestReseal % 255 + 1 then .veto .staleSerial
      else if (s.openReseals.any fun y => decide (y.oven = n ∧ y.side = j)) = true ∨ 4 ≤ s.openReseals.length then .veto .resealOpen
      else if (s.claims.record.any fun c => decide (c.ending = .opened ∧ c.oven = n)) = true then .veto .claimBusy
      else if s.owner? n = none then .veto .ownerAbsent
      else match s.ovenIndex n with
        | none => .take
        | some i =>
          if ((s.bank.ovens[i]?).any fun o => decide (o.state ∈ [.unknown, .claimed, .pushing, .held])) = true ∨
              ((s.bank.doors[doorIndex i j]?).any fun x => decide (x.sealing ∈ [.off, .resealing, .seating])) = true then
            .veto .doorState
          else if s.consent.resealClaim = true then .ask else .take := by
  unfold State.judgeResealClaim
  rw [s.resealChecks_eq]
  cases s.ovenIndex n with
  | none => split_ifs <;> rfl
  | some i =>
    simp only [s.resealDoorChecks_eq, judgement_ite, judgement_none]
    split_ifs <;> rfl

theorem State.mayEndReseal_iff (s : State) (sender n o : Nat) (j : Side) :
    s.mayEndReseal sender n j.code o = true ↔
      (o = 0 ∧ (s.entry sender).role = some j.role) ∨ (o = 1 ∧ (s.entry sender).covers n = true) := by
  unfold State.mayEndReseal
  rw [Side.ofCode_code]
  match o with
  | 0 => simp [ResealEnd.ofOutcome?, State.hasRole]
  | 1 => simp [ResealEnd.ofOutcome?, State.bankCovers]
  | o + 2 => simp [ResealEnd.ofOutcome?]

theorem Side.code_inj {i j : Side} : i.code = j.code ↔ i = j := by cases i <;> cases j <;> decide

/-- A record bars a RESEAL_DONE: of its serial, and ended, of another oven or of the other side. -/
theorem State.barsDone_any (s : State) (n r : Nat) (j : Side) :
    ((s.claims.reseals.filterMap id).any (Reseal.barsDone n j.code r)) = true ↔
      (s.claims.reseals.any fun y => y.any fun z =>
        decide (z.serial = r ∧ (z.ending ≠ .opened ∨ z.oven ≠ n ∨ z.side ≠ j))) = true := by
  have bars (z : Reseal) : z.barsDone n j.code r = true ↔ z.serial = r ∧ (z.ending ≠ .opened ∨ z.oven ≠ n ∨ z.side ≠ j) := by
    simp [Reseal.barsDone, Reseal.isOpen, Side.code_inj]
  simp only [List.any_eq_true, List.mem_filterMap, id_eq, Option.any_eq_true, decide_eq_true_eq, bars]
  constructor
  · rintro ⟨z, ⟨_, mem, rfl⟩, h⟩
    exact ⟨_, mem, z, rfl, h⟩
  · rintro ⟨_, mem, z, rfl, h⟩
    exact ⟨z, ⟨_, mem, rfl⟩, h⟩

theorem State.judgeResealDone_eq (s : State) (sender n r o : Nat) (j : Side) :
    judgement (s.judgeResealDone sender n j.code r o) false =
      if ¬((o = 0 ∧ (s.entry sender).role = some j.role) ∨ (o = 1 ∧ (s.entry sender).covers n = true)) then .veto .role
      else if (s.claims.reseals.any fun y => y.any fun z =>
        decide (z.serial = r ∧ (z.ending ≠ .opened ∨ z.oven ≠ n ∨ z.side ≠ j))) = true then .veto .staleSerial
      else .take := by
  have role : (!s.mayEndReseal sender n j.code o) = true ↔
      ¬((o = 0 ∧ (s.entry sender).role = some j.role) ∨ (o = 1 ∧ (s.entry sender).covers n = true)) := by
    rw [Bool.not_eq_true', ← Bool.not_eq_true, s.mayEndReseal_iff]
  simp only [State.judgeResealDone, firstCause, judgement_ite, role, s.barsDone_any]
  rfl

/-! ## CHARGED and RESUME -/

theorem Door.barsCharge_iff (x : Door) :
    x.barsCharge = true ↔ x.latch = .unlatched ∨ x.sealing ∈ [Seal.off, .resealing, .unlatchedUnexpected] := by
  unfold Door.barsCharge
  rw [Bool.or_eq_true, decide_eq_true_eq]
  cases x.sealing <;> simp

theorem State.judgeCharged_eq (s : State) (sender n : Nat) :
    judgement (s.judgeCharged sender n) false =
      if s.stop.stopped = true then .veto .stopped
      else match s.ovenIndex n with
        | none => .take
        | some i =>
          if (s.entry sender).role ≠ some .pusher then .veto .role
          else if ((s.bank.ovens[i]?).any fun o => decide (o.state = .empty)) = false then .veto .notReady
          else if ([doorIndex i .ps, doorIndex i .cs].any fun d => (s.bank.doors[d]?).any fun x =>
            decide (x.latch = .unlatched ∨ x.sealing ∈ [.off, .resealing, .unlatchedUnexpected])) = true then .veto .doorState
          else .take := by
  have bars : Door.barsCharge = fun x => decide (x.latch = .unlatched ∨ x.sealing ∈ [Seal.off, .resealing, .unlatchedUnexpected]) :=
    funext fun x => by rw [Bool.eq_iff_iff, Door.barsCharge_iff, decide_eq_true_eq]
  unfold State.judgeCharged
  cases s.ovenIndex n with
  | none => split <;> rfl
  | some i =>
    have role : (!s.hasRole sender .pusher) = true ↔ (s.entry sender).role ≠ some .pusher := by simp [State.hasRole]
    simp only [judgement_ite, firstCause, role, Bool.not_eq_true', State.oven?, State.anyDoor, State.door?, bars, List.any_cons,
      List.any_nil, Bool.or_false]
    rfl

theorem State.judgeResume_eq (s : State) (r : Nat) :
    s.judgeResume r =
      if s.life.state = .onLine ∧ (s.stop.mark ≠ none ∨ (s.stop.highest ≠ 0 ∧ r ≠ s.stop.highest)) then .veto .staleSerial
      else if s.stop.input = true then .veto .localStop
      else if s.consent.resume = true then .ask else .take := by
  have stale : (s.onLine && (s.stop.mark.isSome || (decide (s.stop.highest ≠ 0) && decide (r ≠ s.stop.highest)))) = true ↔
      s.life.state = .onLine ∧ (s.stop.mark ≠ none ∨ (s.stop.highest ≠ 0 ∧ r ≠ s.stop.highest)) := by
    simp only [State.onLine, Bool.and_eq_true, Bool.or_eq_true, decide_eq_true_eq, Option.isSome_iff_ne_none]
  simp only [State.judgeResume, firstCause, judgement_ite, judgement_none, stale]

/-! ## Kinds that no station vetoes -/

/-- Outside JOINING and ON_LINE every frame is taken. -/
theorem State.judge_take (s : State) (own : Bool) (f : Frame) (joining : s.judgeJoining own f.body = .take)
    (onLine : s.judgeOnLine own f.sender f.body = .take) : s.judge own f = .take := by
  unfold State.judge
  split
  · exact joining
  · exact onLine
  · rfl
  all_goals rfl

end Sys2Proof.Machine

open Sys2Proof Sys2Proof.Machine

/-- Settles O35: the judgement of each kind, with the checks of its rule in order. -/
theorem otherFramesJudged : Obligations.OtherFramesJudged := by
  intro s own f
  refine ⟨fun kind => ?_, fun listening => s.judge_listenOnly _ _ listening, fun joining => ⟨fun kind => ?_, fun n j r hb => ?_⟩,
    fun n j r hb onLine => ?_, fun n j r hb noSide onLine => ?_, fun n j r o hb => ?_, fun n j r o hb onLine => ?_,
    fun n j r o hb noSide onLine => ?_, fun n hb onLine => ?_, fun r hb driving => ?_⟩
  · cases hb : f.body <;> simp [hb, Body.kind] at kind <;> exact s.judge_take _ _ (by rw [hb]; rfl) (by rw [hb]; rfl)
  · rw [s.judge_joining _ _ joining]
    cases hb : f.body <;> simp [hb, Body.kind] at kind <;> rfl
  · rw [s.judge_joining _ _ joining, hb]
    exact s.judgeClaimJoining_eq n
  · rw [s.judge_onLine _ _ onLine, s.judge_onLine _ _ onLine, hb]
    exact ⟨rfl, s.judgeResealClaim_eq _ _ _ _⟩
  · rw [s.judge_onLine _ _ onLine, hb]
    show s.judgeResealClaim f.sender n j r = _
    unfold State.judgeResealClaim
    rw [s.resealChecks_noSide _ _ _ noSide]
    split_ifs <;> rfl
  · exact s.judge_take _ _ (by rw [hb]; rfl) (by rw [hb]; rfl)
  · rw [s.judge_onLine _ _ onLine, hb]
    exact s.judgeResealDone_eq _ _ _ _ _
  · rw [s.judge_onLine _ _ onLine, hb]
    show judgement (s.judgeResealDone f.sender n j r o) false = _
    simp [State.judgeResealDone, firstCause, State.mayEndReseal, Side.ofCode_none noSide, judgement]
  · rw [s.judge_onLine _ _ onLine, hb]
    exact s.judgeCharged_eq _ _
  · rcases driving with onLine | joining
    · rw [s.judge_onLine _ _ onLine, s.judge_onLine _ _ onLine, hb]
      exact ⟨rfl, s.judgeResume_eq r⟩
    · rw [s.judge_joining _ _ joining, s.judge_joining _ _ joining, hb]
      exact ⟨rfl, s.judgeResume_eq r⟩

end

section
/-! PROOFS. The content of every listing (O60): each kind of field once, then each record. -/

namespace Sys2Proof.Machine

/-! ## Fields -/

/-- The bytes of one field of a listing. -/
def fieldBytes (x : Nat × Int) : List Byte := (List.range x.1).map fun k => BitVec.ofInt 8 (x.2 / 256 ^ k)

theorem spells_iff (content : List Byte) (fields : List (Nat × Int)) : Spells content fields ↔ content = fields.flatMap fieldBytes := Iff.rfl

theorem fieldBytes_eq (width : Nat) (v : Int) : fieldBytes (width, v) = lowFirst width v := by
  unfold fieldBytes
  induction width generalizing v with
  | zero => rfl
  | succ n ih =>
    rw [List.range_succ_eq_map, List.map_cons, List.map_map, lowFirst, ← ih]
    simp only [pow_zero, Int.ediv_one, List.cons.injEq, true_and]
    refine List.map_congr_left fun k _ => ?_
    show BitVec.ofInt 8 (v / 256 ^ (k + 1)) = BitVec.ofInt 8 (v / 256 / 256 ^ k)
    rw [Int.ediv_ediv_of_nonneg (by decide), pow_succ, mul_comm]

theorem fieldBytes_one (n : Nat) : fieldBytes (1, (n : Int)) = field1 n := by
  rw [fieldBytes_eq]
  simp [lowFirst, field1, byte]

theorem fieldBytes_two (v : Int) : fieldBytes (2, v) = field2 v := fieldBytes_eq 2 v

theorem fieldBytes_three (n : Nat) : fieldBytes (3, (n : Int)) = field3 n := fieldBytes_eq 3 n

theorem fieldBytes_four (n : Nat) : fieldBytes (4, (n : Int)) = field4 n := fieldBytes_eq 4 n

theorem fieldBytes_flag (b : Bool) : fieldBytes (flagField b) = fieldFlag b := by cases b <;> rfl

/-- Bytes of a width that hold nothing. -/
theorem fieldBytes_zero (width : Nat) : fieldBytes (width, 0) = List.replicate width 0#8 := by
  simp [fieldBytes, List.map_const']

theorem fieldBytes_present : fieldBytes (1, 1) = [1#8] := rfl

theorem fieldBytes_byte (l : List Byte) : (l.map fun b => (1, (b.toNat : Int))).flatMap fieldBytes = l := by
  induction l with
  | nil => rfl
  | cons b l ih =>
    rw [List.map_cons, List.flatMap_cons, ih, fieldBytes_one]
    simp [field1, byte]

/-- A field that may hold no value, where the bytes of a value are its field's. -/
theorem flatMap_optField {α : Type} (width : Nat) (f : α → List Byte) (v : α → Int) (h : ∀ x, fieldBytes (width, v x) = f x) (o : Option α) :
    (optField width (o.map v)).flatMap fieldBytes = fieldOpt width f o := by
  cases o with
  | none => simp [optField, fieldOpt, fieldBytes_zero]
  | some x => simp [optField, fieldOpt, h, fieldBytes_present]

/-- A number that may be absent, as the statements lift it to an integer. -/
theorem lifted_option (o : Option Nat) : (do let a ← o; pure (a : Int) : Option Int) = Option.map Nat.cast o := by cases o <;> rfl

theorem flatMap_opt1 (o : Option Nat) : (optField 1 (Option.map Nat.cast o)).flatMap fieldBytes = fieldOpt 1 field1 o :=
  flatMap_optField 1 field1 _ fieldBytes_one o

theorem flatMap_opt2 (o : Option Int) : (optField 2 o).flatMap fieldBytes = fieldOpt 2 field2 o := by
  have h := flatMap_optField 2 field2 id fieldBytes_two o
  rwa [Option.map_id, id_eq] at h

theorem flatMap_timer2 (o : Option Nat) : (optTimer 2 o).flatMap fieldBytes = fieldOpt 2 (fun t : Nat => field2 t) o := by
  rw [optTimer, lifted_option, Option.map_id_fun', id_eq]
  exact flatMap_optField 2 (fun t : Nat => field2 t) _ (fun _ => fieldBytes_two _) o

theorem flatMap_timer3 (o : Option Nat) : (optTimer 3 o).flatMap fieldBytes = timer3 o := by
  rw [optTimer, lifted_option, Option.map_id_fun', id_eq]
  exact flatMap_optField 3 field3 _ fieldBytes_three o

theorem flatMap_move (o : Option Move) : (moveFields o).flatMap fieldBytes = fieldOpt 2 Move.bytes o := by
  cases o with
  | none => rfl
  | some m => simp [moveFields, fieldOpt, Move.bytes, fieldBytes_one, fieldBytes_present]

/-! ## READ_STATUS -/

/-- Six flags as the bits of a byte. -/
theorem bits_six (a b c d e f : Bool) :
    bitAt a 0 ||| bitAt b 1 ||| bitAt c 2 ||| bitAt d 3 ||| bitAt e 4 ||| bitAt f 5 =
      byte (a.toNat + 2 * b.toNat + 4 * c.toNat + 8 * d.toNat + 16 * e.toNat + 32 * f.toNat) := by
  revert a b c d e f
  decide

theorem bits_two (a b : Bool) : bitAt a 0 ||| bitAt b 1 = byte (a.toNat + 2 * b.toNat) := by
  revert a b
  decide

theorem bits_marks (a b : Bool) : bitAt a 3 ||| bitAt b 4 = byte (8 * a.toNat + 16 * b.toNat) := by
  revert a b
  decide

theorem bit_carFault (a : Bool) : bitAt a 5 = byte (32 * a.toNat) := by
  revert a
  decide

/-- A number lifted to an integer is listed as the number. -/
theorem fieldOpt_map {α β : Type} (width : Nat) (f : β → List Byte) (g : α → β) (o : Option α) :
    fieldOpt width f (o.map g) = fieldOpt width (fun x => f (g x)) o := by cases o <;> rfl

/-- A list of numbers, as the statements lift it to integers. -/
theorem lifted_list (l : List Nat) : (do let a ← l; pure (a : Int) : List Int) = l.map Nat.cast := by
  induction l with
  | nil => rfl
  | cons n l ih => exact congrArg (List.cons (n : Int)) ih

end Sys2Proof.Machine

open Sys2Proof Sys2Proof.Machine

/-- Settles O60: the fields of each listing become the pieces that its content is made of. -/
theorem listingsHoldTheRecords : Obligations.ListingsHoldTheRecords := by
  intro s
  simp only [spells_iff, List.flatMap_append, List.flatMap_assoc]
  refine ⟨?_, fun p0 p1 i o l x y bank oven loop ps cs => ?_, ?_, ?_, fun p => ?_, ?_⟩
  on_goal 2 =>
    have doors (F : Door → List Byte) (h : ∀ z, F z = z.bytes) : [x, y].flatMap F = x.bytes ++ y.bytes := by
      simp [h]
    rw [doors _ fun z => ?_]
  all_goals simp only [List.flatMap_cons, List.flatMap_nil, fieldBytes_one, fieldBytes_flag, fieldBytes_two, fieldBytes_three, flatMap_opt1, flatMap_opt2,
    flatMap_timer2, flatMap_timer3, flatMap_move, List.append_assoc, List.append_nil, List.flatMap_map, lifted_list, lifted_option,
    Option.map_id_fun', id_eq]
  · have conflict (o : Option Cause) : (optField 1 (o.map fun c => (c.code : Int))).flatMap fieldBytes = fieldOpt 1 (fun c => field1 c.code) o :=
      flatMap_optField 1 _ _ (fun _ => fieldBytes_one _) o
    simp only [conflict, State.statusContent, State.causeBits, bits_six, field1, State.started, List.append_assoc]
  · have place : s.ovenAt i = p0.first + i := by simp [State.ovenAt, bank]
    simp only [State.ovenContent, State.oven?, State.loop?, State.door?, doorIndex, Side.index, Nat.add_zero, oven, loop, ps, cs,
      Option.map_some, Option.getD_some, place, Oven.bytes, Loop.bytes, State.mainBytes, List.append_assoc, bits_two, fieldOpt_map,
      State.mainDeviation]
    cases s.bank.main with
    | none => rfl
    | some m =>
      simp only [fieldOpt, List.flatMap_cons, List.flatMap_nil, fieldBytes_present, fieldBytes_one, fieldBytes_two]
      rfl
  · simp only [Door.bytes, bits_marks, List.append_assoc, fieldOpt_map]
    rcases z.mismatch with _ | ⟨_ | _, t⟩ <;> rfl
  · refine congrArg₂ (· ++ ·) ?_ (List.flatMap_congr fun e _ => ?_)
    · have machine : ([(1, (s.machine.position : Int)), flagField s.machine.chain, flagField s.out.extractor, flagField s.out.ram] ++
          (List.range 4).flatMap fun k => optField 1 (Option.map Nat.cast s.machine.queue[k]?)).flatMap fieldBytes = s.machineBytes := by
        simp only [State.machineBytes, slots, Config.resealQueueMax, List.flatMap_append, List.flatMap_assoc, flatMap_opt1, List.flatMap_cons,
          List.flatMap_nil, fieldBytes_one, fieldBytes_flag, List.append_assoc, List.append_nil]
      cases s.role with
      | bank | quench => rfl
      | guide =>
        rw [if_pos (Or.inr rfl), if_neg (by decide), ← List.append_assoc, List.flatMap_append, machine, flatMap_opt1]
      | pusher =>
        rw [if_pos (Or.inl rfl), if_pos rfl, ← List.append_assoc, List.flatMap_append, machine]
        refine congrArg₂ (· ++ ·) rfl ?_
        cases s.machine.charged with
        | none => rfl
        | some x =>
          simp only [List.flatMap_cons, List.flatMap_nil, List.append_nil, fieldBytes_present, fieldBytes_one, fieldBytes_four]
          rfl
    · simp only [Entry.bytes, List.append_assoc]
      refine congrArg₂ (· ++ ·) rfl (congrArg₂ (· ++ ·) ?_ (congrArg₂ (· ++ ·) rfl (congrArg₂ (· ++ ·) rfl (congrArg₂ (· ++ ·) ?_
        (congrArg₂ (· ++ ·) rfl (congrArg₂ (· ++ ·) ?_ rfl))))))
      · cases e.role with
        | none => rfl
        | some r => exact (fieldBytes_one r.code).symm
      · cases e.range with
        | none => rfl
        | some r =>
          simp only [List.flatMap_cons, List.flatMap_nil, List.append_nil, fieldBytes_present, fieldBytes_one]
          rfl
      · cases e.payload with
        | none => rfl
        | some x =>
          simp only [List.flatMap_cons, fieldBytes_present, fieldBytes_byte]
          rfl
  · simp only [State.claimContent, List.append_assoc]
    refine congrArg₂ (· ++ ·) ?_ (congrArg₂ (· ++ ·) rfl (congrArg₂ (· ++ ·) rfl (congrArg₂ (· ++ ·) ?_ (congrArg₂ (· ++ ·) ?_
      (congrArg₂ (· ++ ·) rfl (congrArg₂ (· ++ ·) rfl (congrArg₂ (· ++ ·) rfl (congrArg₂ (· ++ ·) ?_ rfl))))))))
    · cases s.claims.record with
      | none => rfl
      | some c =>
        obtain ⟨n, k, claimant, forced, stages, taken, timer, ending⟩ := c
        simp only [Claim.bytes, fieldOpt, List.flatMap_append, List.flatMap_cons, List.flatMap_nil, List.append_assoc, List.append_nil,
          fieldBytes_present, fieldBytes_one, fieldBytes_byte, flatMap_opt1, fieldBytes_three, fieldBytes_four, fieldBytes_flag]
        cases ending with
        | opened | closed => rfl
        | abandoned a =>
          have cause : (optField 1 (some (a.code : Int))).flatMap fieldBytes = 1#8 :: field1 a.code := by
            simp only [optField, Option.isSome_some, if_true, Option.getD_some, List.flatMap_cons, List.flatMap_nil, List.append_nil,
              fieldBytes_present, fieldBytes_one, List.singleton_append]
          rw [cause]
          rfl
    · cases s.claims.veto with
      | none => rfl
      | some v =>
        simp only [fieldOpt, Veto.bytes, List.flatMap_append, List.flatMap_cons, List.flatMap_nil, List.append_assoc, List.append_nil,
          fieldBytes_present, fieldBytes_one, flatMap_opt1, fieldBytes_four]
        rfl
    · refine List.flatMap_congr fun r _ => ?_
      cases r with
      | none => rfl
      | some z =>
        simp only [List.flatMap_cons, List.flatMap_nil, List.append_nil, fieldBytes_present, fieldBytes_one, fieldBytes_four]
        rfl
    · cases s.stop.note with
      | none => rfl
      | some z =>
        simp only [List.flatMap_cons, List.flatMap_nil, List.append_nil, fieldBytes_present, fieldBytes_one]
        rfl
  · simp only [State.planContent, List.append_assoc, Config.deferredMax, slots]
    iterate 8 refine congrArg₂ (· ++ ·) rfl ?_
    refine congrArg₂ (· ++ ·) ?_ (congrArg₂ (· ++ ·) ?_ (congrArg₂ (· ++ ·) rfl (congrArg₂ (· ++ ·) rfl (List.flatMap_congr fun k _ => ?_))))
    · cases p.staged with
      | none => rfl
      | some x =>
        simp only [fieldOpt, List.flatMap_cons, List.flatMap_nil, List.append_nil, fieldBytes_present, fieldBytes_one]
        rfl
    · cases p.note with
      | none => rfl
      | some x =>
        simp only [fieldOpt, List.flatMap_cons, List.flatMap_nil, List.append_nil, fieldBytes_present, fieldBytes_one, fieldBytes_two]
        rfl
    · cases (p.deferred[k]?).bind s.lastHeard with
      | none => rfl
      | some x =>
        simp only [fieldOpt, List.flatMap_cons, List.flatMap_nil, List.append_nil, fieldBytes_present, fieldBytes_one]
        rfl
  · have wish (o : Option Bool) : (optField 1 (o.map fun q => (q.toNat : Int))).flatMap fieldBytes = fieldOpt 1 fieldFlag o :=
      flatMap_optField 1 _ _ (fun b => by cases b <;> rfl) o
    simp only [State.carContent, wish, bit_carFault, slots, List.append_assoc]
    cases s.guideSeen with
    | none => rfl
    | some x =>
      simp only [fieldOpt, List.flatMap_cons, fieldBytes_present, fieldBytes_one, fieldBytes_two, List.flatMap_nil, List.append_nil]
      rfl

end

section
/-! PROOFS. The census and announce timers (O24). -/

namespace Sys2Proof.Machine

/-! ## What stays, part by part -/

theorem sameBut_iff (parts : List Part) (s t : State) :
    SameBut parts s t ↔ (Part.straps ∈ parts ∨ t.straps = s.straps) ∧
      (Part.config ∈ parts ∨ t.config = s.config) ∧
      (Part.staged ∈ parts ∨ t.staged = s.staged) ∧
      (Part.life ∈ parts ∨ t.life = s.life) ∧
      (Part.time ∈ parts ∨ t.time = s.time) ∧
      (Part.line ∈ parts ∨ t.line = s.line) ∧
      (Part.queue ∈ parts ∨ t.queue = s.queue) ∧
      (Part.table ∈ parts ∨ t.table = s.table) ∧
      (Part.claims ∈ parts ∨ t.claims = s.claims) ∧
      (Part.stop ∈ parts ∨ t.stop = s.stop) ∧
      (Part.bank ∈ parts ∨ t.bank = s.bank) ∧
      (Part.plan ∈ parts ∨ t.plan = s.plan) ∧
      (Part.machine ∈ parts ∨ t.machine = s.machine) ∧
      (Part.car ∈ parts ∨ t.car = s.car) ∧
      (Part.out ∈ parts ∨ t.out = s.out) ∧
      (Part.port ∈ parts ∨ t.port = s.port) ∧
      (Part.free ∈ parts ∨ t.free = s.free) ∧
      (Part.pending ∈ parts ∨ t.pending = s.pending) := by
  have each (p : Part) : (p ∉ parts → p.Same s t) ↔ (p ∈ parts ∨ p.Same s t) := by
    rw [or_iff_not_imp_left]
  constructor
  · intro h
    exact ⟨(each .straps).1 (h _), (each .config).1 (h _), (each .staged).1 (h _), (each .life).1 (h _), (each .time).1 (h _), (each .line).1 (h _), (each .queue).1 (h _), (each .table).1 (h _), (each .claims).1 (h _), (each .stop).1 (h _), (each .bank).1 (h _), (each .plan).1 (h _), (each .machine).1 (h _), (each .car).1 (h _), (each .out).1 (h _), (each .port).1 (h _), (each .free).1 (h _), (each .pending).1 (h _)⟩
  · rintro ⟨hstraps, hconfig, hstaged, hlife, htime, hline, hqueue, htable, hclaims, hstop, hbank, hplan, hmachine, hcar, hout, hport, hfree, hpending⟩ p
    cases p with
    | straps => exact (each .straps).2 hstraps
    | config => exact (each .config).2 hconfig
    | staged => exact (each .staged).2 hstaged
    | life => exact (each .life).2 hlife
    | time => exact (each .time).2 htime
    | line => exact (each .line).2 hline
    | queue => exact (each .queue).2 hqueue
    | table => exact (each .table).2 htable
    | claims => exact (each .claims).2 hclaims
    | stop => exact (each .stop).2 hstop
    | bank => exact (each .bank).2 hbank
    | plan => exact (each .plan).2 hplan
    | machine => exact (each .machine).2 hmachine
    | car => exact (each .car).2 hcar
    | out => exact (each .out).2 hout
    | port => exact (each .port).2 hport
    | free => exact (each .free).2 hfree
    | pending => exact (each .pending).2 hpending

/-! ## What is announced -/

theorem State.trailer_eq (s : State) :
    s.trailer = match s.claims.record with
      | some c => if c.ending = .opened then ⟨c.oven, c.serial, c.stages⟩ else ⟨0, s.claims.highest, .clear⟩
      | none => ⟨0, s.claims.highest, .clear⟩ := by
  unfold State.trailer State.openClaim
  cases s.claims.record with
  | none => rfl
  | some c => by_cases opened : c.ending = .opened <;> simp [Option.filter, opened]

/-- A summary byte has the state code above the minutes code. -/
theorem Oven.summaryByte_eq (o : Oven) : o.summaryByte = BitVec.ofNat 8 (16 * o.summary.1.code + o.summary.2) := by
  rw [Oven.summaryByte, byte, Nat.mul_comm]

theorem State.payload_bank {s : State} {p0 : BankPart0} {p1 : BankPart1} (role : s.role = .bank) (bank : s.bankConfig = some (p0, p1)) :
    s.payload = .bank p0.first (s.bank.ovens.map Oven.summaryByte) := by
  simp [State.payload, role, State.ovenAt, bank]

theorem State.payload_guide {s : State} (role : s.role = .guide) :
    s.payload = match s.openReseals.find? fun r => decide (r.side = .cs) with
      | some r => .guide s.machine.position s.machine.queue.length r.oven 1
      | none => .guide s.machine.position s.machine.queue.length 0 2 := by
  unfold State.payload
  rw [role, State.openCsReseal, State.openReseal]
  rfl

/-! ## Offers that no priority bars -/

/-- A driving station may send a CENSUS or an ANNOUNCE. -/
theorem State.maySend_driving {s : State} {k : FrameKind} (h : s.drives = true) (hk : k = .census ∨ k = .announce) : s.maySend k = true := by
  unfold State.drives at h
  unfold State.maySend
  cases hs : s.life.state <;> rcases hk with rfl | rfl <;> simp_all

/-- What a new ANNOUNCE leaves of the queue: what is in flight and what is no ANNOUNCE. -/
theorem freshQueue_announce (q : List QueueEntry) :
    freshQueue .announce q = q.filter fun e => e.inFlight || decide (e.body.kind ≠ .announce) := by
  refine List.filter_congr fun e _ => ?_
  simp [QueueEntry.obsolete]

theorem freshQueue_census (q : List QueueEntry) : freshQueue .census q = q :=
  List.filter_eq_self.2 fun e _ => by simp [QueueEntry.obsolete]

theorem State.accepts_census {s : State} (h : s.drives = true) : s.accepts .census = decide (s.queue.length < 8) := by
  rw [State.accepts, Body.kind, s.maySend_driving h (.inl rfl), freshQueue_census]
  rfl

theorem State.accepts_announce {s : State} (h : s.drives = true) (p : Payload) (t : Trailer) :
    s.accepts (.announce p t) = decide ((s.queue.filter fun e => e.inFlight || decide (e.body.kind ≠ .announce)).length < 8) := by
  rw [State.accepts, Body.kind, s.maySend_driving h (.inr rfl), freshQueue_announce]
  rfl

/-- A listening station queues no CENSUS, and reports nothing of it. -/
theorem State.offer_census_listening {s : State} (h : s.life.state = .listenOnly) : s.offer .census = s := by
  have refused : s.accepts .census = false := by simp [State.accepts, State.maySend, h]
  rw [State.offer, refused]
  rfl

/-- An ANNOUNCE offered while no leaving one waits. -/
theorem State.offerAnnounce_eq {s : State} (h : ∀ e ∈ s.queue, e.leaving = false) :
    s.offerAnnounce =
      if s.accepts (.announce s.payload s.trailer) then
        (s.offer (.announce s.payload s.trailer)).withLife { s.life with announce := some 0, lastContent := some s.content }
      else s.withLife { s.life with announce := some 0 } := by
  have noneLeaves : s.leavingQueued = false := by simpa [State.leavingQueued] using h
  simp only [State.offerAnnounce, noneLeaves, Bool.false_eq_true, if_false]

/-- The census timer restarts, and a CENSUS is offered. -/
theorem State.execCensusTimerExpiry_eq {s s1 : State} {x : Nat} (timer : s.life.census = some x)
    (passed : s1 = s.elapse (1000 + 10 * s.straps.id - x)) :
    execCensusTimerExpiry s = .next ((s1.changeLife fun l => { l with census := some 0 }).offer .census).derive := by
  rw [passed, execCensusTimerExpiry, timer]
  rfl

/-- The row announces where the content or the full period asks for it. -/
theorem State.execAnnounceTimer_eq {s s1 : State} {x : Nat} {full : Bool} (timer : s.life.announce = some x)
    (passed : s1 = s.elapse ((if full = true then 2000 else 200) - x)) (asked : full = true ∨ s1.life.lastContent ≠ some s1.content) :
    execAnnounceTimer full s = .next s1.offerAnnounce.derive := by
  unfold execAnnounceTimer
  cases full with
  | true =>
    simp only [timer, Option.bind_some, if_true] at passed ⊢
    rw [passed]
    rfl
  | false =>
    have differs : s1.life.lastContent ≠ some s1.content := by simpa using asked
    simp only [Bool.false_eq_true, if_false] at passed
    have reached : s.elapseTo x Config.announceSpacing = s1 := passed.symm
    simp only [timer, Option.bind_some, Bool.false_eq_true, if_false, reached, decide_eq_true differs, onlyIf_true, State.event_some]

end Sys2Proof.Machine

open Sys2Proof Sys2Proof.Machine

/-- Settles O24: trailer and payload by role, then the two timers. -/
theorem censusAndAnnounceTimers : Obligations.CensusAndAnnounceTimers := by
  intro s
  refine ⟨s.trailer_eq, fun p0 p1 shows role bank hshows => ?_, fun p role plan => ?_, fun role => ⟨fun noCs => ?_, fun r hr => ?_⟩,
    fun role => ?_, fun x s1 timer passed => ⟨fun driving room => ?_, fun listening => ?_⟩,
    fun x s1 kept full timer driving staying hkept passed asked => ⟨fun room => ?_, fun noRoom => ?_⟩⟩
  · rw [State.payload_bank role bank]
    congr 1
    refine List.map_congr_left fun o _ => ?_
    have summary : shows o = (o.summary.1.code, o.summary.2) := by
      rw [hshows o]
      unfold Oven.summary
      cases o.state <;> try rfl
      · cases o.readiness <;> rfl
      · by_cases empty : o.minutes = 0 <;> simp [empty, ceilDiv] <;> rfl
    rw [o.summaryByte_eq, summary]
  · simp [State.payload, role, plan]
  · have none : s.openReseals.find? (fun r => decide (r.side = .cs)) = none := by simpa using noCs
    rw [State.payload_guide role, none]
  · rw [State.payload_guide role, hr]
  · unfold State.payload
    rw [role]
    simp only [Payload.quench.injEq, true_and]
    refine ⟨by cases s.car.state <;> rfl, by cases s.car.load <;> rfl, ?_⟩
    cases s.car.queue.head? with
    | none => rfl
    | some m => cases m <;> rfl
  · have reached := State.execCensusTimerExpiry_eq timer passed
    have waiting : s1.queue = s.queue := by rw [passed]; rfl
    have accepted : (s1.changeLife fun l => { l with census := some 0 }).accepts .census = true := by
      rw [State.accepts_census (by rw [passed]; exact driving), State.changeLife_queue, waiting]
      exact decide_eq_true room
    refine ⟨_, reached, (sameBut_iff _ _ _).2 (by simp [accepted]), by simp, ?_⟩
    rw [State.derive_queue, State.offer_queue, if_pos accepted, Body.kind, freshQueue_census, State.changeLife_queue, waiting]
    rfl
  · have reached := State.execCensusTimerExpiry_eq timer passed
    rw [State.offer_census_listening (by rw [passed]; exact listening)] at reached
    exact ⟨_, reached, (sameBut_iff _ _ _).2 (by simp), by simp⟩
  all_goals
    have reached := State.execAnnounceTimer_eq timer passed asked
    have waiting : s1.queue = s.queue := by rw [passed]; rfl
    rw [State.offerAnnounce_eq (by rw [waiting]; exact staying), State.accepts_announce (by rw [passed]; exact driving), waiting, ← hkept]
      at reached
  · rw [if_pos (decide_eq_true room)] at reached
    have accepted : s1.accepts (.announce s1.payload s1.trailer) = true := by
      rw [State.accepts_announce (by rw [passed]; exact driving), waiting, ← hkept]
      exact decide_eq_true room
    refine ⟨_, reached, (sameBut_iff _ _ _).2 (by simp [accepted]), by simp, ?_⟩
    rw [State.derive_queue, State.withLife_queue, State.offer_queue, if_pos accepted, Body.kind, freshQueue_announce, waiting, ← hkept]
    rfl
  · rw [if_neg (by simpa using noRoom)] at reached
    exact ⟨_, reached, (sameBut_iff _ _ _).2 (by simp), by simp⟩

end

section
/-! PROOFS. What START refuses (O27). -/

namespace Sys2Proof.Machine

/-! ## Commands and answers -/

/-- The command that stands at the head begins. -/
theorem State.beginning_of_begins {s : State} {kind : Byte} {body : List Byte} (h : s.Begins kind body) {p : Byte → Bool} (hp : p kind = true) :
    s.beginning p = some ⟨kind, body⟩ := by
  obtain ⟨free, room, head⟩ := h
  have may : s.mayBegin = true := by simp [State.mayBegin, free, room]
  rw [State.beginning, if_pos may, head]
  simp [Option.filter, hp]

/-- An answer changes the port alone. -/
theorem State.answer_eq (s : State) (r : Result) (d : Nat) (v : List Byte) : s.answer r d v = s.withPort (s.port.answered r d v) := by
  unfold State.answer Port.answered
  cases s.port.commands <;> rfl

/-- Where the outputs stand, an answer is the row's whole effect. -/
theorem State.answer_derive {s : State} (h : s.OutputsSound) (r : Result) (d : Nat) (v : List Byte) :
    (s.answer r d v).derive = { s with port := s.port.answered r d v } := by
  rw [s.answer_eq]
  exact State.derive_eq h rfl rfl

theorem State.refuse_derive {s : State} (h : s.OutputsSound) (c : Cause) :
    (s.refuse c).derive = { s with port := s.port.answered .refused c.code } := State.answer_derive h _ _ _

theorem State.execStart_eq {s : State} {body : List Byte} (h : s.Begins 0x01#8 body) (inputs : BitVec 16) :
    exec (.start inputs) s = .next (s.startBody body inputs).derive := by
  have begins : s.beginning (fun k => decide (k.toNat = 0x01)) = some ⟨0x01#8, body⟩ := State.beginning_of_begins h (by decide)
  simp only [exec, execStart, begins, Option.map_some, State.event_some]

/-! ## The body's length -/

theorem missingField_eq (widths : List Nat) (len place offset : Nat) (h1 : 1 ≤ place) (h2 : place ≤ widths.length)
    (holds : (widths.take (place - 1)).sum ≤ len) (lacks : len < (widths.take place).sum) :
    missingField widths len offset = offset + place - 1 := by
  induction widths generalizing len place offset with
  | nil => simp at h2; omega
  | cons w ws ih =>
    obtain ⟨k, rfl⟩ := Nat.exists_eq_add_of_le' h1
    simp only [Nat.add_sub_cancel, List.take_succ_cons, List.sum_cons] at holds lacks
    unfold missingField
    cases k with
    | zero => rw [if_pos (by simpa using lacks)]; omega
    | succ k =>
      simp only [List.take_succ_cons, List.sum_cons] at holds
      simp only [List.length_cons] at h2
      rw [if_neg (by omega), ih (len - w) (k + 1) (offset + 1) (by omega) (by omega) (by simp; omega) (by omega)]
      omega

/-- A body that ends within a field is short of that field. -/
theorem bodyFault_short {widths : List Nat} {len place : Nat} (h1 : 1 ≤ place) (h2 : place ≤ widths.length)
    (holds : (widths.take (place - 1)).sum ≤ len) (lacks : len < (widths.take place).sum) : bodyFault widths len = some place := by
  have short : len < widths.sum := lt_of_lt_of_le lacks (List.Sublist.sum_le_sum (List.take_sublist _ _) fun _ _ => Nat.zero_le _)
  rw [bodyFault, if_pos short, missingField_eq widths len place 1 h1 h2 holds lacks, Nat.add_sub_cancel_left]

theorem bodyFault_long {widths : List Nat} {len : Nat} (h : widths.sum < len) : bodyFault widths len = some 0 := by
  rw [bodyFault, if_neg (by omega), if_pos h]

theorem bodyFault_exact {widths : List Nat} {len : Nat} (h : len = widths.sum) : bodyFault widths len = none := by
  rw [bodyFault, if_neg (by omega), if_neg (by omega)]

/-! ## The first bad field -/

/-- Of checks in the order of their places, each of which fails exactly where its place is bad, the first bad place is found. -/
theorem firstPlace_eq {checks : List (Bool × Nat)} {bad : Nat → Prop} {place start : Nat}
    (places : checks.map Prod.snd = List.range' start checks.length) (fails : ∀ x ∈ checks, x.1 = true ↔ bad x.2)
    (low : start ≤ place) (high : place < start + checks.length) (hbad : bad place) (first : ∀ k, start ≤ k → k < place → ¬bad k) :
    firstPlace checks = some place := by
  induction checks generalizing start with
  | nil => simp at high; omega
  | cons x rest ih =>
    obtain ⟨b, p⟩ := x
    obtain ⟨fails, others⟩ := List.forall_mem_cons.1 fails
    rw [List.map_cons, List.length_cons, List.range'_succ, List.cons.injEq] at places
    obtain ⟨rfl, places⟩ := places
    by_cases here : place = p
    · rw [firstPlace, if_pos (fails.2 (here ▸ hbad)), here]
    · have good : b ≠ true := fun hb => first p (Nat.le_refl _) (by omega) (fails.1 hb)
      rw [firstPlace, if_neg good]
      rw [List.length_cons] at high
      exact ih places others (by omega) (by omega) fun k hk => first k (by omega)

/-- Where START's checks of a part find the first bad field. -/
def startBadPlace (r : Role) (part : Byte) (b : List Byte) : Option Nat :=
  match r with
  | .bank => if part = 1#8 then (BankPart1.ofBody b).bad b else (BankPart0.ofBody b).bad b
  | .pusher => otherBad .pusher b
  | .guide => otherBad .guide b
  | .quench => otherBad .quench b

/-- The checks of the common fields fail exactly where the field is bad. -/
theorem commonChecks_bad (r : Role) (b : List Byte) (v : Nat → Nat) (z : Nat → Int) (h2 : natAt b 1 1 = v 2) (h3 : natAt b 2 2 = v 3)
    (h4 : natAt b 4 1 = v 4) : ∀ x ∈ commonChecks r b, x.1 = true ↔ FirstPartFieldBad r v z x.2 := by
  simp only [commonChecks, List.forall_mem_cons, h2, h3, h4]
  refine ⟨?_, ?_, ?_, by simp⟩ <;> cases r <;> simp [FirstPartFieldBad, outside, maskBad, or_assoc]


/-- The fields of a part as the statement reads them, place by place. -/
abbrev natField (widths : List Nat) (body : List Byte) (place : Nat) : Nat := natLow (fieldAt widths body place)

abbrev intField (widths : List Nat) (body : List Byte) (place : Nat) : Int := intLow (fieldAt widths body place)

/-- The last place of the fields of part 0. -/
def lastPlace : Role → Nat
  | .bank => 13
  | .guide => 4
  | .pusher | .quench => 7

/-- A bad field of part 0 stands behind the part byte, and no later than the last. -/
theorem FirstPartFieldBad.range {r : Role} {v : Nat → Nat} {z : Nat → Int} {place : Nat} (h : FirstPartFieldBad r v z place) :
    2 ≤ place ∧ place ≤ lastPlace r := by
  rcases h with ⟨rfl, -⟩ | ⟨rfl, -⟩ | ⟨rfl, -⟩ | own
  · cases r <;> decide
  · cases r <;> decide
  · cases r <;> decide
  · cases r <;> simp only [lastPlace] at own ⊢ <;> omega

theorem guidePlace_first {b : List Byte} {v : Nat → Nat} {z : Nat → Int} {place : Nat} (hv : v = natField (otherWidths .guide) b)
    (hbad : FirstPartFieldBad .guide v z place) (first : ∀ k, 2 ≤ k → k < place → ¬FirstPartFieldBad .guide v z k) :
    otherBad .guide b = some place := by
  obtain ⟨low, high⟩ := hbad.range
  have common := commonChecks_bad .guide b v z (by rw [hv]; rfl) (by rw [hv]; rfl) (by rw [hv]; rfl)
  exact firstPlace_eq (start := 2) rfl (List.forall_mem_append.2 ⟨common, by simp⟩) low (Nat.lt_succ_of_le high) hbad first

theorem pusherPlace_first {b : List Byte} {v : Nat → Nat} {z : Nat → Int} {place : Nat} (hv : v = natField (otherWidths .pusher) b)
    (hbad : FirstPartFieldBad .pusher v z place) (first : ∀ k, 2 ≤ k → k < place → ¬FirstPartFieldBad .pusher v z k) :
    otherBad .pusher b = some place := by
  obtain ⟨low, high⟩ := hbad.range
  have common := commonChecks_bad .pusher b v z (by rw [hv]; rfl) (by rw [hv]; rfl) (by rw [hv]; rfl)
  have own : ∀ x ∈ [(!strideOk (natAt b 1 1) (natAt b 5 1), 5), (!stepOk (natAt b 5 1) (natAt b 6 1), 6), (outside 0 140 (natAt b 7 1), 7)],
      x.1 = true ↔ FirstPartFieldBad .pusher v z x.2 := by
    rw [show natAt b 1 1 = v 2 by rw [hv]; rfl, show natAt b 5 1 = v 5 by rw [hv]; rfl, show natAt b 6 1 = v 6 by rw [hv]; rfl,
      show natAt b 7 1 = v 7 by rw [hv]; rfl]
    simp only [List.forall_mem_cons, FirstPartFieldBad, strideOk, stepOk, outside]
    refine ⟨?_, ?_, ?_, by simp⟩ <;> simp
  exact firstPlace_eq (start := 2) rfl (List.forall_mem_append.2 ⟨common, own⟩) low (Nat.lt_succ_of_le high) hbad first

theorem quenchPlace_first {b : List Byte} {v : Nat → Nat} {z : Nat → Int} {place : Nat} (hv : v = natField (otherWidths .quench) b)
    (hbad : FirstPartFieldBad .quench v z place) (first : ∀ k, 2 ≤ k → k < place → ¬FirstPartFieldBad .quench v z k) :
    otherBad .quench b = some place := by
  obtain ⟨low, high⟩ := hbad.range
  have common := commonChecks_bad .quench b v z (by rw [hv]; rfl) (by rw [hv]; rfl) (by rw [hv]; rfl)
  have own : ∀ x ∈ [(outside 60 150 (natAt b 5 1), 5), (outside 30 120 (natAt b 6 1), 6), (outside 30 600 (natAt b 7 2), 7)],
      x.1 = true ↔ FirstPartFieldBad .quench v z x.2 := by
    rw [show natAt b 5 1 = v 5 by rw [hv]; rfl, show natAt b 6 1 = v 6 by rw [hv]; rfl, show natAt b 7 2 = v 7 by rw [hv]; rfl]
    simp only [List.forall_mem_cons, FirstPartFieldBad, outside]
    refine ⟨?_, ?_, ?_, by simp⟩ <;> simp
  exact firstPlace_eq (start := 2) rfl (List.forall_mem_append.2 ⟨common, own⟩) low (Nat.lt_succ_of_le high) hbad first

theorem bankPlace0_first {b : List Byte} {v : Nat → Nat} {z : Nat → Int} {place : Nat} (hv : v = natField bankWidths0 b)
    (hz : z = intField bankWidths0 b) (hbad : FirstPartFieldBad .bank v z place)
    (first : ∀ k, 2 ≤ k → k < place → ¬FirstPartFieldBad .bank v z k) : (BankPart0.ofBody b).bad b = some place := by
  obtain ⟨low, high⟩ := hbad.range
  have common := commonChecks_bad .bank b v z (by rw [hv]; rfl) (by rw [hv]; rfl) (by rw [hv]; rfl)
  have own : ∀ x ∈ [(outside 1 (v 2) (v 5) || decide (v 2 + 1 < v 5 + v 6), 5), (outside 1 8 (v 6), 6), (outside 600 1800 (v 7), 7),
      (outside 1000 1400 (v 8), 8), (outside 0 480 (v 9), 9), (outsideInt 0 600 (v 10), 10), (outsideInt (-200) (v 10) (z 11), 11),
      (outsideInt (-600) 200 (z 12), 12), (outside 120 900 (v 13), 13)], x.1 = true ↔ FirstPartFieldBad .bank v z x.2 := by
    simp only [List.forall_mem_cons, FirstPartFieldBad, outside, outsideInt]
    refine ⟨?_, ?_, ?_, ?_, ?_, ?_, ?_, ?_, ?_, by simp⟩ <;> simp
    omega
  subst hv hz
  exact firstPlace_eq (start := 2) rfl (List.forall_mem_append.2 ⟨common, own⟩) low (Nat.lt_succ_of_le high) hbad first

theorem SecondPartFieldBad.range {v : Nat → Nat} {z : Nat → Int} {place : Nat} (h : SecondPartFieldBad v z place) : 5 ≤ place ∧ place ≤ 14 := by
  unfold SecondPartFieldBad at h
  omega

theorem bankPlace1_first {b : List Byte} {v : Nat → Nat} {z : Nat → Int} {place : Nat} (hv : v = natField bankWidths1 b)
    (hz : z = intField bankWidths1 b) (hbad : SecondPartFieldBad v z place)
    (first : ∀ k, 2 ≤ k → k < place → ¬SecondPartFieldBad v z k) : (BankPart1.ofBody b).bad b = some place := by
  obtain ⟨low, high⟩ := hbad.range
  have byte11 : v 11 < 256 := by rw [hv]; exact natAt_lt b 14 1
  have own : ∀ x ∈ [(outsideInt (-3000) 0 (z 5), 5), (outside 0 1 (v 6), 6), (outsideInt 0 400 (v 7), 7), (outsideInt 0 400 (v 8), 8),
      (outsideInt 0 400 (v 9), 9), (outside 1 254 (v 10), 10), (outside (v 10 + 1) 255 (v 11), 11), (outside 30 300 (v 12), 12),
      (outside 60 900 (v 13), 13), (outside 120 1200 (v 14), 14)], x.1 = true ↔ SecondPartFieldBad v z x.2 := by
    simp only [List.forall_mem_cons, SecondPartFieldBad, outside, outsideInt]
    refine ⟨?_, ?_, ?_, ?_, ?_, ?_, ?_, ?_, ?_, ?_, by simp⟩ <;> simp
    omega
  subst hv hz
  exact firstPlace_eq (start := 5) rfl own low (Nat.lt_succ_of_le high) hbad fun k hk => first k (by omega)

/-- The first bad field of a part is where its checks find it. -/
theorem startBadPlace_first {r : Role} {part : Byte} {b : List Byte} {widths : List Nat} {place : Nat} (part' : startFields r part = some widths)
    (hbad : StartFieldBad r part (natField widths b) (intField widths b) place)
    (first : ∀ k, 2 ≤ k → k < place → ¬StartFieldBad r part (natField widths b) (intField widths b) k) : startBadPlace r part b = some place := by
  unfold StartFieldBad at hbad first
  unfold startFields at part'
  cases r with
  | bank =>
    by_cases one : part = 1#8
    · subst one
      cases part'
      exact bankPlace1_first rfl rfl hbad first
    · simp only [one, if_false] at hbad first part'
      split at part' <;> cases part'
      simp only [startBadPlace, one, if_false]
      exact bankPlace0_first rfl rfl hbad first
  | pusher =>
    by_cases zero : part = 0#8
    · subst zero
      cases part'
      exact pusherPlace_first (z := intField (otherWidths .pusher) b) rfl hbad first
    · simp [zero] at part'
  | guide =>
    by_cases zero : part = 0#8
    · subst zero
      cases part'
      exact guidePlace_first (z := intField (otherWidths .guide) b) rfl hbad first
    · simp [zero] at part'
  | quench =>
    by_cases zero : part = 0#8
    · subst zero
      cases part'
      exact quenchPlace_first (z := intField (otherWidths .quench) b) rfl hbad first
    · simp [zero] at part'

/-! ## The body as a whole -/

/-- What refuses START's part leaves of the station: a part 1 discards the staged part (R191, log 34). -/
def State.startRefused (s : State) (part : Byte) : State := if part = 1#8 then s.withStaged none else s

/-- START's part runs its length check, then strap and state, then what stands in the fields. -/
theorem State.startBody_known {s : State} {part : Byte} {rest : List Byte} {widths : List Nat} (inputs : BitVec 16)
    (known : startFields s.role part = some widths) :
    ∃ pass, s.startBody (part :: rest) inputs = (s.startRefused part).startGate widths (part :: rest).length pass ∧
      (part = 1#8 → s.staged = none → pass = (s.startRefused part).answer .badState) ∧
      ∀ place, (part = 1#8 → s.staged ≠ none) → startBadPlace s.role part (part :: rest) = some place →
        pass = (s.startRefused part).answer .badArg place := by
  unfold startFields at known
  cases hr : s.role with
  | bank =>
    simp only [hr] at known
    by_cases one : part = 1#8
    · subst one
      cases known
      refine ⟨_, by simp only [State.startBody, hr, List.head?_cons]; rfl, fun _ none => ?_, fun place staged hbad => ?_⟩
      · rw [none]
        rfl
      · obtain ⟨p0, hp0⟩ := Option.ne_none_iff_exists'.1 (staged rfl)
        have hbad : (BankPart1.ofBody (1#8 :: rest)).bad (1#8 :: rest) = some place := hbad
        rw [hp0]
        simp only [hbad]
        rfl
    · simp only [one, if_false] at known
      split at known
      · next zero =>
        cases known
        subst zero
        refine ⟨_, by simp only [State.startBody, hr, List.head?_cons]; rfl, fun h => absurd h (by decide), fun place _ hbad => ?_⟩
        have hbad : (BankPart0.ofBody (0#8 :: rest)).bad (0#8 :: rest) = some place := hbad
        simp only [hbad]
        rfl
      · cases known
  | pusher | guide | quench =>
    simp only [hr] at known
    split at known
    · next zero =>
      cases known
      subst zero
      refine ⟨_, by simp only [State.startBody, State.startOther, hr, List.head?_cons]; rfl, fun h => absurd h (by decide), fun place _ hbad => ?_⟩
      have hbad : otherBad _ (0#8 :: rest) = some place := hbad
      simp only [hbad]
      rfl
    · cases known

theorem State.startBody_noPart {s : State} {part : Byte} {rest : List Byte} (inputs : BitVec 16) (h : startFields s.role part = none) :
    s.startBody (part :: rest) inputs = s.startNoPart := by
  unfold startFields at h
  unfold State.startBody
  cases hr : s.role <;> simp only [hr] at h <;> split at h <;> simp_all

theorem State.startGate_fault {s : State} {widths : List Nat} {len place : Nat} (pass : State) (h : bodyFault widths len = some place) :
    s.startGate widths len pass = s.answer .badArg place := by
  simp [State.startGate, h]

theorem State.startGate_exact {s : State} {widths : List Nat} {len : Nat} (pass : State) (h : len = widths.sum) :
    s.startGate widths len pass = s.startChecks pass := by
  simp [State.startGate, bodyFault_exact h]

theorem State.startChecks_strap {s : State} (pass : State) (h : s.straps.lineRate = 3 ∨ s.straps.portRate = 3) :
    s.startChecks pass = s.refuse .strap := by
  rw [State.startChecks, if_pos (by simpa [State.strapBad] using h)]

theorem State.strapBad_false {s : State} (line : s.straps.lineRate ≠ 3) (port : s.straps.portRate ≠ 3) : s.strapBad = false := by
  simp [State.strapBad, line, port]

theorem State.startChecks_state {s : State} (pass : State) (line : s.straps.lineRate ≠ 3) (port : s.straps.portRate ≠ 3)
    (h : s.life.state ≠ .offLine ∨ s.config ≠ none) : s.startChecks pass = s.answer .badState := by
  have barred : ¬ s.startable = true := by
    rw [State.startable, State.started, Bool.and_eq_true, not_and_or, decide_eq_true_eq]
    exact h.imp_right fun held => by simpa using held
  rw [State.startChecks, s.strapBad_false line port, if_neg Bool.false_ne_true, if_neg barred]

theorem State.startChecks_pass {s : State} (pass : State) (line : s.straps.lineRate ≠ 3) (port : s.straps.portRate ≠ 3)
    (off : s.life.state = .offLine) (free : s.config = none) : s.startChecks pass = pass := by
  rw [State.startChecks, s.strapBad_false line port, if_neg Bool.false_ne_true, if_pos (by simp [State.startable, State.started, off, free])]

end Sys2Proof.Machine

open Sys2Proof Sys2Proof.Machine

/-- Settles O27: length, strap and state, staged part, and the first bad field, in this order. -/
theorem startRefusesBadFields : Obligations.StartRefusesBadFields := by
  intro s inputs sound
  refine ⟨fun begins => ?_, fun part rest begins noPart => ?_, fun part rest body widths bad refused hbody begins known hbad hrefused => ?_⟩
  · rw [State.execStart_eq begins, show s.startBody [] inputs = s.answer .badArg 1 by simp [State.startBody], State.answer_derive sound]
  · rw [State.execStart_eq begins, s.startBody_noPart inputs noPart, State.startNoPart]
    refine ⟨fun strap => ?_, fun line port => ⟨fun state => ?_, fun off free => ?_⟩⟩
    · rw [State.startChecks_strap _ strap, State.refuse_derive sound]
      rfl
    · rw [State.startChecks_state _ line port state, State.answer_derive sound]
    · rw [State.startChecks_pass _ line port off free, State.answer_derive sound]
  · subst hbody hbad
    obtain ⟨pass, gate, unstaged, fields⟩ := s.startBody_known inputs known
    obtain rfl : refused = s.startRefused part := hrefused
    have begun : exec (.start inputs) s = .next ((s.startRefused part).startGate widths (part :: rest).length pass).derive := by
      rw [State.execStart_eq begins, gate]
    have answered (r : Result) (d : Nat) : ((s.startRefused part).answer r d).derive =
        { s.startRefused part with port := s.port.answered r d } := by
      unfold State.startRefused
      split
      · exact State.answer_derive (s := s.withStaged none) sound r d []
      · exact State.answer_derive sound r d []
    have same : (s.startRefused part).straps = s.straps ∧ (s.startRefused part).life = s.life ∧ (s.startRefused part).config = s.config := by
      unfold State.startRefused
      split <;> exact ⟨rfl, rfl, rfl⟩
    obtain ⟨straps, life, config⟩ := same
    refine ⟨fun place h1 h2 holds lacks => ?_, fun long => ?_, fun exact => ⟨fun strap => ?_, fun line port => ⟨fun state => ?_, fun off free =>
      ⟨fun one staged => ?_, fun place staged _ _ hbad first => ?_⟩⟩⟩⟩
    · rw [begun, State.startGate_fault _ (bodyFault_short h1 h2 holds lacks), answered]
    · rw [begun, State.startGate_fault _ (bodyFault_long long), answered]
    all_goals rw [begun, State.startGate_exact _ exact]
    · rw [State.startChecks_strap _ (by rwa [straps]), State.refuse, answered]
      rfl
    · rw [State.startChecks_state _ (by rwa [straps]) (by rwa [straps]) (by rwa [life, config]), answered]
    all_goals rw [State.startChecks_pass _ (by rwa [straps]) (by rwa [straps]) (by rwa [life]) (by rwa [config])]
    · rw [unstaged one staged, answered]
    · rw [fields place staged (startBadPlace_first known hbad first), answered]

end

section
/-! PROOFS. Entry to JOINING (O25, O26). -/

namespace Sys2Proof.Machine

/-! ## The first ANNOUNCE and the pulse -/

/-- The ANNOUNCE of a driving station with nothing to send is queued alone. -/
theorem State.offerAnnounce_alone {s : State} (h : s.drives = true) (empty : s.queue = []) :
    s.offerAnnounce = (s.withQueue [⟨.announce s.payload s.trailer, false, s.time, 0, false⟩]).withLife
      { s.life with announce := some 0, lastContent := some s.content } := by
  have accepted : s.accepts (.announce s.payload s.trailer) = true := by
    rw [State.accepts_announce h, empty]
    rfl
  rw [State.offerAnnounce_eq (by simp [empty]), if_pos accepted, State.offer, if_pos accepted, empty]
  rfl

/-- A STOP_NOTE is queued behind one ANNOUNCE. -/
theorem State.offer_note {s : State} (joining : s.life.state = .joining) {e : QueueEntry} (one : s.queue = [e]) (cause serial : Nat) :
    s.offer (.stopNote cause serial) = s.withQueue [e, ⟨.stopNote cause serial, false, s.time, 0, false⟩] := by
  have fresh : freshQueue .stopNote s.queue = [e] := by
    rw [one]
    exact List.filter_eq_self.2 fun x _ => by simp [QueueEntry.obsolete]
  have accepted : s.accepts (.stopNote cause serial) = true := by
    rw [State.accepts, Body.kind, fresh, State.maySend, joining]
    rfl
  rw [State.offer, if_pos accepted, Body.kind, fresh]
  rfl

/-- A joining station with one frame to send and its STOP input ASSERTED gives a pulse, and a STOP_NOTE waits behind. -/
theorem State.pulseIfAsserted_joining {s : State} (joining : s.life.state = .joining) {e : QueueEntry} (one : s.queue = [e])
    (silent : s.line.dat ≠ .stopPulse) :
    s.pulseIfAsserted = if s.stop.input = true then
      ((s.changeLine fun l => { l with dat := .stopPulse, hld := false, vto := false }).withFree (s.free + 1)).withQueue
        [e, ⟨.stopNote 1 (Config.unfixedStopSerial s.free), false, s.time, 0, false⟩]
      else s := by
  unfold State.pulseIfAsserted State.givePulse
  rw [if_neg silent]
  split
  · exact State.offer_note (s := (s.changeLine _).withFree _) joining one 1 _
  · rfl

/-- The ANNOUNCE of a joining station, and its pulse. -/
theorem State.offerAnnounce_pulse {s : State} (joining : s.life.state = .joining) (empty : s.queue = []) (silent : s.line.dat ≠ .stopPulse) :
    s.offerAnnounce.pulseIfAsserted =
      let first : QueueEntry := ⟨.announce s.payload s.trailer, false, s.time, 0, false⟩
      let life : Life := { s.life with announce := some 0, lastContent := some s.content }
      if s.stop.input = true then
        ((((s.withQueue [first]).withLife life).changeLine fun l => { l with dat := .stopPulse, hld := false, vto := false }).withFree
          (s.free + 1)).withQueue [first, ⟨.stopNote 1 (Config.unfixedStopSerial s.free), false, s.time, 0, false⟩]
      else (s.withQueue [first]).withLife life := by
  rw [State.offerAnnounce_alone (by rw [State.drives, joining]) empty]
  exact State.pulseIfAsserted_joining (s := (s.withQueue [⟨.announce s.payload s.trailer, false, s.time, 0, false⟩]).withLife
    { s.life with announce := some 0, lastContent := some s.content }) joining rfl silent

/-- What a station announces is of its role (R29). -/
theorem State.payload_role (s : State) : s.payload.role = s.role := by
  unfold State.payload
  cases s.role with
  | bank | quench => rfl
  | pusher => cases s.plan <;> rfl
  | guide => cases s.openCsReseal <;> rfl

/-! ## Entry to JOINING -/

/-- The own entry filled, at a place the table has. -/
theorem State.table_set_own {s : State} (h : s.straps.id < s.table.length) :
    s.table.set s.straps.id (s.ownEntry (s.entry s.straps.id)) = s.table.modify s.straps.id s.ownEntry := by
  rw [List.modify_eq_set_getElem?, List.getElem?_eq_getElem h, State.entry, List.getElem?_eq_getElem h]
  rfl

/-- A station with no role in its own entry and nothing to send joins (R20, R21). -/
theorem State.enterJoining_joins {s : State} (empty : s.queue = []) (listed : s.straps.id < s.table.length)
    (unnamed : (s.entry s.straps.id).role = none) :
    s.Joins (s.bankConfig.map fun x => (x.1.first, x.1.count)) s.enterJoining.derive ∧
      SameBut [.life, .line, .queue, .table, .free, .out, .port] s s.enterJoining.derive := by
  refine ⟨?_, (sameBut_iff _ _ _).2 (by simp)⟩
  unfold State.enterJoining
  extract_lets id e s1 s2
  have told : s1 = (s.withTable (s.table.modify id s.ownEntry)).report (.stationChange id (s.entry id).presence (some s.role)) := by
    have named : decide (e.role ≠ (s.entry id).role) = true := decide_eq_true (by rw [unnamed]; exact Option.some_ne_none _)
    rw [← State.table_set_own listed]
    simp only [s1, named, State.reportIf, if_true]
    rfl
  have answered : s2.answer .accepted = s2.withPort (s2.port.answered .accepted) := s2.answer_eq _ _ _
  have joining : (s2.answer .accepted).life.state = .joining := by rw [answered]; rfl
  rw [State.offerAnnounce_pulse joining (by simp [s2, told, empty]) (by simp [s2, Line.seeking, Line.reset])]
  have role : (s2.answer .accepted).role = s.role := by simp [State.role, s2, told]
  have announced := (State.payload_role (s2.answer .accepted)).trans role
  have port : (s2.answer .accepted).port = ((s.port.offerReport (.stationChange id (s.entry id).presence (some s.role))).offerReport
      (.lineState (.station .joining))).answered .accepted := by
    rw [answered]
    simp [s2, told, State.reportLife, Life.joining]
  have table : (s2.answer .accepted).table = s.table.modify id s.ownEntry := by simp [s2, told]
  have stop : (s2.answer .accepted).stop = s.stop := by simp [s2, told]
  have free : (s2.answer .accepted).free = s.free := by simp [s2, told]
  have time : (s2.answer .accepted).time = s.time := by simp [s2, told]
  have line : (s2.answer .accepted).line = { Line.reset with state := .seeking } := by simp [s2, Line.seeking]
  have life : (s2.answer .accepted).life = s.life.joining := by simp [s2, told]
  generalize s2.answer .accepted = v at *
  rw [stop]
  by_cases asserted : s.stop.input = true
  · simp only [asserted, if_true]
    refine ⟨?_, ?_, ?_, ?_, ?_, ?_, ?_, ?_, ?_, v.payload, v.trailer, Config.unfixedStopSerial s.free, announced, ?_⟩
    all_goals simp [asserted, life, line, free, table, port, time, Life.joining, Line.reset]
    all_goals rfl
  · simp only [asserted]
    refine ⟨?_, ?_, ?_, ?_, ?_, ?_, ?_, ?_, ?_, v.payload, v.trailer, 0, announced, ?_⟩
    all_goals simp [asserted, life, line, free, table, port, time, Life.joining, Line.reset]
    all_goals rfl

/-! ## Fields of a body -/

theorem natLow_field1 {n : Nat} (h : n < 256) : natLow (field1 n) = n := by
  simp [natLow, field1, byte, Nat.mod_eq_of_lt h]

/-- The two bytes of a field, as numbers. -/
theorem field2_bytes (v : Int) : (BitVec.ofInt 8 v).toNat = (v % 256).toNat ∧ (BitVec.ofInt 8 (v / 256)).toNat = (v / 256 % 256).toNat := by
  simp [BitVec.toNat_ofInt]

theorem natLow_field2 {n : Nat} (h : n < 65536) : natLow (field2 n) = n := by
  obtain ⟨low, high⟩ := field2_bytes n
  simp only [natLow, field2, lowFirst, low, high]
  omega

theorem intLow_field2 {v : Int} (h1 : -32768 ≤ v) (h2 : v ≤ 32767) : intLow (field2 v) = v := by
  obtain ⟨low, high⟩ := field2_bytes v
  have bytes : natLow (field2 v) = (v % 256).toNat + 256 * (v / 256 % 256).toNat := by
    simp only [natLow, field2, lowFirst, low, high]
    omega
  have size : (field2 v).length = 2 := rfl
  simp only [intLow, bytes, size]
  split <;> omega

/-- Where no check fails none is found. -/
theorem firstPlace_none {checks : List (Bool × Nat)} (h : ∀ x ∈ checks, x.1 = false) : firstPlace checks = none := by
  induction checks with
  | nil => rfl
  | cons x rest ih =>
    obtain ⟨good, others⟩ := List.forall_mem_cons.1 h
    obtain ⟨b, p⟩ := x
    rw [firstPlace, if_neg (by simpa using good), ih others]

theorem commonChecks_good {r : Role} {b : List Byte} (h1 : 1 ≤ natAt b 1 1 ∧ natAt b 1 1 ≤ 96) (h2 : 300 ≤ natAt b 2 2 ∧ natAt b 2 2 ≤ 1800)
    (h3 : maskBad r (natAt b 4 1) = false) : ∀ x ∈ commonChecks r b, x.1 = false := by
  simp only [commonChecks, List.forall_mem_cons, outside, decide_eq_false_iff_not]
  exact ⟨by omega, by omega, h3, by simp⟩

/-! ## What stays through two changes -/

theorem SameBut.trans {ps qs : List Part} {s t u : State} (h : SameBut ps s t) (k : SameBut qs t u) : SameBut (ps ++ qs) s u := by
  intro p hp
  rw [List.mem_append, not_or] at hp
  have first := h p hp.1
  have second := k p hp.2
  cases p <;> exact Eq.trans second first

theorem SameBut.mono {ps qs : List Part} {s t : State} (h : SameBut ps s t) (sub : ps ⊆ qs) : SameBut qs s t :=
  fun p hp => h p fun hps => hp (sub hps)

/-! ## START accepted -/

/-- START of a role other than BANK is accepted: the station joins. -/
theorem State.accept_joins {s : State} (clear : s.OffLineClear) {c : Configuration} (inputs : BitVec 16)
    (other : ∀ p q, c.role ≠ .bank p q) :
    s.Joins none (s.accept c inputs).derive ∧ SameBut [.life, .line, .queue, .table, .free, .out, .port] (s.configure c inputs) (s.accept c inputs).derive := by
  obtain ⟨-, empty, listed, unnamed⟩ := clear
  obtain ⟨n, limit, m, r⟩ := c
  cases r with
  | bank p q => exact absurd rfl (other p q)
  | pusher k => exact State.enterJoining_joins (s := s.configure ⟨n, limit, m, .pusher k⟩ inputs) empty listed unnamed
  | guide => exact State.enterJoining_joins (s := s.configure ⟨n, limit, m, .guide⟩ inputs) empty listed unnamed
  | quench k => exact State.enterJoining_joins (s := s.configure ⟨n, limit, m, .quench k⟩ inputs) empty listed unnamed

/-- A part 0 whose fields are in their ranges completes START (R20). -/
theorem State.startOther_accepted {s : State} {rest : List Byte} (inputs : BitVec 16) (role : s.role ≠ .bank) (begins : s.Begins 0x01#8 (0#8 :: rest))
    (size : (0#8 :: rest).length = (otherWidths s.role).sum) (line : s.straps.lineRate ≠ 3) (port : s.straps.portRate ≠ 3)
    (off : s.life.state = .offLine) (free : s.config = none) (good : otherBad s.role (0#8 :: rest) = none) :
    exec (.start inputs) s = .next (s.accept (otherConfig s.role (0#8 :: rest)) inputs).derive := by
  have body : s.startBody (0#8 :: rest) inputs = s.startOther (0#8 :: rest) inputs := by
    unfold State.startBody
    cases hr : s.role with
    | bank => exact absurd hr role
    | pusher | guide | quench => rfl
  rw [State.execStart_eq begins, body, State.startOther, State.startGate_exact _ size, State.startChecks_pass _ line port off free, good]

theorem State.startOther_joins {s : State} {rest : List Byte} {c : Configuration} (inputs : BitVec 16) (clear : s.OffLineClear)
    (free : s.config = none) (line : s.straps.lineRate ≠ 3) (port : s.straps.portRate ≠ 3) (role : s.role ≠ .bank)
    (begins : s.Begins 0x01#8 (0#8 :: rest)) (size : (0#8 :: rest).length = (otherWidths s.role).sum)
    (good : otherBad s.role (0#8 :: rest) = none) (config : otherConfig s.role (0#8 :: rest) = c) (other : ∀ p q, c.role ≠ .bank p q) :
    ∃ t, exec (.start inputs) s = .next t ∧ s.Joins none t ∧
      SameBut [.life, .line, .queue, .table, .free, .out, .port] (s.configure c inputs) t := by
  refine ⟨_, State.startOther_accepted inputs role begins size line port clear.1 free good, ?_⟩
  rw [config]
  exact State.accept_joins clear inputs other

/-- The common fields of a body that begins with them, as START reads them. -/
theorem common_fields {n limit mask : Nat} (hn : n ≤ 96) (hlimit : limit ≤ 1800) (hmask : mask < 8) (more : List Byte) :
    natAt (0#8 :: (field1 n ++ field2 limit ++ field1 mask) ++ more) 1 1 = n ∧
      natAt (0#8 :: (field1 n ++ field2 limit ++ field1 mask) ++ more) 2 2 = limit ∧
      natAt (0#8 :: (field1 n ++ field2 limit ++ field1 mask) ++ more) 4 1 = mask :=
  ⟨natLow_field1 (by omega), natLow_field2 (by omega), natLow_field1 (by omega)⟩

theorem State.command_begun {s : State} {code : Nat} {widths : List Nat} {roles : List Role} {run : List Byte → State} {kind : Byte}
    {body : List Byte} (h : s.Begins kind body) (hk : kind.toNat = code) (size : body.length = widths.sum) (role : s.role ∈ roles) :
    s.command code widths roles run = .next (run body).derive := by
  have begins : s.beginning (fun k => decide (k.toNat = code)) = some ⟨kind, body⟩ := State.beginning_of_begins h (decide_eq_true hk)
  simp only [State.command, begins, Option.map_some, State.event_some, bodyFault_exact size, role, if_true]

theorem State.execRejoin_eq {s : State} (begins : s.Begins 0x02#8 []) :
    exec .rejoin s = .next (if s.life.state = .offLine ∧ s.started = true then s.enterJoining else s.answer .badState).derive :=
  State.command_begun (code := 0x02) (widths := []) (roles := allRoles) (run := fun _ =>
    if s.life.state = .offLine ∧ s.started = true then s.enterJoining else s.answer .badState) begins rfl rfl (by cases s.role <;> decide)

/-- A GUIDE's part 0 is refused as strap and state have it, whatever its fields. -/
theorem State.startBody_guide {s : State} (role : s.role = .guide) (n limit mask : Nat) (inputs : BitVec 16) :
    ∃ pass, s.startBody (0#8 :: (field1 n ++ field2 limit ++ field1 mask)) inputs = s.startChecks pass := by
  have body : s.startBody (0#8 :: (field1 n ++ field2 limit ++ field1 mask)) inputs =
      s.startOther (0#8 :: (field1 n ++ field2 limit ++ field1 mask)) inputs := by
    simp only [State.startBody, role]
    rfl
  exact ⟨_, body.trans (State.startGate_exact _ (by rw [role]; rfl))⟩

end Sys2Proof.Machine

open Sys2Proof Sys2Proof.Machine

/-- Settles O25: START of each role but BANK, its refusals, and REJOIN. -/
theorem startAndRejoinJoin : Obligations.StartAndRejoinJoin := by
  intro s inputs n limit mask a b c common hcommon
  subst hcommon
  refine ⟨fun clear free line port n1 n2 l1 l2 => ⟨fun role hmask begins => ?_, fun role hmask a1 a2 a3 b1 b2 coprime hc begins => ?_,
    fun role hmask a1 a2 b1 b2 c1 c2 begins => ?_⟩, fun sound role begins => ⟨fun strap => ?_, fun line port held => ?_⟩,
    fun begins => ⟨fun clear held => ?_, fun sound barred => ?_⟩⟩
  · have low : mask < 8 := by omega
    obtain ⟨fn, fl, fm⟩ := common_fields n2 l2 low []
    rw [List.append_nil] at fn fl fm
    have fits : maskBad .guide mask = false := by rcases hmask with rfl | rfl | rfl | rfl <;> decide
    have good : otherBad .guide (0#8 :: (field1 n ++ field2 limit ++ field1 mask)) = none :=
      firstPlace_none (List.forall_mem_append.2 ⟨commonChecks_good (by rw [fn]; exact ⟨n1, n2⟩) (by rw [fl]; exact ⟨l1, l2⟩) (by rw [fm]; exact fits), by simp⟩)
    obtain ⟨t, done, joins, same⟩ := State.startOther_joins
      (c := ⟨n, limit, ⟨mask.testBit 0, mask.testBit 1, mask.testBit 2⟩, .guide⟩) inputs clear free line port (by simp [role]) begins
      (by rw [role]; rfl) (by rw [role]; exact good) (by simp only [otherConfig, role, fn, fl, fm, ConsentMask.ofByte]) (by simp)
    refine ⟨t, done, joins, same .config (by decide), (SameBut.trans (ps := [.config, .staged]) ?_ same).mono (by decide)⟩
    exact (sameBut_iff _ _ _).2 (by simp [State.configure])
  · have low : mask < 8 := by omega
    obtain ⟨fn, fl, fm⟩ := common_fields n2 l2 low (field1 a ++ field1 b ++ field1 c)
    simp only [List.cons_append, List.append_assoc] at fn fl fm begins ⊢
    set rest := field1 n ++ (field2 limit ++ (field1 mask ++ (field1 a ++ (field1 b ++ field1 c))))
    have fa : natAt (0#8 :: rest) 5 1 = a := natLow_field1 (by omega)
    have fb : natAt (0#8 :: rest) 6 1 = b := natLow_field1 (by omega)
    have fc : natAt (0#8 :: rest) 7 1 = c := natLow_field1 (by omega)
    have fits : maskBad .pusher mask = false := by rcases hmask with rfl | rfl <;> decide
    have good : otherBad .pusher (0#8 :: rest) = none := by
      refine firstPlace_none (List.forall_mem_append.2 ⟨commonChecks_good (by rw [fn]; exact ⟨n1, n2⟩) (by rw [fl]; exact ⟨l1, l2⟩) (by rw [fm]; exact fits), ?_⟩)
      simp only [List.forall_mem_cons, fn, fa, fb, fc, strideOk, stepOk, outside, coprime]
      exact ⟨by simp; omega, by simp; omega, by simp; omega, by simp⟩
    have consent : ConsentMask.ofByte mask = ⟨false, false, mask.testBit 2⟩ := by rcases hmask with rfl | rfl <;> decide
    obtain ⟨t, done, joins, same⟩ := State.startOther_joins (c := ⟨n, limit, ⟨false, false, mask.testBit 2⟩, .pusher ⟨a, b, c⟩⟩)
      inputs clear free line port (by simp [role]) begins
      (by rw [role]; rfl) (by rw [role]; exact good) (by simp only [otherConfig, role, fn, fl, fm, fa, fb, fc, consent]) (by simp)
    refine ⟨t, done, joins, same .config (by decide), same .plan (by decide), (SameBut.trans (ps := [.config, .staged, .plan]) ?_ same).mono (by decide)⟩
    exact (sameBut_iff _ _ _).2 (by simp [State.configure])
  · have low : mask < 8 := by omega
    obtain ⟨fn, fl, fm⟩ := common_fields n2 l2 low (field1 a ++ field1 b ++ field2 c)
    simp only [List.cons_append, List.append_assoc] at fn fl fm begins ⊢
    set rest := field1 n ++ (field2 limit ++ (field1 mask ++ (field1 a ++ (field1 b ++ field2 c))))
    have fa : natAt (0#8 :: rest) 5 1 = a := natLow_field1 (by omega)
    have fb : natAt (0#8 :: rest) 6 1 = b := natLow_field1 (by omega)
    have fc : natAt (0#8 :: rest) 7 2 = c := natLow_field2 (by omega)
    have fits : maskBad .quench mask = false := by rcases hmask with rfl | rfl | rfl | rfl <;> decide
    have good : otherBad .quench (0#8 :: rest) = none := by
      refine firstPlace_none (List.forall_mem_append.2 ⟨commonChecks_good (by rw [fn]; exact ⟨n1, n2⟩) (by rw [fl]; exact ⟨l1, l2⟩) (by rw [fm]; exact fits), ?_⟩)
      simp only [List.forall_mem_cons, fa, fb, fc, outside]
      exact ⟨by simp; omega, by simp; omega, by simp; omega, by simp⟩
    obtain ⟨t, done, joins, same⟩ := State.startOther_joins
      (c := ⟨n, limit, ⟨mask.testBit 0, mask.testBit 1, mask.testBit 2⟩, .quench ⟨a, b, c⟩⟩) inputs clear free line port (by simp [role]) begins
      (by rw [role]; rfl) (by rw [role]; exact good) (by simp only [otherConfig, role, fn, fl, fm, fa, fb, fc, ConsentMask.ofByte]) (by simp)
    refine ⟨t, done, joins, same .config (by decide), (SameBut.trans (ps := [.config, .staged]) ?_ same).mono (by decide)⟩
    exact (sameBut_iff _ _ _).2 (by simp [State.configure])
  · obtain ⟨pass, body⟩ := State.startBody_guide role n limit mask inputs
    rw [State.execStart_eq begins, body, State.startChecks_strap _ strap, State.refuse_derive sound]
    rfl
  · obtain ⟨pass, body⟩ := State.startBody_guide role n limit mask inputs
    rw [State.execStart_eq begins, body, State.startChecks_state _ line port (.inr held), State.answer_derive sound]
  · obtain ⟨off, empty, listed, unnamed⟩ := clear
    rw [State.execRejoin_eq begins, if_pos ⟨off, Option.isSome_iff_ne_none.2 held⟩]
    exact ⟨_, rfl, State.enterJoining_joins empty listed unnamed⟩
  · have refused : ¬(s.life.state = .offLine ∧ s.started = true) := by
      rintro ⟨off, started⟩
      rcases barred with free | other
      · simp [State.started, free] at started
      · exact other off
    rw [State.execRejoin_eq begins, if_neg refused, State.answer_derive sound]

end

section
/-! PROOFS. A BANK's START in two parts (O26). -/

namespace Sys2Proof.Machine

/-! ## The doors at START -/

/-- A door record after START: a latch that reads UNLATCHED is at once unexpected, and its event latch holds the change (R77, R84, R86). -/
def Door.started (l : Latch) : Door := if l = .unlatched then (Door.fresh l).enterUnlatched.capture else .fresh l

/-- The n door records where the first k have been gone through. -/
def startDoors (inputs : BitVec 16) (n k : Nat) : List Door :=
  (List.range n).map fun d => if d < k then .started (latchOf inputs d) else .fresh (latchOf inputs d)

theorem latchOf_unlatched {inputs : BitVec 16} {d : Nat} : latchOf inputs d = .unlatched ↔ inputs.getLsbD d = true := by
  unfold latchOf
  split <;> simp [*]

theorem startDoors_zero (inputs : BitVec 16) (n : Nat) : startDoors inputs n 0 = (List.range n).map fun d => .fresh (latchOf inputs d) := by
  simp [startDoors]

theorem startDoors_get {inputs : BitVec 16} {n k : Nat} (h : k < n) : (startDoors inputs n k)[k]? = some (.fresh (latchOf inputs k)) := by
  simp [startDoors, h]

theorem startDoors_succ {inputs : BitVec 16} {n k : Nat} :
    (startDoors inputs n k).modify k (fun _ => .started (latchOf inputs k)) = startDoors inputs n (k + 1) := by
  refine List.ext_getElem? fun d => ?_
  rw [List.getElem?_modify]
  by_cases here : k = d
  · subst here
    by_cases inside : k < n <;> simp [startDoors, inside]
  · have order : (d ≤ k) = (d < k) := propext (by omega)
    by_cases inside : d < n <;> simp [startDoors, here, inside, order]

/-- A door whose latch reads LATCHED needs nothing more. -/
theorem startDoors_latched {inputs : BitVec 16} {n k : Nat} (h : latchOf inputs k ≠ .unlatched) :
    startDoors inputs n (k + 1) = startDoors inputs n k := by
  refine List.map_congr_left fun d _ => ?_
  by_cases here : d = k
  · subst here
    simp [Door.started, h]
  · have order : (d < k + 1) = (d < k) := propext (by omega)
    simp only [order]

/-- The bank units of START with the first k door records gone through. -/
def startBank (p0 : BankPart0) (p1 : BankPart1) (inputs : BitVec 16) (k : Nat) : Bank :=
  { Bank.fresh p0 p1 inputs with doors := startDoors inputs (2 * p0.count) k }

/-- A fresh door that reads UNLATCHED is reported as unexpected. -/
theorem State.changeDoor_unlatched {s : State} {d n : Nat} (door : s.door? d = some (.fresh .unlatched)) (number : s.doorOven d = n) :
    s.changeDoor d Door.enterUnlatched =
      ((s.setDoor d fun _ => .started .unlatched).report (.doorEvent n (doorSide d) .unlatched .unlatchedUnexpected 0)).report
        (.attention (some n) (some (doorSide d)) .unlatchedUnexpected true) := by
  subst number
  unfold State.changeDoor
  rw [door]
  rfl

/-- One door of START (R77, R84). -/
theorem State.unlatchAtStart_eq {v : State} {p : BankPart0} {q : BankPart1} (bank : v.bankConfig = some (p, q)) {inputs : BitVec 16} {k : Nat}
    (h : k < 2 * p.count) (port : Port) :
    ((v.withBank (startBank p q inputs k)).withPort port).unlatchAtStart k =
      (v.withBank (startBank p q inputs (k + 1))).withPort
        (if inputs.getLsbD k = true then
          (port.offerReport (.doorEvent (p.first + k / 2) (doorSide k) .unlatched .unlatchedUnexpected 0)).offerReport
            (.attention (some (p.first + k / 2)) (some (doorSide k)) .unlatchedUnexpected true) else port) := by
  have door : ((v.withBank (startBank p q inputs k)).withPort port).door? k = some (.fresh (latchOf inputs k)) := startDoors_get h
  have number : ((v.withBank (startBank p q inputs k)).withPort port).doorOven k = p.first + k / 2 := by
    have bank' : ((v.withBank (startBank p q inputs k)).withPort port).bankConfig = some (p, q) := bank
    rw [State.doorOven, State.ovenAt, bank']
  unfold State.unlatchAtStart
  rw [door]
  by_cases reads : inputs.getLsbD k = true
  · have latch : latchOf inputs k = .unlatched := latchOf_unlatched.2 reads
    have put : (startDoors inputs (2 * p.count) k).modify k (fun _ => .started .unlatched) = startDoors inputs (2 * p.count) (k + 1) := by
      rw [← startDoors_succ, latch]
    rw [if_pos (by simp [Door.fresh, latch]), if_pos reads, State.changeDoor_unlatched (by rw [door, latch]) number]
    simp only [startBank, ← put]
    rfl
  · have latch : latchOf inputs k ≠ .unlatched := fun h => reads (latchOf_unlatched.1 h)
    rw [if_neg (by simp [Door.fresh, latch]), if_neg reads, startBank, startBank, startDoors_latched latch]

/-- The doors of START one after another. -/
theorem State.unlatchAtStart_fold {v : State} {p : BankPart0} {q : BankPart1} (bank : v.bankConfig = some (p, q)) {inputs : BitVec 16}
    {ports : Nat → Port} (steps : ∀ d, d < 2 * p.count → ports (d + 1) = if inputs.getLsbD d = true then
      ((ports d).offerReport (.doorEvent (p.first + d / 2) (doorSide d) .unlatched .unlatchedUnexpected 0)).offerReport
        (.attention (some (p.first + d / 2)) (some (doorSide d)) .unlatchedUnexpected true) else ports d) (k : Nat) (h : k ≤ 2 * p.count) :
    (List.range k).foldl State.unlatchAtStart ((v.withBank (startBank p q inputs 0)).withPort (ports 0)) =
      (v.withBank (startBank p q inputs k)).withPort (ports k) := by
  induction k with
  | zero => rfl
  | succ k ih =>
    rw [List.range_succ, List.foldl_append, ih (by omega), List.foldl_cons, List.foldl_nil, State.unlatchAtStart_eq bank (by omega),
      steps k (by omega)]

/-- A BANK's configuration held, with its units and doors. -/
theorem State.configure_bank (s : State) (p : BankPart0) (q : BankPart1) {inputs : BitVec 16}
    {ports : Nat → Port} (first : ports 0 = s.port) (steps : ∀ d, d < 2 * p.count → ports (d + 1) = if inputs.getLsbD d = true then
      ((ports d).offerReport (.doorEvent (p.first + d / 2) (doorSide d) .unlatched .unlatchedUnexpected 0)).offerReport
        (.attention (some (p.first + d / 2)) (some (doorSide d)) .unlatchedUnexpected true) else ports d) :
    s.configure ⟨p.ovens, p.pushLimit, p.consent, .bank p q⟩ inputs =
      { s with config := some ⟨p.ovens, p.pushLimit, p.consent, .bank p q⟩, staged := none, bank := startBank p q inputs (2 * p.count),
               port := ports (2 * p.count) } := by
  have all := State.unlatchAtStart_fold (v := (s.withConfig (some ⟨p.ovens, p.pushLimit, p.consent, .bank p q⟩)).withStaged none) (p := p)
    (q := q) rfl steps (2 * p.count) le_rfl
  rw [startBank, startDoors_zero, first] at all
  exact all

/-! ## The two parts -/

theorem natLow_field2_int {v : Int} (h1 : 0 ≤ v) (h2 : v < 65536) : (natLow (field2 v) : Int) = v := by
  obtain ⟨n, rfl⟩ := Int.eq_ofNat_of_zero_le h1
  exact congrArg Int.ofNat (natLow_field2 (by omega))

theorem natLow_fieldFlag (b : Bool) : natLow (fieldFlag b) = if b = true then 1 else 0 := by
  cases b <;> rfl

/-- The body of a BANK's part 0. -/
def bankBody0 (p : BankPart0) (mask : Nat) : List Byte :=
  0#8 :: (field1 p.ovens ++ field2 p.pushLimit ++ field1 mask ++ field1 p.first ++ field1 p.count ++ field2 p.target ++
    field2 p.nominal ++ field2 p.allowance ++ field2 p.base ++ field2 p.floor ++ field2 p.chargeSp ++ field2 p.chargeTime)

/-- The body of a BANK's part 1. -/
def bankBody1 (q : BankPart1) : List Byte :=
  1#8 :: (field1 q.kp ++ field1 q.ki ++ field1 q.kf ++ field2 q.pnom ++ fieldFlag q.mainSensor ++ field2 q.rw ++
    field2 q.rl ++ field2 q.rr ++ field1 q.weeping ++ field1 q.leaking ++ field2 q.seat ++ field2 q.leakDelay ++ field2 q.resealLimit)

/-- A part 0 in its ranges reads back as what was sent, and no check fails (R19, R20). -/
theorem bankBody0_good {p : BankPart0} {mask : Nat} (n1 : 1 ≤ p.ovens) (n2 : p.ovens ≤ 96) (l1 : 300 ≤ p.pushLimit) (l2 : p.pushLimit ≤ 1800)
    (low : mask < 8) (consent : p.consent = ConsentMask.ofByte mask) (f1 : 1 ≤ p.first) (c1 : 1 ≤ p.count) (c8 : p.count ≤ 8)
    (fits : p.first + p.count ≤ p.ovens + 1) (t1 : 600 ≤ p.target) (t2 : p.target ≤ 1800) (m1 : 1000 ≤ p.nominal) (m2 : p.nominal ≤ 1400)
    (al : p.allowance ≤ 480) (b1 : 0 ≤ p.base) (b2 : p.base ≤ 600) (fl1 : -200 ≤ p.floor) (fl2 : p.floor ≤ p.base) (sp1 : -600 ≤ p.chargeSp)
    (sp2 : p.chargeSp ≤ 200) (ct1 : 120 ≤ p.chargeTime) (ct2 : p.chargeTime ≤ 900) :
    BankPart0.ofBody (bankBody0 p mask) = p ∧ p.bad (bankBody0 p mask) = none := by
  have ovens : natAt (bankBody0 p mask) 1 1 = p.ovens := natLow_field1 (by omega)
  have limit : natAt (bankBody0 p mask) 2 2 = p.pushLimit := natLow_field2 (by omega)
  have byte : natAt (bankBody0 p mask) 4 1 = mask := natLow_field1 (by omega)
  have first : natAt (bankBody0 p mask) 5 1 = p.first := natLow_field1 (by omega)
  have count : natAt (bankBody0 p mask) 6 1 = p.count := natLow_field1 (by omega)
  have target : natAt (bankBody0 p mask) 7 2 = p.target := natLow_field2 (by omega)
  have nominal : natAt (bankBody0 p mask) 9 2 = p.nominal := natLow_field2 (by omega)
  have allowance : natAt (bankBody0 p mask) 11 2 = p.allowance := natLow_field2 (by omega)
  have base : (natAt (bankBody0 p mask) 13 2 : Int) = p.base := natLow_field2_int b1 (by omega)
  have floor : intAt (bankBody0 p mask) 15 2 = p.floor := intLow_field2 (by omega) (by omega)
  have chargeSp : intAt (bankBody0 p mask) 17 2 = p.chargeSp := intLow_field2 (by omega) (by omega)
  have chargeTime : natAt (bankBody0 p mask) 19 2 = p.chargeTime := natLow_field2 (by omega)
  have permitted : maskBad .bank mask = false := by simp [maskBad]; omega
  refine ⟨by simp only [BankPart0.ofBody, ovens, limit, byte, first, count, target, nominal, allowance, base, floor, chargeSp, chargeTime,
    ← consent], firstPlace_none (List.forall_mem_append.2 ⟨commonChecks_good (by rw [ovens]; exact ⟨n1, n2⟩)
      (by rw [limit]; exact ⟨l1, l2⟩) (by rw [byte]; exact permitted), ?_⟩)⟩
  simp only [List.forall_mem_cons, outside, outsideInt, Bool.or_eq_false_iff, decide_eq_false_iff_not]
  refine ⟨?_, ?_, ?_, ?_, ?_, ?_, ?_, ?_, ?_, by simp⟩ <;> omega

/-- A part 1 in its ranges reads back as what was sent, and no check fails (R19, R20). -/
theorem bankBody1_good {q : BankPart1} (kp : q.kp < 256) (ki : q.ki < 256) (kf : q.kf < 256) (p1 : -3000 ≤ q.pnom) (p2 : q.pnom ≤ 0)
    (rw1 : 0 ≤ q.rw) (rw2 : q.rw ≤ 400) (rl1 : 0 ≤ q.rl) (rl2 : q.rl ≤ 400) (rr1 : 0 ≤ q.rr) (rr2 : q.rr ≤ 400) (w1 : 1 ≤ q.weeping)
    (w2 : q.weeping < q.leaking) (w3 : q.leaking ≤ 255) (s1 : 30 ≤ q.seat) (s2 : q.seat ≤ 300) (d1 : 60 ≤ q.leakDelay)
    (d2 : q.leakDelay ≤ 900) (r1 : 120 ≤ q.resealLimit) (r2 : q.resealLimit ≤ 1200) :
    BankPart1.ofBody (bankBody1 q) = q ∧ q.bad (bankBody1 q) = none := by
  have hkp : natAt (bankBody1 q) 1 1 = q.kp := natLow_field1 kp
  have hki : natAt (bankBody1 q) 2 1 = q.ki := natLow_field1 ki
  have hkf : natAt (bankBody1 q) 3 1 = q.kf := natLow_field1 kf
  have pnom : intAt (bankBody1 q) 4 2 = q.pnom := intLow_field2 (by omega) (by omega)
  have sensor : natAt (bankBody1 q) 6 1 = if q.mainSensor = true then 1 else 0 := natLow_fieldFlag _
  have hrw : (natAt (bankBody1 q) 7 2 : Int) = q.rw := natLow_field2_int rw1 (by omega)
  have hrl : (natAt (bankBody1 q) 9 2 : Int) = q.rl := natLow_field2_int rl1 (by omega)
  have hrr : (natAt (bankBody1 q) 11 2 : Int) = q.rr := natLow_field2_int rr1 (by omega)
  have weeping : natAt (bankBody1 q) 13 1 = q.weeping := natLow_field1 (by omega)
  have leaking : natAt (bankBody1 q) 14 1 = q.leaking := natLow_field1 (by omega)
  have seat : natAt (bankBody1 q) 15 2 = q.seat := natLow_field2 (by omega)
  have delay : natAt (bankBody1 q) 17 2 = q.leakDelay := natLow_field2 (by omega)
  have reseal : natAt (bankBody1 q) 19 2 = q.resealLimit := natLow_field2 (by omega)
  have main : decide (natAt (bankBody1 q) 6 1 = 1) = q.mainSensor := by
    rw [sensor]
    cases q.mainSensor <;> rfl
  have flag : natAt (bankBody1 q) 6 1 ≤ 1 := by
    rw [sensor]
    split <;> omega
  refine ⟨by simp only [BankPart1.ofBody, hkp, hki, hkf, pnom, main, hrw, hrl, hrr, weeping, leaking, seat, delay, reseal],
    firstPlace_none ?_⟩
  simp only [List.forall_mem_cons, outside, outsideInt, decide_eq_false_iff_not, not_or, Nat.not_lt]
  refine ⟨?_, ⟨Nat.zero_le _, flag⟩, ?_, ?_, ?_, ?_, ?_, ?_, ?_, ?_, by simp⟩ <;> omega

theorem State.startBody_bank0 {s : State} (role : s.role = .bank) (rest : List Byte) (inputs : BitVec 16) :
    s.startBody (0#8 :: rest) inputs = s.startPart0 (0#8 :: rest) := by
  rw [State.startBody, role]
  exact if_pos rfl

theorem State.startBody_bank1 {s : State} (role : s.role = .bank) (rest : List Byte) (inputs : BitVec 16) :
    s.startBody (1#8 :: rest) inputs = s.startPart1 (1#8 :: rest) inputs := by
  rw [State.startBody, role]
  exact (if_neg (by decide)).trans (if_pos rfl)

/-- A part 0 in its ranges is staged (R20, R191). -/
theorem State.startPart0_good {s : State} {b : List Byte} (size : b.length = bankWidths0.sum) (line : s.straps.lineRate ≠ 3)
    (port : s.straps.portRate ≠ 3) (off : s.life.state = .offLine) (free : s.config = none) (good : (BankPart0.ofBody b).bad b = none) :
    s.startPart0 b = (s.withStaged (some (BankPart0.ofBody b))).answer .accepted detailPartHeld := by
  rw [State.startPart0, State.startGate_exact _ size, State.startChecks_pass _ line port off free]
  simp only [good]

/-- A part 1 in its ranges completes START (R20, R191). -/
theorem State.startPart1_good {s : State} {b : List Byte} {inputs : BitVec 16} {p : BankPart0} (staged : s.staged = some p)
    (size : b.length = bankWidths1.sum) (line : s.straps.lineRate ≠ 3) (port : s.straps.portRate ≠ 3) (off : s.life.state = .offLine)
    (free : s.config = none) (good : (BankPart1.ofBody b).bad b = none) :
    s.startPart1 b inputs = (s.withStaged none).accept ⟨p.ovens, p.pushLimit, p.consent, .bank p (BankPart1.ofBody b)⟩ inputs := by
  rw [State.startPart1]
  simp only [staged, good]
  exact (State.startGate_exact _ size).trans (State.startChecks_pass (s := s.withStaged none) _ line port off free)

/-- A BANK's accepted START: its units and doors stand, and the station joins. -/
theorem State.acceptBank_joins {s : State} (clear : s.OffLineClear) (p : BankPart0) (q : BankPart1) {inputs : BitVec 16}
    {ports : Nat → Port} (first : ports 0 = s.port) (steps : ∀ d, d < 2 * p.count → ports (d + 1) = if inputs.getLsbD d = true then
      ((ports d).offerReport (.doorEvent (p.first + d / 2) (doorSide d) .unlatched .unlatchedUnexpected 0)).offerReport
        (.attention (some (p.first + d / 2)) (some (doorSide d)) .unlatchedUnexpected true) else ports d) :
    { s with port := ports (2 * p.count) }.Joins (some (p.first, p.count))
        ((s.withStaged none).accept ⟨p.ovens, p.pushLimit, p.consent, .bank p q⟩ inputs).derive ∧
      SameBut [.life, .line, .queue, .table, .free, .out, .port]
        { s with config := some ⟨p.ovens, p.pushLimit, p.consent, .bank p q⟩, staged := none, bank := startBank p q inputs (2 * p.count),
                 port := ports (2 * p.count) }
        ((s.withStaged none).accept ⟨p.ovens, p.pushLimit, p.consent, .bank p q⟩ inputs).derive := by
  obtain ⟨-, empty, listed, unnamed⟩ := clear
  rw [State.accept, State.configure_bank (s.withStaged none) p q first steps]
  exact State.enterJoining_joins empty listed unnamed

end Sys2Proof.Machine

open Sys2Proof Sys2Proof.Machine

/-- Settles O26: part 0 by its fields, part 1 by its fields, the doors one after another, and the entry to JOINING. -/
theorem bankStartsInTwoParts : Obligations.BankStartsInTwoParts := by
  intro s p q mask rw_ rl rr role free off line port n1 n2 l1 l2 low consent f1 c1 c8 fits t1 t2 m1 m2 al b1 b2 fl1 fl2 sp1 sp2 ct1 ct2
  refine ⟨fun sound begins inputs => ?_, ?_⟩
  · obtain ⟨read, good⟩ := bankBody0_good n1 n2 l1 l2 low consent f1 c1 c8 fits t1 t2 m1 m2 al b1 b2 fl1 fl2 sp1 sp2 ct1 ct2
    have begins : s.Begins 0x01#8 (bankBody0 p mask) := begins
    have body : s.startBody (bankBody0 p mask) inputs = s.startPart0 (bankBody0 p mask) := State.startBody_bank0 role _ inputs
    rw [State.execStart_eq begins, body, State.startPart0_good rfl line port off free (by rw [read]; exact good), read, State.answer_eq]
    exact congrArg _ (State.derive_eq sound rfl rfl)
  · intro clear staged kp ki kf p1 p2 erw erl err hrw hrl hrr w1 w2 w3 s1 s2 d1 d2 r1 r2 begins inputs ports start steps
    rw [← erw, ← erl, ← err] at begins
    have begins : s.Begins 0x01#8 (bankBody1 q) := begins
    obtain ⟨read, good⟩ := bankBody1_good kp ki kf p1 p2 (by omega) (by omega) (by omega) (by omega) (by omega) (by omega) w1 w2 w3 s1 s2 d1
      d2 r1 r2
    have body : s.startBody (bankBody1 q) inputs = s.startPart1 (bankBody1 q) inputs := State.startBody_bank1 role _ inputs
    rw [State.execStart_eq begins, body, State.startPart1_good staged rfl line port off free (by rw [read]; exact good), read]
    obtain ⟨joins, same⟩ := State.acceptBank_joins clear p q (inputs := inputs) start steps
    have bank := same .bank (by decide)
    refine ⟨_, rfl, joins, same .staged (by decide), same .config (by decide), congrArg Bank.ovens bank, ?_, ?_, ?_, congrArg Bank.main bank,
      congrArg Bank.mainAge bank, congrArg Bank.mainTimer bank, congrArg Bank.tick bank,
      (SameBut.trans (ps := [.config, .staged, .bank, .port]) ((sameBut_iff _ _ _).2 (by simp)) same).mono (by decide)⟩
    · intro l hl
      rw [congrArg Bank.loops bank] at hl
      rw [List.eq_of_mem_replicate hl]
      exact ⟨rfl, rfl, rfl, rfl, rfl, rfl⟩
    · exact (congrArg (fun b : Bank => b.loops.length) bank).trans List.length_replicate
    · refine (congrArg Bank.doors bank).trans (List.map_congr_left fun d hd => ?_)
      rw [if_pos (List.mem_range.1 hd), Door.started]
      by_cases reads : inputs.getLsbD d = true
      · rw [if_pos (latchOf_unlatched.2 reads), if_pos reads, latchOf_unlatched.2 reads]
        rfl
      · rw [if_neg (fun h => reads (latchOf_unlatched.1 h)), if_neg reads, latchOf, if_neg reads]
        rfl

end

section
/-! PROOFS. What a taken frame does beyond its window (R9, R16), and a taken PUSH_CLAIM (O36). -/

namespace Sys2Proof.Machine

/-! ## The window of a taken frame -/

/-- The parts that the blocks of a heard frame leave alone stay as the window has them (R9). -/
theorem State.heard_ends {s u : State} {w : Window} {f : Frame} (h : s.Hears w f) (hv : s.line.vto = false)
    (hb : ∀ p t, f.body ≠ .announce p t) (hu : ((s.atKind f).kindTaken f w.census).othersOutcome false f w.verdict false = u)
    {parts : List Part} (same : SameBut parts (s.atKind f) u) (line : .line ∉ parts) (life : .life ∉ parts) :
    ∃ t, exec (.settleOutcome false) s = .next t ∧ SameBut (.out :: parts) (s.windowEnded f s.queue) t ∧
      t.claims = u.claims ∧ t.queue = u.queue ∧ t.bank = u.bank ∧ t.plan = u.plan ∧ t.machine = u.machine ∧ t.car = u.car ∧
      t.port = u.port ∧ t.stop = u.stop := by
  refine ⟨_, State.heard_taken h hv hb hu (same .line line) (same .life life), fun p hp => ?_, rfl, rfl, rfl, rfl, rfl, rfl, rfl, rfl⟩
  obtain ⟨away, inside⟩ := not_or.1 (fun h => hp (List.mem_cons.2 h))
  have kept := same p inside
  cases p
  case out => exact absurd rfl away
  case line => rfl
  all_goals exact kept

/-- The same of a frame of this station's own: its entry leaves the queue, and its producer is told (R16). -/
theorem State.own_ends {s u : State} {w : Window} {k : Nat} {e : QueueEntry} {f : Frame} (h : s.OwnWindow w k e) (hf : w.frame = some f)
    (hv : s.line.vto = false) (hb : ∀ p t, f.body ≠ .announce p t)
    (hu : (((s.atKind f).kindTaken f w.census).othersOutcome true f w.verdict false).ownOutcome false = u) {rest : List QueueEntry}
    {parts : List Part} (same : SameBut parts { s.atKind f with queue := rest } u) (line : .line ∉ parts) (life : .life ∉ parts) :
    ∃ t, exec (.settleOutcome false) s = .next t ∧ SameBut (.out :: parts) (s.windowEnded f rest) t ∧
      t.claims = u.claims ∧ t.queue = u.queue ∧ t.bank = u.bank ∧ t.plan = u.plan ∧ t.machine = u.machine ∧ t.car = u.car ∧
      t.port = u.port ∧ t.stop = u.stop := by
  refine ⟨_, State.own_taken h hf hv hb hu (same .line line) (same .life life), fun p hp => ?_, rfl, rfl, rfl, rfl, rfl, rfl, rfl, rfl⟩
  obtain ⟨away, inside⟩ := not_or.1 (fun h => hp (List.mem_cons.2 h))
  have kept := same p inside
  cases p
  case out => exact absurd rfl away
  case line => rfl
  all_goals exact kept

/-- With one entry in flight, what is not in flight is the queue without it. -/
theorem filter_eraseIdx {q : List QueueEntry} {k : Nat} {e : QueueEntry} (at_ : q[k]? = some e) (flies : e.inFlight = true)
    (only : ∀ (i : Nat) (x : QueueEntry), q[i]? = some x → x.inFlight = true → i = k) :
    q.filter (fun x => !x.inFlight) = q.eraseIdx k := by
  induction q generalizing k with
  | nil => rfl
  | cons x rest ih =>
    cases k with
    | zero =>
      obtain rfl : x = e := by simpa using at_
      rw [List.filter_cons_of_neg (by simp [flies]), List.eraseIdx_cons_zero]
      refine List.filter_eq_self.2 fun y hy => ?_
      obtain ⟨i, hi⟩ := List.getElem?_of_mem hy
      by_contra flying
      have := only (i + 1) y hi (by simpa using flying)
      omega
    | succ k =>
      have grounded : x.inFlight = false := by
        by_contra flying
        have := only 0 x rfl (by simpa using flying)
        omega
      rw [List.filter_cons_of_pos (by simp [grounded]), List.eraseIdx_cons_succ,
        ih (by simpa using at_) fun i y hy flying => by have := only (i + 1) y (by simpa using hy) flying; omega]

/-- The entry of the own window is the one in flight. -/
theorem State.OwnWindow.inFlight {s : State} {w : Window} {k : Nat} {e : QueueEntry} (h : s.OwnWindow w k e) : s.inFlight? = some e := by
  obtain ⟨-, -, -, -, -, -, -, at_, flies, only⟩ := h
  unfold State.inFlight?
  cases found : s.queue.find? QueueEntry.inFlight with
  | none => exact absurd flies (by simpa using List.find?_eq_none.1 found e (List.mem_of_getElem? at_))
  | some x =>
    obtain ⟨i, hi⟩ := List.getElem?_of_mem (List.mem_of_find?_eq_some found)
    obtain rfl := only i x hi (List.find?_some found)
    exact (hi.symm.trans at_)

theorem State.OwnWindow.dropped {s : State} {w : Window} {k : Nat} {e : QueueEntry} (h : s.OwnWindow w k e) :
    s.queue.filter (fun x => !x.inFlight) = s.queue.eraseIdx k := by
  obtain ⟨-, -, -, -, -, -, -, at_, flies, only⟩ := h
  exact filter_eraseIdx at_ flies only

theorem State.ownOutcome_taken {s : State} {e : QueueEntry} (h : s.inFlight? = some e) : s.ownOutcome false = s.ownTaken e := by
  rw [State.ownOutcome, h]
  rfl

/-- A station that is not JOINING adopts no stopped condition (R34). -/
theorem State.windowEnded_settled {s : State} (h : s.life.state ≠ .joining) (f : Frame) (rest : List QueueEntry) :
    (s.windowEnded f rest).port = s.port ∧ (s.windowEnded f rest).stop = s.stop := by
  simp [State.windowEnded, h]

theorem Port.kick_hold (p : Port) : p.kick.hold = p.hold := by
  have sent (q : Port) : q.sendReport.hold = q.hold := by
    unfold Port.sendReport
    split <;> rfl
  unfold Port.kick
  repeat' split
  all_goals first | rfl | exact sent p

theorem Port.offerReport_hold (p : Port) (r : Report) : (p.offerReport r).hold = p.hold := by
  refine (Port.kick_hold _).trans ?_
  split <;> rfl

/-- The own PUSH_CLAIM leaves the queue with its report, where no ABANDON waits for it (R117). -/
theorem State.ownTaken_claim {s : State} {e : QueueEntry} {n c : Nat} {forced : Bool} (body : e.body = .pushClaim n c forced)
    (hold : s.port.hold = none) :
    s.ownTaken e = s.dropInFlight.report (.pushOutcome n c forced .taken none none) := by
  have waits : (s.dropInFlight.report (.pushOutcome n c forced .taken none none)).abandonWaits = false := by
    simp [State.abandonWaits, hold, Port.offerReport_hold]
  simp only [State.ownTaken, body, State.ownClaimTaken, waits]
  rfl

/-! ## Blocks that a station does not have -/

theorem State.changePlan_none {s : State} (h : s.plan = none) (f : Plan → Plan) : s.changePlan f = s := by
  unfold State.changePlan
  rw [h]
  obtain ⟨⟩ := s
  cases h
  rfl

theorem State.makeChoice_none {s : State} (h : s.plan = none) : s.makeChoice = s := by
  rw [State.makeChoice, h]

theorem State.compareReady_other {s : State} (h : s.role ≠ .quench) : s.compareReady = s := by
  unfold State.compareReady
  split
  · exact absurd ‹_› h
  · rfl

theorem State.dropClaim_none {s : State} (h : s.openClaim = none) : s.dropClaim = s := by
  rw [State.dropClaim, State.endClaim, h]

theorem State.ovenIndex_none {s : State} (h : s.bankConfig = none) (n : Nat) : s.ovenIndex n = none := by
  rw [State.ovenIndex, h]

/-- The place of an oven in the bank, and its number again. -/
theorem State.ovenAt_index {s : State} {n i : Nat} (h : s.ovenIndex n = some i) : s.ovenAt i = n := by
  unfold State.ovenIndex at h
  unfold State.ovenAt
  split at h
  · split at h
    · obtain rfl := Option.some.inj h
      simp [*]
    · exact absurd h (by simp)
  · exact absurd h (by simp)

/-! ## An oven's entry to a state -/

/-- The record of an oven at place i as it has entered a state (R36, R37, R41). -/
def State.ovenEntered (s : State) (p0 : BankPart0) (i : Nat) (new : OvenState) (o : Oven) : Oven :=
  (if new = .held ∧ s.bothLatched i = true then { o.enter p0 new with held := some 0 } else o.enter p0 new).withCauses

/-- The port with what an oven's entry to a state reports: causes of attention, then OVEN_STATE (R36, R37). -/
def Port.ovenEntered (p : Port) (n : Nat) (o o1 : Oven) : Port :=
  let p1 := if o1.overcoked = o.overcoked then p else p.offerReport (.attention (some n) none .overcoked o1.overcoked)
  let p2 := if o1.faulted = o.faulted then p1 else p1.offerReport (.attention (some n) none .faulted o1.faulted)
  p2.offerReport (.ovenState n o.state o1.state o1.credit o1.readiness o1.stamp)

theorem State.reportIf_eq (s : State) (b : Bool) (r : Report) : s.reportIf b r = s.withPort (if b = true then s.port.offerReport r else s.port) := by
  cases b <;> rfl

theorem modify_const {α : Type} {l : List α} {i : Nat} (x : α) : l.modify i (fun _ => x) = l.set i x := by
  refine List.ext_getElem? fun k => ?_
  rw [List.getElem?_modify, List.getElem?_set]
  by_cases here : i = k
  · subst here
    by_cases inside : i < l.length <;> simp [inside]
  · simp [here]

theorem State.putOven_eq {s : State} {i : Nat} {o : Oven} (at_ : s.bank.ovens[i]? = some o) (new : Oven) :
    s.putOven i new = (s.withBank { s.bank with ovens := s.bank.ovens.set i new.withCauses }).withPort
      (let p1 := if new.withCauses.overcoked = o.overcoked then s.port
        else s.port.offerReport (.attention (some (s.ovenAt i)) none .overcoked new.withCauses.overcoked)
       if new.withCauses.faulted = o.faulted then p1
        else p1.offerReport (.attention (some (s.ovenAt i)) none .faulted new.withCauses.faulted)) := by
  have found : s.oven? i = some o := at_
  unfold State.putOven
  rw [found]
  simp only [State.reportIf_eq, State.setOven, modify_const, decide_eq_true_eq, ne_eq, ite_not]
  rfl

theorem State.reportOven_eq {s : State} {i : Nat} {o : Oven} (at_ : s.bank.ovens[i]? = some o) (before : OvenState) :
    s.reportOven i before = s.withPort (s.port.offerReport (.ovenState (s.ovenAt i) before o.state o.credit o.readiness o.stamp)) := by
  have found : s.oven? i = some o := at_
  rw [State.reportOven, found]
  rfl

/-- An oven enters a state (R36): its record and its reports. -/
theorem State.enterOven_eq {s : State} {p0 : BankPart0} {p1 : BankPart1} {i n : Nat} {o : Oven} (bank : s.bankConfig = some (p0, p1))
    (at_ : s.bank.ovens[i]? = some o) (number : s.ovenAt i = n) (new : OvenState) :
    s.enterOven i new = (s.withBank { s.bank with ovens := s.bank.ovens.set i (s.ovenEntered p0 i new o) }).withPort
      (s.port.ovenEntered n o (s.ovenEntered p0 i new o)) := by
  subst number
  have found : s.oven? i = some o := at_
  unfold State.enterOven
  simp only [bank, found]
  rw [State.putOven_eq at_]
  exact State.reportOven_eq (List.getElem?_set_self (List.getElem?_eq_some_iff.1 at_).1) o.state

/-- OVEN_STATE with old and new state equal (R36). -/
theorem State.reportOvenUnchanged_eq {s : State} {i n : Nat} {o : Oven} (at_ : s.bank.ovens[i]? = some o) (number : s.ovenAt i = n) :
    s.reportOvenUnchanged i = s.withPort (s.port.offerReport (.ovenState n o.state o.state o.credit o.readiness o.stamp)) := by
  subst number
  have found : s.oven? i = some o := at_
  rw [State.reportOvenUnchanged, found]
  exact State.reportOven_eq at_ o.state

/-! ## Doors that a claim leaves alone -/

theorem State.giveUpReseal_none {s : State} {n i : Nat} {j : Side} {x : Door} (index : s.ovenIndex n = some i)
    (at_ : s.bank.doors[doorIndex i j]? = some x) (still : x.sealing ≠ .resealing) : s.giveUpReseal n j = s := by
  have found : s.door? (doorIndex i j) = some x := at_
  have none : s.resealingDoor n j = none := by simp [State.resealingDoor, index, found, still]
  unfold State.giveUpReseal
  rw [none]

theorem State.seatDoor_none {s : State} {d : Nat} {x : Door} (at_ : s.bank.doors[d]? = some x) (on : x.sealing ≠ .off) : s.seatDoor d = s := by
  have found : s.door? d = some x := at_
  rw [State.seatDoor, found]
  exact if_neg fun h => on h.1

/-- The doors of an oven, neither RESEALING nor in OFF, stay as a claim on it is taken or adopted (R83, R94). -/
theorem State.doors_stand {s : State} {n i : Nat} {x y : Door} (index : s.ovenIndex n = some i) (ps : s.bank.doors[2 * i]? = some x)
    (cs : s.bank.doors[2 * i + 1]? = some y) (hx : x.sealing ≠ .resealing) (hy : y.sealing ≠ .resealing) (ox : x.sealing ≠ .off)
    (oy : y.sealing ≠ .off) : ((s.giveUpReseal n .ps).giveUpReseal n .cs).seatDoors i = s := by
  rw [State.giveUpReseal_none (j := .ps) index ps hx, State.giveUpReseal_none (j := .cs) index cs hy, State.seatDoors,
    State.seatDoor_none (d := doorIndex i .ps) ps ox, State.seatDoor_none (d := doorIndex i .cs) cs oy]

/-! ## A claim taken -/

/-- The claim record as a PUSH_CLAIM fills it (R121). -/
def Tracker.taking (k : Tracker) (now n c sender : Nat) (forced : Bool) : Tracker :=
  { k with
    record := some ⟨n, c, some sender, forced, ⟨false, false, false, false, false, false, false, false, false, false⟩, now, 0, .opened⟩
    highest := c, retry := none }

theorem State.bankClaimTaken_elsewhere {s : State} {n : Nat} (h : s.ovenIndex n = none) : s.bankClaimTaken n = s := by
  rw [State.bankClaimTaken, h]

/-- A claim is taken where none is OPEN, at a station without plan and car. -/
theorem State.takeClaim_eq {s : State} (free : s.openClaim = none) (plan : s.plan = none) (role : s.role ≠ .quench) (n c sender : Nat)
    (forced : Bool) :
    s.takeClaim n c sender forced = (s.withClaims (s.claims.taking s.time n c sender forced)).bankClaimTaken n := by
  rw [State.takeClaim, State.dropClaim_none free]
  dsimp only
  rw [State.changePlan_none (by simpa using plan), State.makeChoice_none (by simpa using plan),
    State.compareReady_other (by simpa [State.role] using role)]
  rfl

/-- At the claim's bank an oven in COKING becomes CLAIMED, and its loop ISOLATING (R69, R121). -/
theorem State.bankClaimTaken_coking {s : State} {p0 : BankPart0} {p1 : BankPart1} {n i : Nat} {o : Oven} {l : Loop} {x y : Door}
    (bank : s.bankConfig = some (p0, p1)) (index : s.ovenIndex n = some i) (oven : s.bank.ovens[i]? = some o)
    (loop : s.bank.loops[i]? = some l) (ps : s.bank.doors[2 * i]? = some x) (cs : s.bank.doors[2 * i + 1]? = some y)
    (hx : x.sealing ≠ .resealing) (hy : y.sealing ≠ .resealing) (ox : x.sealing ≠ .off) (oy : y.sealing ≠ .off) (cokes : o.state = .coking) :
    s.bankClaimTaken n = (s.withBank { s.bank with
      ovens := s.bank.ovens.set i (s.ovenEntered p0 i .claimed o), loops := s.bank.loops.set i l.enterIsolating }).withPort
      (s.port.ovenEntered n o (s.ovenEntered p0 i .claimed o)) := by
  have found : s.oven? i = some o := oven
  have loops : s.bank.loops.modify i Loop.enterIsolating = s.bank.loops.set i l.enterIsolating := by
    rw [List.modify_eq_set_getElem?, loop]
    rfl
  unfold State.bankClaimTaken
  simp only [index, found, Option.any_some, cokes, decide_true, if_true]
  rw [State.enterOven_eq bank oven (State.ovenAt_index index)]
  rw [State.doors_stand (i := i) (x := x) (y := y) ?_ ?_ ?_ hx hy ox oy, State.setLoop]
  · simp only [← loops]
    rfl
  · exact index
  · exact ps
  · exact cs

/-- An oven in another state is left as it is, and reported (R121). -/
theorem State.bankClaimTaken_other {s : State} {n i : Nat} {o : Oven} {x y : Door} (index : s.ovenIndex n = some i)
    (oven : s.bank.ovens[i]? = some o) (ps : s.bank.doors[2 * i]? = some x) (cs : s.bank.doors[2 * i + 1]? = some y)
    (hx : x.sealing ≠ .resealing) (hy : y.sealing ≠ .resealing) (ox : x.sealing ≠ .off) (oy : y.sealing ≠ .off) (rests : o.state ≠ .coking) :
    s.bankClaimTaken n = s.withPort (s.port.offerReport (.ovenState n o.state o.state o.credit o.readiness o.stamp)) := by
  have found : s.oven? i = some o := oven
  unfold State.bankClaimTaken
  simp only [index, found, Option.any_some, decide_eq_true_eq, if_neg rests]
  rw [State.reportOvenUnchanged_eq oven (State.ovenAt_index index)]
  exact State.doors_stand index ps cs hx hy ox oy

/-! ## The claim note through a choice (R103 to R106) -/

theorem Plan.setMark_note (p : Plan) (o : Nat) (m : Mark) : (p.setMark o m).note = p.note := by
  cases o <;> rfl

theorem Plan.advance_note (p : Plan) : p.advance.note = p.note := by
  unfold Plan.advance
  repeat' split
  all_goals rfl

theorem lookDeferred_note (sum : Nat → Option (SummaryState × Nat)) (claimed : Nat → Bool) (l : List Nat) (p : Plan) :
    (lookDeferred sum claimed l p).1.note = p.note := by
  induction l generalizing p with
  | nil => rfl
  | cons o rest ih =>
    unfold lookDeferred
    split
    · exact ih p
    split
    · rw [ih]
      split
      · exact Plan.setMark_note _ _ _
      · rfl
    split
    · rfl
    · exact ih p

/-- The record that a judgement of the cursor oven leaves. -/
def CursorStep.plan : CursorStep → Plan
  | .result p _ => p
  | .advance p => p

theorem judgeCursor_note (sum : Nat → Option (SummaryState × Nat)) (claimed : Nat → Bool) (p : Plan) :
    (judgeCursor sum claimed p).plan.note = p.note := by
  unfold judgeCursor
  repeat' (first | split | dsimp only)
  all_goals first | rfl | exact Plan.setMark_note _ _ _

theorem chooseAtCursor_note (sum : Nat → Option (SummaryState × Nat)) (claimed : Nat → Bool) (n : Nat) (p : Plan) :
    (chooseAtCursor sum claimed n p).1.note = p.note := by
  induction n generalizing p with
  | zero => rfl
  | succ n ih =>
    have judged := judgeCursor_note sum claimed p
    unfold chooseAtCursor
    cases h : judgeCursor sum claimed p with
    | result q c => rwa [h] at judged
    | advance q =>
      rw [h] at judged
      exact (ih q.advance).trans ((Plan.advance_note q).trans judged)

/-- A choice keeps the claim note. -/
theorem Plan.choose_note (sum : Nat → Option (SummaryState × Nat)) (claimed : Nat → Bool) (p : Plan) :
    (p.choose sum claimed).1.note = p.note := by
  have looked := lookDeferred_note sum claimed p.deferred p
  unfold Plan.choose
  split
  · next found => rwa [found] at looked
  · next found =>
    rw [found] at looked
    exact (chooseAtCursor_note sum claimed _ _).trans looked

theorem State.makeChoice_eq {s : State} {p : Plan} (plan : s.plan = some p) (online : s.life.state = .onLine) :
    s.makeChoice = s.withPlan (some (s.choice p).1) := by
  rw [State.makeChoice, plan]
  exact if_pos (by simp [State.onLine, online])

/-- The pusher takes its own claim: the note, and a choice (R103, R108). -/
theorem State.takeClaim_pusher {s : State} {p : Plan} (free : s.openClaim = none) (plan : s.plan = some p) (role : s.role ≠ .quench)
    (bank : s.bankConfig = none) (online : s.life.state = .onLine) (n c sender : Nat) (forced : Bool) :
    ∃ q, q.note = some (n, p.cycle) ∧
      s.takeClaim n c sender forced = (s.withClaims (s.claims.taking s.time n c sender forced)).withPlan (some q) := by
  set filled := s.withClaims (s.claims.taking s.time n c sender forced) with hfilled
  refine ⟨((filled.withPlan (some (p.noteClaim n))).choice (p.noteClaim n)).1, Plan.choose_note _ _ (p.noteClaim n), ?_⟩
  calc s.takeClaim n c sender forced
      = (((filled.bankClaimTaken n).changePlan (Plan.noteClaim n)).makeChoice).compareReady := by
        rw [State.takeClaim, State.dropClaim_none free]
        rfl
    _ = ((filled.withPlan (some (p.noteClaim n))).makeChoice).compareReady := by
        rw [State.bankClaimTaken_elsewhere (State.ovenIndex_none (s := filled) bank n), State.changePlan, show filled.plan = some p from plan]
        rfl
    _ = _ := by
        rw [State.makeChoice_eq (s := filled.withPlan (some (p.noteClaim n))) rfl online]
        exact State.compareReady_other role

end Sys2Proof.Machine

open Sys2Proof Sys2Proof.Machine

/-- Settles O36: the claim heard at a station elsewhere and at the bank of the oven, and the pusher's own. -/
theorem pushClaimTaken : Obligations.PushClaimTaken := by
  intro s w f n c forced sender record body free vto filled
  subst filled
  have notAnnounce : ∀ p t, f.body ≠ .announce p t := by simp [body]
  refine ⟨fun s1 hears from_ verdict plan ended => ?_, ?_⟩
  · subst from_ ended
    have kind (role : s.role ≠ .quench) : ((s.atKind f).kindTaken f w.census).othersOutcome false f w.verdict false =
        (((s.atKind f).withClaims (s.claims.taking s.time n c f.sender forced)).bankClaimTaken n).report
          (.pushOutcome n c forced .taken (some f.sender) none) := by
      have taken := State.takeClaim_eq (s := s.atKind f) free plan role n c f.sender forced
      simp only [State.kindTaken, body, taken, State.othersOutcome, verdict]
      rfl
    refine ⟨fun role index => ?_, fun p0 p1 cfgN lim m i o l x y role config index oven loop ps cs hx hy ox oy => ⟨fun cokes => ?_, fun rests => ?_⟩⟩
    · have kind := kind role
      rw [State.bankClaimTaken_elsewhere (by exact index)] at kind
      obtain ⟨t, done, same, claims, -, -, -, -, -, port, -⟩ := State.heard_ends hears vto notAnnounce kind (parts := [.claims, .port])
        ((sameBut_iff _ _ _).2 (by simp)) (by decide) (by decide)
      exact ⟨t, done, same.mono (by decide), claims, port⟩
    · have kind := kind (by simp [role])
      have bank : s.bankConfig = some (p0, p1) := by simp [State.bankConfig, config]
      rw [State.bankClaimTaken_coking (s := (s.atKind f).withClaims _) bank index oven loop ps cs hx hy ox oy cokes] at kind
      obtain ⟨t, done, same, claims, -, units, -, -, -, port, -⟩ := State.heard_ends hears vto notAnnounce kind (parts := [.claims, .bank, .port])
        ((sameBut_iff _ _ _).2 (by simp)) (by decide) (by decide)
      refine ⟨t, _, done, same.mono (by decide), claims, units, rfl, rfl, rfl, rfl, rfl, ?_⟩
      rw [port, ← cokes]
      rfl
    · have kind := kind (by simp [role])
      rw [State.bankClaimTaken_other (s := (s.atKind f).withClaims _) index oven ps cs hx hy ox oy rests] at kind
      obtain ⟨t, done, same, claims, -, -, -, -, -, port, -⟩ := State.heard_ends hears vto notAnnounce kind (parts := [.claims, .port])
        ((sameBut_iff _ _ _).2 (by simp)) (by decide) (by decide)
      exact ⟨t, done, same.mono (by decide), claims, port⟩
  · intro k e p own online same frame self from_ role bank hold plan
    obtain rfl : sender = f.sender := from_.trans self.symm
    obtain ⟨port, stop⟩ := State.windowEnded_settled (by rw [online]; decide : s.life.state ≠ .joining) f s.queue
    have port : (s.atKind f).port = s.port := port
    obtain ⟨q, note, taken⟩ := State.takeClaim_pusher (s := s.atKind f) free plan (fun h => by
      rw [show (s.atKind f).role = s.role from rfl, role] at h
      exact absurd h (by decide))
      bank online n c f.sender forced
    have kind : (((s.atKind f).kindTaken f w.census).othersOutcome true f w.verdict false).ownOutcome false =
        ((((s.atKind f).withClaims (s.claims.taking s.time n c f.sender forced)).withPlan (some q)).withQueue (s.queue.eraseIdx k)).report
          (.pushOutcome n c forced .taken none none) := by
      simp only [State.kindTaken, body, taken, State.othersOutcome]
      refine (State.ownOutcome_taken (e := e) (by exact own.inFlight)).trans
        ((State.ownTaken_claim (same.trans body) (by simpa [port] using hold)).trans ?_)
      rw [← own.dropped]
      rfl
    obtain ⟨t, done, kept, claims, queue, -, plan', -, -, told, -⟩ := State.own_ends own frame vto notAnnounce kind (rest := s.queue.eraseIdx k)
      (parts := [.claims, .plan, .port]) ((sameBut_iff _ _ _).2 (by simp)) (by decide) (by decide)
    have window : SameBut [.line, .queue, .table] s (s.windowEnded f (s.queue.eraseIdx k)) := (sameBut_iff _ _ _).2 (by
      simp [State.windowEnded, online])
    exact ⟨t, q, done, (SameBut.trans window kept).mono (by decide), queue, claims, plan', note, by rw [told, ← port]; rfl⟩

end

section
/-! PROOFS. The end of a push claim (R113, R125, R131), and a taken stage frame, heard or own (R16, R124). -/

namespace Sys2Proof.Machine

/-! ## The OPEN claim -/

theorem State.openClaim_of {s : State} {r : Claim} (record : s.claims.record = some r) (open_ : r.ending = .opened) : s.openClaim = some r := by
  simp [State.openClaim, record, open_]

theorem State.claimMatching_of {s : State} {r : Claim} (h : s.openClaim = some r) : s.claimMatching r.oven r.serial = some r := by
  simp [State.claimMatching, State.claimOn, h]

/-- No OPEN claim of the oven and serial: of those the record holds, none agrees. -/
theorem State.claimMatching_none {s : State} {n c : Nat}
    (h : ∀ r, s.claims.record = some r → r.ending = .opened → r.oven = n → r.serial ≠ c) : s.claimMatching n c = none := by
  rw [State.claimMatching, State.claimOn, State.openClaim]
  cases record : s.claims.record with
  | none => rfl
  | some r =>
    by_cases open_ : r.ending = .opened
    · by_cases oven : r.oven = n
      · have := h r record open_ oven
        simp [open_, oven, this]
      · simp [open_, oven]
    · simp [open_]

theorem Stage.ofCode_code (x : Stage) : Stage.ofCode? x.code = some x := by
  cases x <;> rfl

theorem Stage.code_inj {x y : Stage} : x.code = y.code ↔ x = y :=
  ⟨fun h => Option.some.inj (by rw [← Stage.ofCode_code x, h, Stage.ofCode_code y]), fun h => h ▸ rfl⟩

/-! ## Late frames (R126, R131) -/

theorem queueAfterClaim_eq (c : Nat) (q : List QueueEntry) :
    queueAfterClaim c q = q.filter fun e => e.inFlight || !(e.body.isStageOf c || e.body.isAbandonOf c) := by
  refine List.filter_congr fun e _ => ?_
  cases e.body <;> simp [Body.isStageOf, Body.isAbandonOf]

/-- The frames of an ended claim leave, and are reported late. -/
theorem State.withdrawLate_eq (s : State) (c : Nat) (byAbandon : Bool) :
    s.withdrawLate c byAbandon = (s.withQueue (queueAfterClaim c s.queue)).withPort (s.port.lateFrames c byAbandon s.queue) := by
  have late : lateReports c byAbandon s.queue = s.queue.filterMap fun e => match e.inFlight, e.body with
    | false, .pushStage n k x _ => if k = c then some (Report.stageLate n k x) else none
    | false, .pushAbandon n k a => if k = c ∧ byAbandon = false then some (Report.abandonLate n k (.ofCode a)) else none
    | _, _ => none := rfl
  rw [State.withdrawLate, State.reportAll_eq, State.withdraw, ← queueAfterClaim_eq, late]
  rfl

/-- A frame in flight is not among those that leave as a claim ends. -/
theorem queueAfterClaim_flying (c : Nat) (q : List QueueEntry) :
    (queueAfterClaim c q).find? QueueEntry.inFlight = q.find? QueueEntry.inFlight := by
  rw [queueAfterClaim_eq, List.find?_filter]
  congr 1
  funext e
  cases e.inFlight <;> simp

theorem queueAfterClaim_landed (c : Nat) (q : List QueueEntry) :
    (queueAfterClaim c q).filter (fun e => !e.inFlight) = queueAfterClaim c (q.filter fun e => !e.inFlight) := by
  rw [queueAfterClaim_eq, queueAfterClaim_eq, List.filter_filter, List.filter_filter]
  exact List.filter_congr fun e _ => Bool.and_comm _ _

/-- A frame in flight is not reported late. -/
theorem Port.lateFrames_landed (p : Port) (c : Nat) (byAbandon : Bool) (q : List QueueEntry) :
    p.lateFrames c byAbandon (q.filter fun e => !e.inFlight) = p.lateFrames c byAbandon q := by
  unfold Port.lateFrames
  congr 1
  rw [List.filterMap_filter]
  refine List.filterMap_congr fun e _ => ?_
  cases e.inFlight <;> rfl

/-! ## The end of a claim at a station that is not its bank -/

/-- The claims record and the machine unit as a claim has ended (R111, R141). -/
def Tracker.ended (k : Tracker) (c : Claim) (how : ClaimEnd) : Tracker := { k with record := some { c with ending := how }, retry := none }

/-- No revoke is owed, and no set wanted (R141, R143). -/
def MachineUnit.claimOver (m : MachineUnit) : MachineUnit := { m with revokeOwed := none, revokeTimer := none, setWanted := none }

theorem State.bankClaimEnds_elsewhere {s : State} {n : Nat} (h : s.ovenIndex n = none) (t : StageSet) (how : ClaimEnd) :
    s.bankClaimEnds n t how = s := by
  rw [State.bankClaimEnds, h]

theorem State.makeChoice_plan (s : State) : ∃ x, s.makeChoice = s.withPlan x ∧ (s.plan = none → x = none) := by
  unfold State.makeChoice
  split
  · next p hp =>
    split
    · exact ⟨_, rfl, fun h => absurd (hp.symm.trans h) (by simp)⟩
    · exact ⟨s.plan, rfl, id⟩
  · exact ⟨s.plan, rfl, id⟩

/-- The plan unit's part changes nothing but the plan record. -/
theorem State.planClaimEnds_plan (s : State) (n : Nat) (t : StageSet) (how : ClaimEnd) :
    ∃ x, s.planClaimEnds n t how = s.withPlan x ∧ (s.plan = none → x = none) := by
  have changed (f : Plan → Plan) : ∃ x, (s.changePlan f).makeChoice = s.withPlan x ∧ (s.plan = none → x = none) := by
    obtain ⟨x, eq, none'⟩ := (s.changePlan f).makeChoice_plan
    exact ⟨x, eq, fun h => none' (by simp [State.changePlan, h])⟩
  unfold State.planClaimEnds
  split
  · exact ⟨s.plan, rfl, id⟩
  · exact changed _
  · exact ⟨_, rfl, fun h => by simp [h]⟩
  · exact changed _

theorem State.planClaimEnds_none {s : State} (h : s.plan = none) (n : Nat) (t : StageSet) (how : ClaimEnd) : s.planClaimEnds n t how = s := by
  obtain ⟨x, eq, none'⟩ := s.planClaimEnds_plan n t how
  rw [eq, none' h, ← h]
  rfl

theorem State.carClaimEnds_other {s : State} (h : s.role ≠ .quench) (how : ClaimEnd) : s.carClaimEnds how = s := by
  have still : s.carClaimAbandoned = s := by
    unfold State.carClaimAbandoned
    split
    · exact absurd ‹_› h
    all_goals rfl
  cases how with
  | opened | closed => rfl
  | abandoned _ => exact still

/-- The state that the bank's part in the end of the claim c finds. -/
def State.claimOver (s : State) (c : Claim) (how : ClaimEnd) : State :=
  ((s.withClaims (s.claims.ended c how)).withQueue (queueAfterClaim c.serial s.queue)).withPort
    ((s.port.offerReport (c.endReport how)).lateFrames c.serial how.byAbandon s.queue)

/-- The OPEN claim ends: the claim tracker's part first, then the role units'. -/
theorem State.endClaim_eq {s : State} {c : Claim} (h : s.openClaim = some c) (how : ClaimEnd) :
    s.endClaim how = ((((s.claimOver c how).bankClaimEnds c.oven c.stages how).planClaimEnds c.oven c.stages
      how).clearRevoke.clearWanted).carClaimEnds how := by
  rw [State.endClaim, h]
  simp only [State.withdrawLate_eq]
  rfl

/-- The end of a claim at a station whose bank does not hold the oven, but for the car. -/
theorem State.endClaim_elsewhere {s : State} {c : Claim} (h : s.openClaim = some c) (index : s.ovenIndex c.oven = none) (how : ClaimEnd) :
    ∃ x, s.endClaim how = (((s.claimOver c how).withPlan x).withMachine s.machine.claimOver).carClaimEnds how ∧
      (s.plan = none → x = none) := by
  obtain ⟨x, eq, none'⟩ := (s.claimOver c how).planClaimEnds_plan c.oven c.stages how
  refine ⟨x, ?_, none'⟩
  rw [State.endClaim_eq h, State.bankClaimEnds_elsewhere (s := s.claimOver c how) index, eq]
  rfl

/-! ## A taken stage frame (R16, R124) -/

/-- A frame of the claims, heard or own, is TAKEN: `v` is what the blocks of its kind make of the station, and of an own frame the entry leaves
the send queue and its producer is told (R16). -/
theorem State.ends_taken {s v u : State} {w : Window} {f : Frame} {rest : List QueueEntry} (h : s.Ends w f rest) (vto : s.line.vto = false)
    (others : ∀ p t, f.body ≠ .announce p t) (claim : ∀ n c b, f.body ≠ .pushClaim n c b) (kind : (s.atKind f).kindTaken f w.census = v)
    (flies : v.queue.find? QueueEntry.inFlight = s.queue.find? QueueEntry.inFlight)
    (end_ : w.own = false → rest = s.queue → v = u)
    (own : ∀ e : QueueEntry, w.own = true → e.body = f.body → s.queue.filter (fun x => !x.inFlight) = rest → v.ownTaken e = u)
    {parts : List Part} (same : SameBut parts { s.atKind f with queue := rest } u) (line : .line ∉ parts) (life : .life ∉ parts) :
    ∃ t, exec (.settleOutcome false) s = .next t ∧ SameBut (.out :: parts) (s.windowEnded f rest) t ∧
      t.claims = u.claims ∧ t.queue = u.queue ∧ t.bank = u.bank ∧ t.plan = u.plan ∧ t.machine = u.machine ∧ t.car = u.car ∧
      t.port = u.port ∧ t.stop = u.stop := by
  have outcome (b : Bool) : v.othersOutcome b f w.verdict false = v := by
    unfold State.othersOutcome
    split
    · exact absurd ‹_› (claim _ _ _)
    · rfl
  obtain ⟨hears, rfl⟩ | ⟨k, e, window, body, frame, self, rfl⟩ := h
  · have heard : w.own = false := by
      obtain ⟨-, -, -, -, -, -, -, heard, -⟩ := hears
      exact heard
    exact State.heard_ends hears vto others (by rw [kind, outcome, end_ heard rfl]) same line life
  · have mine : w.own = true := by
      obtain ⟨-, -, -, -, mine, -⟩ := window
      exact mine
    have inFlight : v.inFlight? = some e := flies.trans window.inFlight
    exact State.own_ends window frame vto others
      (by rw [kind, outcome, State.ownOutcome_taken inFlight, own e mine body window.dropped]) same line life

end Sys2Proof.Machine
end

section
/-! PROOFS. The bank's records of one oven as a claim on it goes on and ends (R36, R69 to R72, R81 to R86, R124, R125, R132). -/

namespace Sys2Proof.Machine

/-! ## Reports of a bank -/

/-- The port of t is that of s with some reports of a bank offered one after another. -/
def State.BankTold (s t : State) : Prop := ∃ rs : List Report, rs.all Report.ofBank = true ∧ t.port = rs.foldl Port.offerReport s.port

theorem State.bankTold_of_port {s t : State} (h : t.port = s.port) : s.BankTold t := ⟨[], rfl, h⟩

theorem State.BankTold.trans {s t u : State} (h1 : s.BankTold t) (h2 : t.BankTold u) : s.BankTold u := by
  obtain ⟨a, ha, pa⟩ := h1
  obtain ⟨b, hb, pb⟩ := h2
  exact ⟨a ++ b, by rw [List.all_append, ha, hb]; rfl, by rw [pb, pa, List.foldl_append]⟩

/-- A step that leaves the port alone may follow. -/
theorem State.BankTold.same {s t u : State} (h1 : s.BankTold t) (h2 : u.port = t.port) : s.BankTold u := h1.trans (bankTold_of_port h2)

theorem State.reportIf_bankTold (s : State) (b : Bool) {r : Report} (h : r.ofBank = true) : s.BankTold (s.reportIf b r) := by
  cases b
  · exact bankTold_of_port rfl
  · exact ⟨[r], by simp [h], rfl⟩

theorem State.putOven_bankTold (s : State) (i : Nat) (o : Oven) : s.BankTold (s.putOven i o) := by
  unfold State.putOven
  split
  · exact bankTold_of_port rfl
  · exact ((bankTold_of_port (by simp)).trans (reportIf_bankTold _ _ rfl)).trans (reportIf_bankTold _ _ rfl)

theorem State.reportOven_bankTold (s : State) (i : Nat) (b : OvenState) : s.BankTold (s.reportOven i b) := by
  unfold State.reportOven
  split
  · exact bankTold_of_port rfl
  · exact reportIf_bankTold _ true rfl

theorem State.reportOvenUnchanged_bankTold (s : State) (i : Nat) : s.BankTold (s.reportOvenUnchanged i) := by
  unfold State.reportOvenUnchanged
  split
  · exact bankTold_of_port rfl
  · exact reportOven_bankTold _ _ _

theorem State.enterOven_bankTold (s : State) (i : Nat) (new : OvenState) : s.BankTold (s.enterOven i new) := by
  unfold State.enterOven
  split
  · exact (putOven_bankTold _ _ _).trans (reportOven_bankTold _ _ _)
  · exact bankTold_of_port rfl

theorem State.changeDoor_bankTold (s : State) (d : Nat) (f : Door → Door) : s.BankTold (s.changeDoor d f) := by
  unfold State.changeDoor
  split
  · exact bankTold_of_port rfl
  · exact (((bankTold_of_port (by simp)).trans (reportIf_bankTold _ _ rfl)).trans (reportIf_bankTold _ _ rfl)).trans
      (reportIf_bankTold _ _ rfl)

theorem State.seatDoor_bankTold (s : State) (d : Nat) : s.BankTold (s.seatDoor d) := by
  unfold State.seatDoor
  split
  · split
    · exact changeDoor_bankTold _ _ _
    · exact bankTold_of_port rfl
  · exact bankTold_of_port rfl

theorem State.doorStage_bankTold (s : State) (i : Nat) (j : Side) (on : Bool) : s.BankTold (s.doorStage i j on) := by
  unfold State.doorStage
  cases on with
  | false => exact changeDoor_bankTold _ _ _
  | true =>
    dsimp only
    rw [if_pos rfl]
    split
    · exact (seatDoor_bankTold _ _).trans (changeDoor_bankTold _ _ _)
    · exact seatDoor_bankTold _ _

theorem State.bankStage_bankTold (s : State) (n : Nat) (y : Stage) : s.BankTold (s.bankStage n y) := by
  unfold State.bankStage
  split
  · exact bankTold_of_port rfl
  · cases y with
    | isolated | carLoaded | ramHome | guideSet | carReady => exact bankTold_of_port rfl
    | psDoorOff | csDoorOff | psDoorOn | csDoorOn => exact doorStage_bankTold _ _ _ _
    | ramOut =>
      dsimp only
      split
      · exact enterOven_bankTold _ _ _
      · exact bankTold_of_port rfl

theorem State.bankClaimEnds_bankTold (s : State) (n : Nat) (t : StageSet) (how : ClaimEnd) : s.BankTold (s.bankClaimEnds n t how) := by
  unfold State.bankClaimEnds State.seatDoors State.endWatches
  split
  · exact bankTold_of_port rfl
  · refine (((BankTold.trans ?_ (changeDoor_bankTold _ _ _)).trans (changeDoor_bankTold _ _ _)).trans (seatDoor_bankTold _ _)).trans
      (seatDoor_bankTold _ _)
    split
    · exact (enterOven_bankTold _ _ _).same rfl
    · exact (reportOvenUnchanged_bankTold _ _).same rfl

/-! ## The records of one oven -/

/-- The bank units with the records of the oven at place i: its oven record, its loop and its doors. -/
def Bank.put (b : Bank) (i : Nat) (o : Oven) (l : Loop) (d : Side → Door) : Bank :=
  { b with ovens := b.ovens.set i o, loops := b.loops.set i l, doors := (b.doors.set (2 * i) (d .ps)).set (2 * i + 1) (d .cs) }

/-- The bank holds an oven at place i. -/
def Bank.Holds (b : Bank) (i : Nat) : Prop := i < b.ovens.length ∧ i < b.loops.length ∧ 2 * i + 1 < b.doors.length

theorem List.set_of_getElem? {α : Type} {l : List α} {i : Nat} {x : α} (h : l[i]? = some x) : l.set i x = l := by
  obtain ⟨inside, rfl⟩ := List.getElem?_eq_some_iff.1 h
  exact List.set_getElem_self inside

theorem Bank.put_self {b : Bank} {i : Nat} {o : Oven} {l : Loop} {d : Side → Door} (oven : b.ovens[i]? = some o) (loop : b.loops[i]? = some l)
    (ps : b.doors[2 * i]? = some (d .ps)) (cs : b.doors[2 * i + 1]? = some (d .cs)) : b.put i o l d = b := by
  rw [Bank.put, List.set_of_getElem? oven, List.set_of_getElem? loop, List.set_of_getElem? ps, List.set_of_getElem? cs]

theorem Bank.holds_of {b : Bank} {i : Nat} {o : Oven} {l : Loop} {x : Door} (oven : b.ovens[i]? = some o) (loop : b.loops[i]? = some l)
    (cs : b.doors[2 * i + 1]? = some x) : b.Holds i :=
  ⟨(List.getElem?_eq_some_iff.1 oven).1, (List.getElem?_eq_some_iff.1 loop).1, (List.getElem?_eq_some_iff.1 cs).1⟩

/-- A door record as one event leaves it (R86). -/
def Door.changed (x : Door) (f : Door → Door) : Door :=
  if !x.held && (decide ((f x).latch ≠ x.latch) || decide ((f x).sealing ≠ x.sealing)) then (f x).capture else f x

section
variable {b : Bank} {s : State} {i : Nat} {o : Oven} {l : Loop} {d : Side → Door}

theorem Bank.put_oven (h : b.Holds i) : (b.put i o l d).ovens[i]? = some o := List.getElem?_set_self h.1

theorem Bank.put_loop (h : b.Holds i) : (b.put i o l d).loops[i]? = some l := List.getElem?_set_self h.2.1

theorem Bank.put_door (h : b.Holds i) (j : Side) : (b.put i o l d).doors[doorIndex i j]? = some (d j) := by
  obtain ⟨-, -, inside⟩ := h
  cases j with
  | ps =>
    show ((b.doors.set (2 * i) (d .ps)).set (2 * i + 1) (d .cs))[2 * i]? = _
    rw [List.getElem?_set_ne (by omega), List.getElem?_set_self (by omega)]
  | cs => exact List.getElem?_set_self (by rw [List.length_set]; exact inside)

theorem Bank.put_setOven (o' : Oven) : { b.put i o l d with ovens := (b.put i o l d).ovens.set i o' } = b.put i o' l d := by
  simp [Bank.put]

theorem Bank.put_setLoop (h : b.Holds i) (f : Loop → Loop) :
    { b.put i o l d with loops := (b.put i o l d).loops.modify i f } = b.put i o (f l) d := by
  rw [List.modify_eq_set_getElem?, Bank.put_loop h]
  simp [Bank.put]

theorem Bank.put_setDoor (j : Side) (x : Door) :
    { b.put i o l d with doors := (b.put i o l d).doors.set (doorIndex i j) x } = b.put i o l (Function.update d j x) := by
  cases j with
  | ps =>
    have order : ((b.doors.set (2 * i) (d .ps)).set (2 * i + 1) (d .cs)).set (2 * i) x = (b.doors.set (2 * i) x).set (2 * i + 1) (d .cs) := by
      rw [List.set_comm _ _ (by omega), List.set_set]
    simpa [Bank.put, doorIndex, Side.index, Function.update] using order
  | cs => simp [Bank.put, doorIndex, Side.index, Function.update]

/-! ### The operations on them -/

theorem State.changeDoor_put (hs : s.bank = b.put i o l d) (h : b.Holds i) (j : Side) (f : Door → Door) :
    (s.changeDoor (doorIndex i j) f).bank = b.put i o l (Function.update d j ((d j).changed f)) := by
  have found : s.door? (doorIndex i j) = some (d j) := by
    rw [State.door?, hs]
    exact Bank.put_door h j
  unfold State.changeDoor
  rw [found]
  simp only [State.reportIf_bank]
  show { s.bank with doors := s.bank.doors.modify (doorIndex i j) fun _ => (d j).changed f } = _
  rw [modify_const, hs]
  exact Bank.put_setDoor j _

theorem Door.seatedIf_eq (x : Door) (may : Bool) :
    x.seatedIf may = if x.sealing = .off ∧ x.latch = .latched ∧ may = true then x.changed Door.enterSeating else x := by
  unfold Door.seatedIf
  split
  · next h =>
    obtain ⟨off, latched, -⟩ := h
    cases held : x.held <;> simp [Door.changed, Door.enterSeating, Door.endEpisode, Door.capture, off, latched, held] <;> rfl
  · rfl

theorem State.seatDoor_put (hs : s.bank = b.put i o l d) (h : b.Holds i) (j : Side) :
    (s.seatDoor (doorIndex i j)).bank = b.put i o l (Function.update d j ((d j).seatedIf (s.seats (doorIndex i j)))) := by
  have found : s.door? (doorIndex i j) = some (d j) := by
    rw [State.door?, hs]
    exact Bank.put_door h j
  rw [State.seatDoor, found, Door.seatedIf_eq]
  dsimp only
  split
  · exact State.changeDoor_put hs h j _
  · rw [Function.update_eq_self, hs]

theorem State.setLoop_put (hs : s.bank = b.put i o l d) (h : b.Holds i) (f : Loop → Loop) : (s.setLoop i f).bank = b.put i o (f l) d := by
  rw [State.setLoop, hs]
  exact Bank.put_setLoop h f

theorem State.enterOven_put {p0 : BankPart0} {p1 : BankPart1} (hs : s.bank = b.put i o l d) (h : b.Holds i) (bank : s.bankConfig = some (p0, p1))
    (new : OvenState) : (s.enterOven i new).bank = b.put i (s.ovenEntered p0 i new o) l d := by
  rw [State.enterOven_eq bank (by rw [hs]; exact Bank.put_oven h) rfl]
  show { s.bank with ovens := s.bank.ovens.set i (s.ovenEntered p0 i new o) } = _
  rw [hs]
  exact Bank.put_setOven _

/-! ### A stage followed and a claim over -/

/-- A door as it follows the stages of its side: `on` and `off` where the stage is its door-on or door-off stage (R82, R83, R85). -/
def Door.followed (x : Door) (on off : Bool) : Door :=
  if on then
    if (x.seatedIf true).latch = .unlatched then (x.seatedIf true).changed (Door.startWatch .onExpected) else x.seatedIf true
  else if off then x.changed Door.enterOff
  else x

theorem doorSide_index (i : Nat) (j : Side) : doorSide (doorIndex i j) = j := by
  cases j <;> simp [doorSide, doorIndex, Side.index]

theorem doorIndex_half (i : Nat) (j : Side) : doorIndex i j / 2 = i := by
  cases j with
  | ps => exact Nat.mul_div_cancel_left i (by decide)
  | cs =>
    show (2 * i + 1) / 2 = i
    omega

theorem State.doorOven_index (s : State) (i : Nat) (j : Side) : s.doorOven (doorIndex i j) = s.ovenAt i := by
  rw [State.doorOven, doorIndex_half]

/-- The doors follow the stage of a side (R82, R83, R85). -/
theorem State.doorStage_put (hs : s.bank = b.put i o l d) (h : b.Holds i) (j : Side) (on : Bool)
    (may : on = true → s.seats (doorIndex i j) = true) :
    (s.doorStage i j on).bank = b.put i o l (Function.update d j ((d j).followed on (!on))) := by
  unfold State.doorStage
  cases on with
  | false => exact State.changeDoor_put hs h j _
  | true =>
    have seated := State.seatDoor_put hs h j
    rw [may rfl] at seated
    have found : (s.seatDoor (doorIndex i j)).door? (doorIndex i j) = some ((d j).seatedIf true) := by
      rw [State.door?, seated, Bank.put_door h, Function.update_self]
    dsimp only
    rw [if_pos rfl, found]
    simp only [Option.any_some, decide_eq_true_eq, Door.followed, if_true]
    split
    · have watched := State.changeDoor_put seated h j (Door.startWatch .onExpected)
      rwa [Function.update_self, Function.update_idem] at watched
    · exact seated

/-- The records of an oven as a claim on it goes on by the stage y (R70, R82, R83, R124). -/
def Oven.followed (o : Oven) (s : State) (p0 : BankPart0) (i : Nat) (y : Stage) : Oven :=
  if y = .ramOut ∧ o.state = .claimed then s.ovenEntered p0 i .pushing o else o

/-- The loop as it follows a stage: ISOLATED is owed no longer (R70). -/
def Loop.followed (l : Loop) (y : Stage) : Loop := if y = .isolated then { l with owed := false } else l

/-- The door-on or door-off stage of a side follows at its own door alone. -/
theorem doors_followed (d : Side → Door) (y : Stage) (j : Side) (on : Bool) (hy : y = if on then j.doorOn else j.doorOff) :
    Function.update d j ((d j).followed on (!on)) = fun k => (d k).followed (decide (y = k.doorOn)) (decide (y = k.doorOff)) := by
  subst hy
  funext k
  cases j <;> cases k <;> cases on <;> rfl

/-- The bank follows a stage set on its oven (R124). -/
theorem State.bankStage_put {p0 : BankPart0} {p1 : BankPart1} {n : Nat} (hs : s.bank = b.put i o l d) (h : b.Holds i)
    (bank : s.bankConfig = some (p0, p1)) (index : s.ovenIndex n = some i) (y : Stage)
    (may : ∀ j, y = Side.doorOn j → s.seats (doorIndex i j) = true) :
    (s.bankStage n y).bank = b.put i (o.followed s p0 i y) (l.followed y)
      fun k => (d k).followed (decide (y = k.doorOn)) (decide (y = k.doorOff)) := by
  have still (hy : ∀ k, y ≠ Side.doorOn k ∧ y ≠ Side.doorOff k) :
      (fun k => (d k).followed (decide (y = k.doorOn)) (decide (y = k.doorOff))) = d := by
    funext k
    simp [Door.followed, hy k]
  unfold State.bankStage
  rw [index]
  cases y with
  | isolated => rw [still (fun k => by cases k <;> decide)]; exact State.setLoop_put hs h _
  | psDoorOff => rw [← doors_followed d .psDoorOff .ps false rfl]; exact State.doorStage_put hs h .ps false nofun
  | csDoorOff => rw [← doors_followed d .csDoorOff .cs false rfl]; exact State.doorStage_put hs h .cs false nofun
  | psDoorOn => rw [← doors_followed d .psDoorOn .ps true rfl]; exact State.doorStage_put hs h .ps true fun _ => may .ps rfl
  | csDoorOn => rw [← doors_followed d .csDoorOn .cs true rfl]; exact State.doorStage_put hs h .cs true fun _ => may .cs rfl
  | carLoaded | ramHome | guideSet | carReady => rw [still (fun k => by cases k <;> decide)]; exact hs
  | ramOut =>
    have found : s.oven? i = some o := by
      rw [State.oven?, hs]
      exact Bank.put_oven h
    rw [still (fun k => by cases k <;> decide)]
    dsimp only
    rw [found]
    by_cases claimed : o.state = .claimed
    · simp only [Option.any_some, claimed, decide_true, if_true, Oven.followed, and_self]
      exact State.enterOven_put hs h bank _
    · simp only [Option.any_some, claimed, Oven.followed, and_false, if_false]
      exact hs

/-- The loop of an oven that leaves a claim, `none` where the oven makes no transition (R70 to R72). -/
def Loop.claimOver (l : Loop) : Option OvenState → Loop
  | some new => l.afterClaim new
  | none => { l with owed := false }

/-- The bank's records as the claim on their oven is over (R70 to R72, R83, R85, R125, R132). -/
theorem State.bankClaimEnds_put {p0 : BankPart0} {p1 : BankPart1} {n : Nat} (hs : s.bank = b.put i o l d) (h : b.Holds i)
    (bank : s.bankConfig = some (p0, p1)) (index : s.ovenIndex n = some i) (t : StageSet) (how : ClaimEnd) (free : s.openClaim = none) :
    (s.bankClaimEnds n t how).bank =
      b.put i (((ovenAfterClaim how t o.state).map fun new => s.ovenEntered p0 i new o).getD o) (l.claimOver (ovenAfterClaim how t o.state))
        fun k => ((d k).changed Door.claimEnded).seatedIf
          (decide ((((ovenAfterClaim how t o.state).map fun new => s.ovenEntered p0 i new o).getD o).state ≠ .faulted)) := by
  have found : s.oven? i = some o := by
    rw [State.oven?, hs]
    exact Bank.put_oven h
  unfold State.bankClaimEnds
  simp only [index, found, Option.bind_some]
  generalize hnew : ovenAfterClaim how t o.state = new
  set o1 := (new.map fun new => s.ovenEntered p0 i new o).getD o with ho1
  set s1 := match new with
    | some new => (s.enterOven i new).setLoop i (Loop.afterClaim new)
    | none => (s.reportOvenUnchanged i).setLoop i fun l => { l with owed := false } with hs1
  have units : s1.bank = b.put i o1 (l.claimOver new) d := by
    rw [hs1, ho1]
    cases new with
    | some new => exact State.setLoop_put (State.enterOven_put hs h bank new) h _
    | none => exact State.setLoop_put (by simpa using hs) h _
  have free1 : s1.openClaim = none := by
    rw [hs1]
    cases new <;> simpa [State.openClaim] using free
  have ps := State.changeDoor_put units h .ps Door.claimEnded
  have cs := State.changeDoor_put ps h .cs Door.claimEnded
  have seats (u : State) (x : Side → Door) (j : Side) (hu : u.bank = b.put i o1 (l.claimOver new) x) (hc : u.openClaim = none) :
      u.seats (doorIndex i j) = decide (o1.state ≠ .faulted) := by
    have oven : u.oven? i = some o1 := by
      rw [State.oven?, hu]
      exact Bank.put_oven h
    simp [State.seats, State.claimOn, hc, doorIndex_half, oven]
  have seatPs := State.seatDoor_put cs h .ps
  rw [seats _ _ _ cs (by simpa [State.openClaim] using free1)] at seatPs
  have seatCs := State.seatDoor_put seatPs h .cs
  rw [seats _ _ _ seatPs (by simpa [State.openClaim] using free1)] at seatCs
  refine seatCs.trans (congrArg _ (funext fun k => ?_))
  cases k <;> rfl

end

/-! ### A door through the closing stage -/

/-- The end of a claim's watch alone captures nothing (R85, R86). -/
theorem Door.changed_claimEnded (x : Door) : x.changed Door.claimEnded = x.claimEnded := by
  have same : x.claimEnded.latch = x.latch ∧ x.claimEnded.sealing = x.sealing := by
    unfold Door.claimEnded
    repeat' split
    all_goals exact ⟨rfl, rfl⟩
  simp [Door.changed, same]

theorem Door.changed_startWatch (x : Door) (k : Watch) : x.changed (Door.startWatch k) = x.startWatch k := by
  simp [Door.changed, Door.startWatch]

/-- A door that follows the closing stage of its side, if it is one, and then the end of the claim (R82, R83, R85). -/
theorem Door.closing (x : Door) (on off seats : Bool) (one : (on && off) = false) :
    ((x.followed on off).changed Door.claimEnded).seatedIf seats = x.atClaimEnd on off seats := by
  rw [Door.changed_claimEnded]
  obtain ⟨latch, sealing, ring, seat, leaking, called, call, reseal, mismatch, unlatched, mismatched, held, snapLatch, snapSeal⟩ := x
  have watch : mismatch = none ∨ ∃ k t, mismatch = some ⟨k, t⟩ := by
    cases mismatch with
    | none => exact .inl rfl
    | some m => exact .inr ⟨m.kind, m.timer, rfl⟩
  cases on with
  | true =>
    obtain rfl : off = false := by simpa using one
    cases latch with
    | latched => by_cases open_ : sealing = .off <;> rcases watch with rfl | ⟨_ | _, t, rfl⟩ <;>
        simp [Door.followed, Door.atClaimEnd, Door.seatedIf, Door.claimEnded, Door.endWatch, open_]
    | unlatched => rcases watch with rfl | ⟨_ | _, t, rfl⟩ <;>
        simp [Door.followed, Door.atClaimEnd, Door.seatedIf, Door.claimEnded, Door.changed_startWatch, Door.startWatch]
  | false =>
    cases off with
    | true =>
      have opened : (Seal.off = sealing) = (sealing = .off) := propext eq_comm
      by_cases open_ : sealing = .off <;> cases latch <;> cases held <;> rcases watch with rfl | ⟨_ | _, t, rfl⟩ <;>
        simp [Door.followed, Door.atClaimEnd, Door.seatedIf, Door.claimEnded, Door.endWatch, Door.changed, Door.enterOff, Door.endEpisode,
          Door.capture, Door.startWatch, opened, open_]
    | false =>
      rcases watch with rfl | ⟨_ | _, t, rfl⟩ <;> simp [Door.followed, Door.atClaimEnd, Door.claimEnded, Door.endWatch]

end Sys2Proof.Machine
end

section
/-! PROOFS. A taken PUSH_STAGE (O37). -/

namespace Sys2Proof.Machine

/-! ## The parts of a taken stage -/

/-- The stage in the record, and its report (R124). -/
def State.stageRecorded (s : State) (r : Claim) (y : Stage) (revoke : Bool) : State :=
  (s.setRecord (some { r with stages := r.stages.put y (!revoke) })).report (.stageSeen r.oven r.serial y revoke)

@[simp] theorem State.atKind_queue (s : State) (f : Frame) : (s.atKind f).queue = s.queue := rfl

@[simp] theorem State.stageRecorded_keeps (s : State) (r : Claim) (y : Stage) (v : Bool) :
    (s.stageRecorded r y v).straps = s.straps ∧ (s.stageRecorded r y v).config = s.config ∧ (s.stageRecorded r y v).staged = s.staged ∧
      (s.stageRecorded r y v).life = s.life ∧ (s.stageRecorded r y v).time = s.time ∧ (s.stageRecorded r y v).line = s.line ∧
      (s.stageRecorded r y v).queue = s.queue ∧ (s.stageRecorded r y v).table = s.table ∧ (s.stageRecorded r y v).stop = s.stop ∧
      (s.stageRecorded r y v).bank = s.bank ∧ (s.stageRecorded r y v).plan = s.plan ∧ (s.stageRecorded r y v).machine = s.machine ∧
      (s.stageRecorded r y v).car = s.car ∧ (s.stageRecorded r y v).out = s.out ∧ (s.stageRecorded r y v).free = s.free ∧
      (s.stageRecorded r y v).pending = s.pending := by
  simp [State.stageRecorded]

/-- The machine unit after a stage: an owed revoke ends as GUIDE_SET clears and as RAM_HOME is set (R141). -/
def MachineUnit.staged (m : MachineUnit) (y : Stage) (revoke : Bool) : MachineUnit :=
  if (y = .guideSet ∧ revoke = true) ∨ (y = .ramHome ∧ revoke = false) then { m with revokeOwed := none, revokeTimer := none } else m

theorem State.guideStage_eq (s : State) (y : Stage) (revoke : Bool) : s.guideStage y revoke = s.withMachine (s.machine.staged y revoke) := by
  cases y <;> cases revoke <;> rfl

theorem State.carStage_other {s : State} (h : s.role ≠ .quench) (n : Nat) (y : Stage) (revoke : Bool) : s.carStage n y revoke = s := by
  unfold State.carStage
  split
  case h_4 => rfl
  all_goals exact absurd ‹s.role = .quench› h

/-- A stage taken, before a closure (R124). -/
def State.stageActs (s : State) (r : Claim) (y : Stage) (revoke : Bool) : State :=
  (((if revoke then s.stageRecorded r y revoke else (s.stageRecorded r y revoke).bankStage r.oven y).guideStage y revoke).carStage r.oven y
    revoke)

theorem State.applyStage_open {r : Claim} {y : Stage} {revoke : Bool}
    (h : r.stages.complete = true ∨ (r.stages.put y (!revoke)).complete = false) (s : State) :
    s.applyStage r y revoke = s.stageActs r y revoke := by
  have : (!r.stages.complete && (r.stages.put y (!revoke)).complete) = false := by
    rcases h with h | h <;> simp [h]
  unfold State.applyStage
  simp only [this]
  rfl

theorem State.applyStage_closes {r : Claim} {y : Stage} {revoke : Bool} (before : r.stages.complete = false)
    (after : (r.stages.put y (!revoke)).complete = true) (s : State) :
    s.applyStage r y revoke = (s.stageActs r y revoke).endClaim .closed := by
  unfold State.applyStage
  simp only [before, after]
  rfl

/-- A stage that no block of the bank follows. -/
theorem State.bankStage_none {s : State} {n : Nat} {y : Stage} (h : s.ovenIndex n = none ∨ y ∈ [.carLoaded, .ramHome, .guideSet, .carReady]) :
    s.bankStage n y = s := by
  unfold State.bankStage
  rcases h with h | h
  · rw [h]
  · split
    · rfl
    · cases y <;> simp at h <;> rfl

/-- A stage set at a station without a car. -/
theorem State.stageActs_set {s : State} (role : s.role ≠ .quench) (r : Claim) (y : Stage) :
    s.stageActs r y false = ((s.stageRecorded r y false).bankStage r.oven y).withMachine (s.machine.staged y false) := by
  have same : ((s.stageRecorded r y false).bankStage r.oven y).machine = s.machine := by simp [State.stageRecorded]
  rw [State.stageActs, if_neg (by decide), State.guideStage_eq, same]
  exact State.carStage_other (fun h => role (by simpa [State.role, State.stageRecorded] using h)) _ _ _

/-- A stage at a station whose bank and car do not follow it. -/
theorem State.stageActs_plain {s : State} {r : Claim} {y : Stage} {revoke : Bool} (role : s.role ≠ .quench)
    (h : s.ovenIndex r.oven = none ∨ revoke = true ∨ y ∈ [.carLoaded, .ramHome, .guideSet, .carReady]) :
    s.stageActs r y revoke = (s.stageRecorded r y revoke).withMachine (s.machine.staged y revoke) := by
  have still : (if revoke then s.stageRecorded r y revoke else (s.stageRecorded r y revoke).bankStage r.oven y) = s.stageRecorded r y revoke := by
    cases revoke with
    | true => rfl
    | false => exact State.bankStage_none (s := s.stageRecorded r y false) (h.imp_right fun h => h.resolve_left (by simp))
  rw [State.stageActs, still, State.guideStage_eq]
  exact State.carStage_other (s := (s.stageRecorded r y revoke).withMachine _) role _ _ _

/-- The blocks of a taken stage frame of the OPEN claim. -/
theorem State.kindTaken_stage {s : State} {f : Frame} {r : Claim} {y : Stage} {revoke : Bool} (h : s.openClaim = some r)
    (body : f.body = .pushStage r.oven r.serial y.code revoke) (census : List Byte) : s.kindTaken f census = s.applyStage r y revoke := by
  simp only [State.kindTaken, body, State.stageTaken, State.claimMatching_of h, Stage.ofCode_code]

/-! ## The producer of an own stage frame (R126, R141, R143) -/

/-- What the producer's own offers leave of a state. -/
def State.machineOffers (s : State) : RevokeOffers := ⟨s.machine, s.queue, s.port⟩

/-- What a guide offers behind its own taken stage frame. -/
def State.guideFollows (s : State) (r : Claim) (y : Stage) (revoke : Bool) : RevokeOffers :=
  if y = .guideSet ∧ revoke = false ∧ s.machine.revokeOwed = some r.serial then s.revokeOffers r s.machine
  else if y = .guideSet ∧ revoke = true ∧ s.machine.setWanted = some r.serial then
    if s.life.state = .onLine ∧ s.queue.length < 8 then
      ⟨{ s.machine with setWanted := none }, s.queue ++ [⟨.pushStage r.oven r.serial 8 false, false, s.time, 0, false⟩], s.port⟩
    else ⟨{ s.machine with setWanted := none }, s.queue, s.port.offerReport (.frameRefused (.pushStage r.oven r.serial 8 false))⟩
  else s.machineOffers

theorem State.offerWanted_eq (s : State) (n c : Nat) :
    (s.offerWanted n c).machineOffers = if s.machine.setWanted = some c then
      if s.life.state = .onLine ∧ s.queue.length < 8 then
        ⟨{ s.machine with setWanted := none }, s.queue ++ [⟨.pushStage n c 8 false, false, s.time, 0, false⟩], s.port⟩
      else ⟨{ s.machine with setWanted := none }, s.queue, s.port.offerReport (.frameRefused (.pushStage n c 8 false))⟩
    else s.machineOffers := by
  unfold State.offerWanted
  split
  · obtain ⟨room, full⟩ := s.clearWanted.offer_stands (.pushStage n c Stage.guideSet.code false) (.inl rfl)
    split
    · next h => rw [room h]; rfl
    · next h => rw [full h]; rfl
  · rfl

/-- The producer of an own stage frame at a station without a car. -/
theorem State.ownStageTaken_offers {s : State} {r : Claim} (h : s.openClaim = some r) (role : s.role ≠ .quench) (y : Stage) (revoke : Bool) :
    (s.ownStageTaken r.oven r.serial y.code revoke).machineOffers = s.guideFollows r y revoke ∧
      SameBut [.queue, .machine, .port] s (s.ownStageTaken r.oven r.serial y.code revoke) := by
  have plain : s.ownStageTaken r.oven r.serial y.code revoke = if y.code = Stage.guideSet.code then
      if revoke then s.offerWanted r.oven r.serial else if s.machine.revokeOwed = some r.serial then s.offerRevoke else s
    else s := by
    unfold State.ownStageTaken
    extract_lets s1
    have same : s1.role = s.role := by
      unfold s1
      repeat' split
      all_goals simp [State.role]
    rw [State.compareReady_other (by rwa [same]), ite_self]
  rw [plain]
  refine ⟨?_, ?_⟩
  · unfold State.guideFollows
    by_cases set_ : y = .guideSet
    · subst set_
      cases revoke with
      | true => simp [State.offerWanted_eq]
      | false =>
        by_cases owed : s.machine.revokeOwed = some r.serial
        · obtain ⟨machine, queue, port⟩ := s.offerRevoke_revokeOffers r h owed
          simp [owed, State.machineOffers, machine, queue, port]
        · simp [owed]
    · simp [Stage.code_inj, set_]
  · repeat' split
    all_goals exact (sameBut_iff _ _ _).2 (by simp)

/-- A stage frame, heard or own, is TAKEN: `v` is what the blocks make of the station, `u` what stands when the producer has been told. -/
theorem State.stage_ends {s v u : State} {w : Window} {f : Frame} {rest : List QueueEntry} {n c : Nat} {y : Stage} {revoke : Bool}
    (h : s.Ends w f rest) (vto : s.line.vto = false) (body : f.body = .pushStage n c y.code revoke)
    (kind : (s.atKind f).kindTaken f w.census = v) (flies : v.queue.find? QueueEntry.inFlight = s.queue.find? QueueEntry.inFlight)
    (end_ : w.own = false → rest = s.queue → v = u)
    (own : w.own = true → s.queue.filter (fun x => !x.inFlight) = rest → v.dropInFlight.ownStageTaken n c y.code revoke = u)
    {parts : List Part} (same : SameBut parts { s.atKind f with queue := rest } u) (line : .line ∉ parts) (life : .life ∉ parts) :
    ∃ t, exec (.settleOutcome false) s = .next t ∧ SameBut (.out :: parts) (s.windowEnded f rest) t ∧
      t.claims = u.claims ∧ t.queue = u.queue ∧ t.bank = u.bank ∧ t.plan = u.plan ∧ t.machine = u.machine ∧ t.car = u.car ∧
      t.port = u.port ∧ t.stop = u.stop :=
  State.ends_taken h vto (by simp [body]) (by simp [body]) kind flies end_
    (fun e mine eq landed => by rw [State.ownTaken, eq, body]; exact own mine landed) same line life

/-! ## Stages whose producer offers nothing -/

theorem State.ownStageTaken_silent {y : Stage} (guide : y ≠ .guideSet) (car : y ≠ .carReady) (s : State) (n c : Nat) (revoke : Bool) :
    s.ownStageTaken n c y.code revoke = s := by
  unfold State.ownStageTaken
  rw [if_neg (fun h => guide (Stage.code_inj.1 h))]
  exact if_neg fun h => car (Stage.code_inj.1 h)

/-- A stage frame whose producer offers nothing is TAKEN, and the send queue is `q` without its own entry. -/
theorem State.stage_silent {s v : State} {w : Window} {f : Frame} {rest q : List QueueEntry} {n c : Nat} {y : Stage} {revoke : Bool}
    (h : s.Ends w f rest) (vto : s.line.vto = false) (body : f.body = .pushStage n c y.code revoke)
    (kind : (s.atKind f).kindTaken f w.census = v) (flies : v.queue.find? QueueEntry.inFlight = s.queue.find? QueueEntry.inFlight)
    (guide : y ≠ .guideSet) (car : y ≠ .carReady) (heard : rest = s.queue → v.queue = q)
    (mine : s.queue.filter (fun x => !x.inFlight) = rest → v.queue.filter (fun x => !x.inFlight) = q) {parts : List Part}
    (same : SameBut parts { s.atKind f with queue := rest } (v.withQueue q)) (line : .line ∉ parts) (life : .life ∉ parts) :
    ∃ t, exec (.settleOutcome false) s = .next t ∧ SameBut (.out :: parts) (s.windowEnded f rest) t ∧
      t.claims = v.claims ∧ t.queue = q ∧ t.bank = v.bank ∧ t.plan = v.plan ∧ t.machine = v.machine ∧ t.car = v.car ∧
      t.port = v.port ∧ t.stop = v.stop :=
  State.stage_ends h vto body kind flies (fun _ eq => by rw [← heard eq]; rfl)
    (fun _ landed => by rw [State.ownStageTaken_silent guide car, State.dropInFlight, mine landed]) same line life

/-- An oven of the bank has a configuration behind it. -/
theorem State.bankConfig_of_index {s : State} {n i : Nat} (h : s.ovenIndex n = some i) : ∃ p0 p1, s.bankConfig = some (p0, p1) := by
  unfold State.ovenIndex at h
  split at h
  · exact ⟨_, _, ‹_›⟩
  · exact absurd h (by simp)

/-- The eighth permanent stage is no GUIDE_SET and no CAR_READY, and is set. -/
theorem StageSet.closing {t : StageSet} {y : Stage} {revoke : Bool} (before : t.complete = false) (after : (t.put y (!revoke)).complete = true) :
    revoke = false ∧ y ≠ .guideSet ∧ y ≠ .carReady := by
  refine ⟨?_, ?_, ?_⟩
  · cases revoke with
    | false => rfl
    | true => cases y <;> simp_all [StageSet.put, StageSet.complete]
  all_goals rintro rfl; simp_all [StageSet.put, StageSet.complete]

theorem StageSet.complete_carLoaded {t : StageSet} (h : t.complete = true) : t.carLoaded = true := by
  simp only [StageSet.complete, Bool.and_eq_true] at h
  simp [h]

/-- Every entry of the send queue is the frame's own or stays. -/
theorem State.Ends.queue_mem {s : State} {w : Window} {f : Frame} {rest : List QueueEntry} (h : s.Ends w f rest) {x : QueueEntry}
    (hx : x ∈ s.queue) : x ∈ rest ∨ x.body = f.body := by
  obtain ⟨-, rfl⟩ | ⟨k, e, own, body, -, -, rfl⟩ := h
  · exact .inl hx
  · rw [← own.dropped]
    obtain ⟨-, -, -, -, -, -, -, at_, flies, only⟩ := own
    by_cases flying : x.inFlight = true
    · obtain ⟨i, hi⟩ := List.getElem?_of_mem hx
      obtain rfl := only i x hi flying
      rw [hi] at at_
      exact .inr (by rw [Option.some.inj at_, body])
    · exact .inl (List.mem_filter.2 ⟨hx, by simpa using flying⟩)

theorem State.Ends.late {s : State} {w : Window} {f : Frame} {rest : List QueueEntry} (h : s.Ends w f rest) (p : Port) (c : Nat) (b : Bool) :
    p.lateFrames c b s.queue = p.lateFrames c b rest := by
  obtain ⟨-, rfl⟩ | ⟨k, e, own, body, -, -, rfl⟩ := h
  · rfl
  · rw [← own.dropped, Port.lateFrames_landed]

/-- With CAR_LOADED set and no CAR_READY frame in the queue the car offers nothing (R162). -/
theorem State.compareReady_done {s : State} {c : Claim} (h : s.openClaim = some c) (loaded : c.stages.carLoaded = true)
    (none : ∀ e ∈ s.queue, ∀ q b, e.body ≠ .pushStage q c.serial 9 b) : s.compareReady = s := by
  have queued : s.queued (Body.isStage c.serial .carReady) = false := by
    refine List.any_eq_false.2 fun e he found => ?_
    cases body : e.body <;> simp [Body.isStage, body] at found
    obtain ⟨rfl, rfl⟩ := found
    exact none e he _ _ body
  unfold State.compareReady
  rw [h]
  split
  · next eq => 
    obtain rfl := Option.some.inj eq
    simp [queued, loaded]
  · rfl

/-- The car of a QUENCH station follows other stages than RAM_OUT and CAR_LOADED set by comparing its wish alone (R162, R163). -/
theorem State.carStage_compares {s : State} {n : Nat} {y : Stage} {revoke : Bool} (role : s.role = .quench)
    (h : revoke = true ∨ (y ≠ .ramOut ∧ y ≠ .carLoaded)) : s.carStage n y revoke = s.compareReady := by
  unfold State.carStage
  rw [role]
  cases y <;> cases revoke <;> first | rfl | simp at h

/-- Two ovens' causes as flags: a port that reports a cause that changes to false. -/
theorem Port.ovenEntered_clear (p : Port) (n : Nat) (o o1 : Oven) (cool : o1.overcoked = false) (sound : o1.faulted = false) :
    p.ovenEntered n o o1 =
      (let p1 := if o.overcoked = true then p.offerReport (.attention (some n) none .overcoked false) else p
       let p2 := if o.faulted = true then p1.offerReport (.attention (some n) none .faulted false) else p1
       p2.offerReport (.ovenState n o.state o1.state o1.credit o1.readiness o1.stamp)) := by
  simp only [Port.ovenEntered, cool, sound]
  cases o.overcoked <;> cases o.faulted <;> rfl

section
variable {s : State} {w : Window} {f : Frame} {rest : List QueueEntry} {r : Claim} {y : Stage} {revoke : Bool}

/-- A stage that leaves the claim OPEN, and that no block of the bank follows. -/
theorem State.stageTaken_plain (ends : s.Ends w f rest) (vto : s.line.vto = false) (body : f.body = .pushStage r.oven r.serial y.code revoke)
    (record : s.claims.record = some r) (open_ : r.ending = .opened) (role : s.role ≠ .quench)
    (stays : r.stages.complete = true ∨ (r.stages.put y (!revoke)).complete = false)
    (plain : s.ovenIndex r.oven = none ∨ revoke = true ∨ y ∈ [.carLoaded, .ramHome, .guideSet, .carReady]) {m : MachineUnit}
    (hm : s.machine.staged y revoke = m) {seen : Port} (hseen : seen = (s.windowEnded f rest).port.offerReport (.stageSeen r.oven r.serial y revoke))
    {z : RevokeOffers}
    (hz : z = (if w.own = true ∧ y = .guideSet ∧ revoke = false ∧ m.revokeOwed = some r.serial then
        { s.windowEnded f rest with port := seen }.revokeOffers r m
      else if w.own = true ∧ y = .guideSet ∧ revoke = true ∧ m.setWanted = some r.serial then
        if s.life.state = .onLine ∧ rest.length < 8 then
          ⟨{ m with setWanted := none }, rest ++ [⟨.pushStage r.oven r.serial 8 false, false, s.time, 0, false⟩], seen⟩
        else ⟨{ m with setWanted := none }, rest, seen.offerReport (.frameRefused (.pushStage r.oven r.serial 8 false))⟩
      else ⟨m, rest, seen⟩)) :
    ∃ t, exec (.settleOutcome false) s = .next t ∧ SameBut [.queue, .claims, .machine, .out, .port] (s.windowEnded f rest) t ∧
      t.claims = { s.claims with record := some { r with stages := r.stages.put y (!revoke) } } ∧ t.machine = z.machine ∧
      t.queue = z.queue ∧ t.port = z.port := by
  have kind := (State.kindTaken_stage (State.openClaim_of (s := s.atKind f) record open_) body w.census).trans
    ((State.applyStage_open stays _).trans (State.stageActs_plain (s := s.atKind f) (y := y) role plain))
  set v := ((s.atKind f).stageRecorded r y revoke).withMachine ((s.atKind f).machine.staged y revoke) with hv
  have openLater : (v.withQueue rest).openClaim = some { r with stages := r.stages.put y (!revoke) } :=
    State.openClaim_of (s := v.withQueue rest) rfl open_
  obtain ⟨offers, kept⟩ := State.ownStageTaken_offers openLater role y revoke
  set u := if w.own = true then (v.withQueue rest).ownStageTaken r.oven r.serial y.code revoke else v.withQueue rest with hu
  have stands : u.machineOffers = z := by
    subst hm hseen
    rw [hz, hu]
    by_cases mine : w.own = true
    · rw [if_pos mine, offers]
      simp only [mine, true_and]
      rfl
    · rw [if_neg mine]
      simp only [mine]
      rfl
  have same : SameBut [.claims, .machine, .port, .queue, .machine, .port] { s.atKind f with queue := rest } u := by
    have recorded : SameBut [.claims, .machine, .port] { s.atKind f with queue := rest } (v.withQueue rest) := fun p hp => by
      cases p <;> first | exact absurd hp (by decide) | rfl
    rw [hu]
    split
    · exact SameBut.trans recorded kept
    · exact recorded.mono (by decide)
  have recorded : u.claims = { s.claims with record := some { r with stages := r.stages.put y (!revoke) } } := by
    rw [hu]
    split
    · exact kept .claims (by decide)
    · rfl
  obtain ⟨t, done, same, claims, queue, -, -, machine, -, port, -⟩ := State.stage_ends ends vto body kind (u := u) rfl
    (fun heard eq => by rw [hu, if_neg (by simp [heard]), eq]; rfl)
    (fun mine landed => by rw [hu, if_pos mine, ← landed]; rfl) same (by decide) (by decide)
  exact ⟨t, done, same.mono (by decide), claims.trans recorded, machine.trans (congrArg RevokeOffers.machine stands),
    queue.trans (congrArg RevokeOffers.queue stands), port.trans (congrArg RevokeOffers.port stands)⟩

/-- A stage that leaves the claim OPEN at its bank, and whose producer offers nothing: `v` is what the bank makes of the station. -/
theorem State.stageTaken_bank (ends : s.Ends w f rest) (vto : s.line.vto = false) (body : f.body = .pushStage r.oven r.serial y.code false)
    (record : s.claims.record = some r) (open_ : r.ending = .opened) (role : s.role ≠ .quench)
    (stays : r.stages.complete = true ∨ (r.stages.put y true).complete = false) (guide : y ≠ .guideSet) (car : y ≠ .carReady)
    (home : y ≠ .ramHome) {bank : Bank} {port : Port}
    (acts : ((s.atKind f).stageRecorded r y false).bankStage r.oven y =
      (((s.atKind f).stageRecorded r y false).withBank bank).withPort port) :
    ∃ t, exec (.settleOutcome false) s = .next t ∧ SameBut [.claims, .bank, .out, .port] (s.windowEnded f rest) t ∧
      t.claims = { s.claims with record := some { r with stages := r.stages.put y true } } ∧ t.bank = bank ∧ t.port = port := by
  have machine : (s.atKind f).machine.staged y false = (s.atKind f).machine := if_neg (by simp [guide, home])
  have kind : (s.atKind f).kindTaken f w.census =
      ((((s.atKind f).stageRecorded r y false).withBank bank).withPort port).withMachine (s.atKind f).machine := by
    rw [State.kindTaken_stage (revoke := false) (State.openClaim_of (s := s.atKind f) record open_) body, State.applyStage_open (revoke := false) stays,
      State.stageActs_set (s := s.atKind f) role, acts, machine]
  have queue : (((((s.atKind f).stageRecorded r y false).withBank bank).withPort port).withMachine (s.atKind f).machine).queue = s.queue := by simp
  obtain ⟨t, done, same, claims, -, units, -, -, -, port, -⟩ := State.stage_silent ends vto body kind (by rw [queue]) guide car (q := rest)
    (fun h => by rw [queue, h]) (fun h => by rw [queue, h]) (parts := [.claims, .bank, .port]) ((sameBut_iff _ _ _).2 (by simp)) (by decide) (by decide)
  exact ⟨t, done, same.mono (by decide), claims, units, port⟩

/-- The eighth permanent stage at a station whose bank does not hold the oven. -/
theorem State.stageCloses_elsewhere (ends : s.Ends w f rest) (vto : s.line.vto = false)
    (body : f.body = .pushStage r.oven r.serial y.code revoke) (record : s.claims.record = some r) (open_ : r.ending = .opened)
    (before : r.stages.complete = false) (after : (r.stages.put y (!revoke)).complete = true) (index : s.ovenIndex r.oven = none)
    (quench : s.role = .quench → y ≠ .ramOut ∧ y ≠ .carLoaded ∧ ∀ e ∈ rest, ∀ q b, e.body ≠ .pushStage q r.serial 9 b) :
    ∃ t, exec (.settleOutcome false) s = .next t ∧ SameBut [.queue, .claims, .plan, .machine, .out, .port] (s.windowEnded f rest) t ∧
      t.claims = { s.claims with record := some { r with stages := r.stages.put y (!revoke), ending := .closed }, retry := none } ∧
      t.queue = queueAfterClaim r.serial rest ∧ t.machine = { s.machine with revokeOwed := none, revokeTimer := none, setWanted := none } ∧
      t.port = (((s.windowEnded f rest).port.offerReport (.stageSeen r.oven r.serial y revoke)).offerReport
        (.claimClosed r.oven r.serial r.timer)).lateFrames r.serial false rest ∧ (s.plan = none → t.plan = none) := by
  obtain ⟨rfl, guide, car⟩ := StageSet.closing before after
  set v := ((s.atKind f).stageRecorded r y false).withMachine ((s.atKind f).machine.staged y false) with hv
  have openLater : v.openClaim = some { r with stages := r.stages.put y true } := State.openClaim_of (s := v) rfl open_
  have acts : (s.atKind f).stageActs r y false = v := by
    by_cases role : s.role = .quench
    · obtain ⟨ram, loaded, none⟩ := quench role
      have silent : ∀ e ∈ s.queue, ∀ q b, e.body ≠ .pushStage q r.serial 9 b := by
        intro e he q b eq
        rcases ends.queue_mem he with stays | own
        · exact none e stays q b eq
        · rw [body] at own
          exact car (Stage.code_inj.1 (Body.pushStage.inj (own.symm.trans eq)).2.2.1)
      rw [State.stageActs, if_neg (by decide), State.bankStage_none (s := (s.atKind f).stageRecorded r y false) (.inl index),
        State.guideStage_eq]
      exact (State.carStage_compares (s := v) role (.inr ⟨ram, loaded⟩)).trans
        (State.compareReady_done openLater (StageSet.complete_carLoaded after) silent)
    · exact State.stageActs_plain (s := s.atKind f) role (.inl index)
  obtain ⟨x, ended, none⟩ := State.endClaim_elsewhere openLater index .closed
  have kind : (s.atKind f).kindTaken f w.census =
      ((v.claimOver { r with stages := r.stages.put y true } .closed).withPlan x).withMachine v.machine.claimOver := by
    rw [State.kindTaken_stage (revoke := false) (State.openClaim_of (s := s.atKind f) record open_) body,
      State.applyStage_closes (revoke := false) before after, acts, ended]
    rfl
  obtain ⟨t, done, same, claims, queue, -, plan, machine, -, port, -⟩ := State.stage_silent ends vto body kind
    (queueAfterClaim_flying _ _) guide car (q := queueAfterClaim r.serial rest) (fun eq => by rw [eq]; rfl)
    (fun landed => by rw [← landed]; exact queueAfterClaim_landed _ _)
    (parts := [.queue, .claims, .plan, .machine, .port]) ((sameBut_iff _ _ _).2 (by simp [State.claimOver, v])) (by decide)
    (by decide)
  have settled : v.machine.claimOver = s.machine.claimOver := by
    show (s.machine.staged y false).claimOver = _
    unfold MachineUnit.staged
    split <;> rfl
  exact ⟨t, done, same.mono (by decide), claims, queue, machine.trans settled, port.trans (ends.late _ _ _), fun h => plan.trans (none h)⟩

/-- The doors of an oven, by side. -/
def doorPair (ps cs : Door) : Side → Door
  | .ps => ps
  | .cs => cs

/-- The oven of a claim that closes, by its state before the closing stage (R36, R125). -/
theorem Oven.closed {u v : State} {p0 : BankPart0} {i : Nat} {o : Oven} {y : Stage} {t : StageSet} :
    let o1 := ((ovenAfterClaim .closed t (o.followed u p0 i y).state).map fun new => v.ovenEntered p0 i new (o.followed u p0 i y)).getD
      (o.followed u p0 i y)
    (o.state = .claimed ∨ o.state = .pushing → ovenAfterClaim .closed t (o.followed u p0 i y).state = some .empty ∧
      o1.state = .empty ∧ o1.credit = 0 ∧ o1.stamp = 0 ∧ o1.readiness = .notReady) ∧
    (o.state ≠ .claimed → o.state ≠ .pushing → ovenAfterClaim .closed t (o.followed u p0 i y).state = none ∧ o1 = o) ∧
    (o1.state = .faulted ↔ o.state = .faulted) := by
  intro o1
  have emptied (x : Oven) (hx : x.state = .claimed ∨ x.state = .pushing) : ovenAfterClaim .closed t x.state = some .empty := by
    rcases hx with hx | hx <;> rw [hx] <;> rfl
  by_cases moves : o.state = .claimed ∨ o.state = .pushing
  · have follows : (o.followed u p0 i y).state = .claimed ∨ (o.followed u p0 i y).state = .pushing := by
      unfold Oven.followed
      split
      · exact .inr rfl
      · exact moves
    have end_ := emptied _ follows
    have entered : o1 = v.ovenEntered p0 i .empty (o.followed u p0 i y) := by
      unfold o1
      rw [end_]
      rfl
    refine ⟨fun _ => ⟨end_, by rw [entered]; exact ⟨rfl, rfl, rfl, rfl⟩⟩, fun h1 h2 => absurd moves (by simp [h1, h2]), ?_⟩
    have empty : o1.state = .empty := by rw [entered]; rfl
    rcases moves with h | h <;> simp [empty, h]
  · obtain ⟨claimed, pushing⟩ := not_or.1 moves
    have stands : o.followed u p0 i y = o := if_neg fun h => claimed h.2
    have end_ : ovenAfterClaim .closed t (o.followed u p0 i y).state = none := by
      rw [stands]
      cases h : o.state <;> first | rfl | exact absurd h ‹_›
    have same : o1 = o := by
      unfold o1
      rw [end_]
      exact stands
    exact ⟨fun h => absurd h moves, fun _ _ => ⟨end_, same⟩, by rw [same]⟩

/-- The loop of a claim that closes (R70, R71). -/
theorem Loop.closed (l : Loop) (y : Stage) :
    (l.followed y).claimOver (some .empty) = (if l.mode = .isolated then { l with owed := false }
      else if l.u.getD 0 ≤ 0 then { l with mode := .isolated, charge := none, target := none, owed := false }
      else if l.mode = .isolating then { l with owed := false }
      else { l with mode := .isolating, a := 0, zero := 0, charge := none, target := none, owed := false }) ∧
    (l.followed y).claimOver none = { l with owed := false } := by
  have same (w : Bool) : { ({ l with owed := w } : Loop).toIsolated with owed := false } =
      (if l.mode = .isolated then { l with owed := false }
        else if l.u.getD 0 ≤ 0 then { l with mode := .isolated, charge := none, target := none, owed := false }
        else if l.mode = .isolating then { l with owed := false }
        else { l with mode := .isolating, a := 0, zero := 0, charge := none, target := none, owed := false }) := by
    by_cases out : l.u.getD 0 ≤ 0
    · have dry : ¬0 < l.u.getD 0 := not_lt.2 out
      cases l.mode <;> simp [Loop.toIsolated, out, dry]
    · have flows : 0 < l.u.getD 0 := not_le.1 out
      cases l.mode <;> simp [Loop.toIsolated, Loop.enterIsolating, out, flows]
  unfold Loop.followed
  split
  · exact ⟨same false, rfl⟩
  · exact ⟨same l.owed, rfl⟩

/-- The eighth permanent stage at the claim's bank. -/
theorem State.stageCloses_bank (ends : s.Ends w f rest) (vto : s.line.vto = false)
    (body : f.body = .pushStage r.oven r.serial y.code revoke) (record : s.claims.record = some r) (open_ : r.ending = .opened)
    (before : r.stages.complete = false) (after : (r.stages.put y (!revoke)).complete = true) {i : Nat} {o : Oven} {l : Loop} {ps cs : Door}
    (role : s.role = .bank) (plan : s.plan = none) (index : s.ovenIndex r.oven = some i) (oven : s.bank.ovens[i]? = some o)
    (loop : s.bank.loops[i]? = some l) (hps : s.bank.doors[2 * i]? = some ps) (hcs : s.bank.doors[2 * i + 1]? = some cs) :
    ∃ t o1 l1, exec (.settleOutcome false) s = .next t ∧ SameBut [.queue, .claims, .bank, .machine, .out, .port] (s.windowEnded f rest) t ∧
      t.claims = { s.claims with record := some { r with stages := r.stages.put y (!revoke), ending := .closed }, retry := none } ∧
      t.queue = queueAfterClaim r.serial rest ∧
      t.machine = { s.machine with revokeOwed := none, revokeTimer := none, setWanted := none } ∧
      (∃ first behind : List Report, (first ++ behind).all Report.ofBank = true ∧
        t.port = behind.foldl Port.offerReport
          (((first.foldl Port.offerReport ((s.windowEnded f rest).port.offerReport (.stageSeen r.oven r.serial y revoke))).offerReport
            (.claimClosed r.oven r.serial r.timer)).lateFrames r.serial false rest)) ∧
      t.bank = s.bank.put i o1 l1 (fun k => (doorPair ps cs k).atClaimEnd (decide (y = k.doorOn)) (decide (y = k.doorOff))
        (decide (o.state ≠ .faulted))) ∧
      (o.state = .claimed ∨ o.state = .pushing →
        o1.state = .empty ∧ o1.credit = 0 ∧ o1.stamp = 0 ∧ o1.readiness = .notReady ∧
        l1 = (if l.mode = .isolated then { l with owed := false }
          else if l.u.getD 0 ≤ 0 then { l with mode := .isolated, charge := none, target := none, owed := false }
          else if l.mode = .isolating then { l with owed := false }
          else { l with mode := .isolating, a := 0, zero := 0, charge := none, target := none, owed := false })) ∧
      (o.state ≠ .claimed → o.state ≠ .pushing → o1 = o ∧ l1 = { l with owed := false }) := by
  obtain ⟨rfl, guide, car⟩ := StageSet.closing before after
  obtain ⟨p0, p1, bank⟩ := State.bankConfig_of_index index
  have holds : s.bank.Holds i := Bank.holds_of oven loop hcs
  set stages := r.stages.put y true with hstages
  set v0 := (s.atKind f).stageRecorded r y false with hv0
  have units0 : v0.bank = s.bank.put i o l (doorPair ps cs) := (Bank.put_self oven loop hps hcs).symm
  have open0 : v0.openClaim = some { r with stages := stages } := State.openClaim_of rfl open_
  have index0 : v0.ovenIndex r.oven = some i := index
  have may (j : Side) (hy : y = j.doorOn) : v0.seats (doorIndex i j) = true := by
    have set_ : stages.has j.doorOn = true := by
      rw [hstages, hy]
      cases j <;> rfl
    have number : v0.doorOven (doorIndex i j) = r.oven := (v0.doorOven_index i j).trans (State.ovenAt_index index0)
    have claim : v0.claimOn r.oven = some { r with stages := stages } := by
      rw [State.claimOn, open0]
      simp
    rw [State.seats, number, claim]
    simpa [doorSide_index] using set_
  set v1 := v0.bankStage r.oven y with hv1
  have units1 := State.bankStage_put units0 holds (p0 := p0) (p1 := p1) bank index0 y may
  rw [← hv1] at units1
  set v2 := v1.withMachine ((s.atKind f).machine.staged y false) with hv2
  have acts : (s.atKind f).stageActs r y false = v2 :=
    State.stageActs_set (s := s.atKind f) (by rw [show (s.atKind f).role = s.role from rfl, role]; decide) r y
  have open2 : v2.openClaim = some { r with stages := stages } := by
    rw [← open0]
    simp [State.openClaim, hv2, hv1]
  set v3 := v2.claimOver { r with stages := stages } .closed with hv3
  have config : v3.config = s.config := (show v3.config = v0.config from by simp [hv3, hv2, hv1, State.claimOver])
  set v4 := v3.bankClaimEnds r.oven stages .closed with hv4
  have units4 := State.bankClaimEnds_put (s := v3) (p0 := p0) (p1 := p1) (n := r.oven) units1 holds (by simp only [State.bankConfig, config]; exact bank)
    (by simp only [State.ovenIndex, State.bankConfig, config]; exact index) stages .closed rfl
  rw [← hv4] at units4
  have plan4 : v4.plan = none := by
    rw [← plan]
    exact (show v4.plan = v0.plan by simp [hv4, hv3, hv2, hv1, State.claimOver])
  have kind : (s.atKind f).kindTaken f w.census = v4.withMachine v4.machine.claimOver := by
    rw [State.kindTaken_stage (revoke := false) (State.openClaim_of (s := s.atKind f) record open_) body,
      State.applyStage_closes (revoke := false) before after, acts, State.endClaim_eq open2, ← hv3, ← hv4,
      State.planClaimEnds_none (s := v4) plan4]
    rfl
  have queue : (v4.withMachine v4.machine.claimOver).queue = queueAfterClaim r.serial s.queue :=
    (show v4.queue = queueAfterClaim r.serial v0.queue by simp [hv4, hv3, hv2, hv1, State.claimOver])
  obtain ⟨t, done, same, claims, tqueue, tbank, -, machine, -, port, -⟩ := State.stage_silent ends vto body kind
    (by rw [queue, queueAfterClaim_flying]) guide car (q := queueAfterClaim r.serial rest) (fun eq => by rw [queue, eq])
    (fun landed => by rw [queue, queueAfterClaim_landed, landed]) (parts := [.queue, .claims, .bank, .machine, .port])
    ((sameBut_iff _ _ _).2 (by simp [hv4, hv3, hv2, hv1, hv0, State.claimOver])) (by decide) (by decide)
  have claims4 : v4.claims = v3.claims := by simp [hv4]
  have machine4 : v4.machine = s.machine.staged y false := (show v4.machine = v2.machine by simp [hv4, hv3, State.claimOver])
  obtain ⟨first, ofBank1, told1⟩ := v0.bankStage_bankTold r.oven y
  obtain ⟨behind, ofBank2, told2⟩ := v3.bankClaimEnds_bankTold r.oven stages .closed
  obtain ⟨moves, stands, faulted⟩ := Oven.closed (u := v0) (v := v3) (p0 := p0) (i := i) (o := o) (y := y) (t := stages)
  obtain ⟨loopEmpty, loopStands⟩ := l.closed y
  refine ⟨t, _, _, done, same.mono (by decide), claims.trans (claims4.trans ?_), tqueue, machine.trans ?_, ⟨first, behind, ?_, ?_⟩,
    tbank.trans (units4.trans (congrArg _ (funext fun k => ?_))), fun h => ?_, fun h1 h2 => ?_⟩
  · show v1.claims.ended _ _ = _
    rw [show v1.claims = v0.claims by simp [hv1]]
    rfl
  · rw [machine4, MachineUnit.staged]
    split <;> rfl
  · rw [List.all_append, ofBank1, ofBank2]
    rfl
  · refine port.trans (told2.trans (congrArg (fun p => behind.foldl Port.offerReport p) ?_))
    rw [← ends.late]
    show ((v1.port.offerReport _).lateFrames _ _ v1.queue) = _
    rw [told1, show v1.queue = v0.queue by simp [hv1]]
    rfl
  · rw [Door.closing _ _ _ _ (by cases k <;> cases y <;> rfl)]
    congr 1
    simp only [ne_eq, decide_not, decide_eq_decide.2 faulted]
  · obtain ⟨end_, empty, credit, stamp, ready⟩ := moves h
    exact ⟨empty, credit, stamp, ready, by rw [end_]; exact loopEmpty⟩
  · obtain ⟨end_, still⟩ := stands h1 h2
    exact ⟨still, by rw [end_]; exact loopStands⟩

end

end Sys2Proof.Machine

open Sys2Proof Sys2Proof.Machine

/-- Settles O37: a stage of another claim, one that leaves the claim OPEN, and one that closes it, elsewhere and at the claim's bank. -/
theorem stageTaken : Obligations.StageTaken := by
  intro s s1 w f rest n c y revoke ends vto body ended
  subst ended
  refine ⟨fun hears other => ?_, fun r stages m seen record open_ oven serial hstages hm hseen => ?_⟩
  · have matching : (s.atKind f).claimMatching n c = none := State.claimMatching_none (s := s.atKind f) other
    have kind : ((s.atKind f).kindTaken f w.census).othersOutcome false f w.verdict false = s.atKind f := by
      simp only [State.kindTaken, body, State.stageTaken, matching, State.othersOutcome]
    obtain ⟨t, done, same, -⟩ := State.heard_ends hears vto (by simp [body]) kind (parts := []) (fun p _ => by cases p <;> rfl) (by simp)
      (by simp)
    obtain ⟨heard, rfl⟩ | ⟨k, e, own, -⟩ := ends
    · exact ⟨t, done, same⟩
    · obtain ⟨-, -, -, -, -, -, -, heard, -⟩ := hears
      obtain ⟨-, -, -, -, mine, -⟩ := own
      exact absurd (heard.symm.trans mine) (by decide)
  subst oven serial hstages
  refine ⟨fun role stays => ⟨fun z plain hz => State.stageTaken_plain ends vto body record open_ role stays plain hm.symm hseen hz,
    fun i index set_ => ⟨fun iso => ?_, fun o out at_ => ⟨fun claimed => ?_, fun other => ?_⟩⟩⟩,
    fun before after => ⟨fun index quench => ?_, fun i o l ps cs role plan index oven loop hps hcs => ?_⟩⟩
  · subst set_ iso hseen
    have acts : ((s.atKind f).stageRecorded r .isolated false).bankStage r.oven .isolated =
        (((s.atKind f).stageRecorded r .isolated false).withBank { s.bank with
          loops := s.bank.loops.modify i fun l => { l with owed := false } }).withPort
          ((s.windowEnded f rest).port.offerReport (.stageSeen r.oven r.serial .isolated false)) := by
      simp only [State.bankStage, show ((s.atKind f).stageRecorded r .isolated false).ovenIndex r.oven = some i from index]
      rfl
    obtain ⟨t, done, same, claims, bank, port⟩ := State.stageTaken_bank ends vto body record open_ role stays (by decide) (by decide) (by decide) acts
    exact ⟨t, done, same, claims, port, bank⟩
  · subst set_ out hseen
    obtain ⟨p0, p1, bank⟩ := State.bankConfig_of_index index
    have acts : ((s.atKind f).stageRecorded r .ramOut false).bankStage r.oven .ramOut =
        ((s.atKind f).stageRecorded r .ramOut false).enterOven i .pushing := by
      simp only [State.bankStage, show ((s.atKind f).stageRecorded r .ramOut false).ovenIndex r.oven = some i from index,
        show ((s.atKind f).stageRecorded r .ramOut false).oven? i = some o from at_, Option.any_some, claimed, decide_true, if_true]
    rw [State.enterOven_eq (s := (s.atKind f).stageRecorded r .ramOut false) bank at_ (State.ovenAt_index index)] at acts
    obtain ⟨t, done, same, claims, units, port⟩ := State.stageTaken_bank ends vto body record open_ role stays (by decide) (by decide) (by decide) acts
    refine ⟨t, done, same, claims, units, port.trans ?_⟩
    rw [Port.ovenEntered_clear _ _ _ _ rfl rfl, claimed]
    rfl
  · subst set_ out hseen
    have acts : ((s.atKind f).stageRecorded r .ramOut false).bankStage r.oven .ramOut = (s.atKind f).stageRecorded r .ramOut false := by
      simp only [State.bankStage, show ((s.atKind f).stageRecorded r .ramOut false).ovenIndex r.oven = some i from index,
        show ((s.atKind f).stageRecorded r .ramOut false).oven? i = some o from at_, Option.any_some, other]
      rfl
    obtain ⟨t, done, same, claims, units, port⟩ := State.stageTaken_bank ends vto body record open_ role stays (by decide) (by decide) (by decide)
      (bank := s.bank) (port := ((s.atKind f).stageRecorded r .ramOut false).port) acts
    refine ⟨t, done, fun p hp => ?_, claims, port⟩
    by_cases units' : p = .bank
    · subst units'
      exact units
    · exact same p (by simp_all)
  · subst hseen
    exact State.stageCloses_elsewhere ends vto body record open_ before after index quench
  · subst hseen
    exact State.stageCloses_bank ends vto body record open_ before after role plan index oven loop hps hcs

end

section
/-! PROOFS. The quench car and taken frames (O41): a counterexample. -/

namespace Sys2Proof.Machine

/-- A PUSHER's ANNOUNCE with next oven 5 whose sender has no entry in a table of 32 (the statement does not bound the sender). -/
def strayAnnounce : Frame :=
  { priority := 0, sender := 32, stopped := false, attention := false, leaving := false, joining := false,
    body := .announce (.pusher 5 0 0 0) ⟨0, 0, .clear⟩ }

/-- Its window, held no longer by anyone. -/
def strayWindow : Window :=
  { frame := some strayAnnounce, census := [], fault := false, malformed := false, kind := some 1, sender := some 32, own := false,
    verdict := .take, cast := false, holdDone := true, timedOut := false, timer := 0, driven := [], vetoRead := false }

/-- A QUENCH station ON_LINE at the end of that window. -/
def strayStation : State :=
  { State.afterReset ⟨1, .quench, 0, 0⟩ false with
    life := { Life.reset with state := .onLine }
    line := { Line.reset with state := .settle, window := some strayWindow } }

/-- The last next oven after a row that leads on. -/
def nextOvenAfter : Host.Outcome State Fault Refusal → Option Nat
  | .next t => some t.car.lastNext
  | _ => none

/-- No entry shows the sender as PUSHER, so the car does not follow it. -/
theorem strayAnnounce_unheeded : nextOvenAfter (exec (.settleOutcome false) strayStation) = some 0 := by
  decide

theorem strayStation_hears : strayStation.Hears strayWindow strayAnnounce := by
  refine ⟨rfl, rfl, rfl, rfl, rfl, rfl, rfl, rfl, rfl, by decide, nofun⟩

end Sys2Proof.Machine

open Sys2Proof Sys2Proof.Machine

/-- Refutes O41: a sender outside the station table is recorded as PUSHER by no entry, and the car does not take its next oven. The statement
asks nothing of the sender of a heard frame; of one that the table holds its clauses are not refuted here. -/
theorem not_quenchFollowsFrames : ¬Obligations.QuenchFollowsFrames := by
  intro claim
  obtain ⟨heard, -⟩ := claim strayStation strayWindow strayAnnounce _ _ rfl rfl rfl rfl rfl rfl
  obtain ⟨announced, -⟩ := heard strayStation_hears
  obtain ⟨t, done, -, car⟩ := announced 5 0 0 0 _ rfl (by decide) rfl
  have next := strayAnnounce_unheeded
  rw [done] at next
  have five : t.car.lastNext = 5 := by rw [car]
  exact absurd (five.symm.trans (Option.some.inj next)) (by decide)

end

section
/-! PROOFS. A heard frame of any kind, and a heard ANNOUNCE (R24, R30, R31, R33). -/

namespace Sys2Proof.Machine

/-! ## The end of the window -/

/-- A heard frame is TAKEN: table, blocks and outcome, and then the counters (R9, R13). -/
theorem State.heard_next {s u : State} {w : Window} {f : Frame} (h : s.Hears w f) (vto : s.line.vto = false)
    (hu : ((s.changeLine Line.closed).frameTaken f w.census).othersOutcome false f w.verdict false = u) :
    exec (.settleOutcome false) s = .next (u.counters false).derive := by
  obtain ⟨-, settle, window, hold, frame, fault, malformed, own, sender, other, -⟩ := h
  have hand : (s.changeLine Line.closed).handOn w false = u := by
    rw [← hu]
    simp [State.handOn, frame, Window.clean, fault, malformed, own]
  have straps : u.straps = s.straps := by
    rw [← hu]
    simp [State.changeLine]
  have clash : (u.counters false).clashCheck w = u.counters false := by simp [State.clashCheck, sender, straps, other]
  show execSettleOutcome false s = _
  simp [execSettleOutcome, State.event, State.settling, settle, window, hold, vto, onlyIf, State.conclude, hand, own, fault, clash]

/-- The counters of a clean window where the blocks leave the line and the station state alone (R13). -/
theorem State.counters_settled {s u : State} {w : Window} {f : Frame} (h : s.Hears w f) (line : u.line = s.line.closed)
    (state : u.life.state = s.life.state) : u.counters false = u.withLine s.lineAfterClean := by
  obtain ⟨receives, -, -, -, -, -, -, -, -, -, clean⟩ := h
  have drives : ({ s with life := u.life } : State).drives = s.drives := by simp only [State.drives, state]
  have same : ({ s with life := u.life } : State).lineAfterClean = s.lineAfterClean := by simp only [State.lineAfterClean, drives]
  rw [← same]
  exact State.counters_clean { s with life := u.life } u (by simpa only [State.receives, state] using receives)
    (fun h => clean (state.symm.trans h)) line rfl

/-- A station in CONFLICT counts nothing (R13). -/
theorem State.counters_conflict {u : State} (h : u.life.state = .conflict) : u.counters false = u := by
  have still : u.changeLine (Line.count .conflict false) = u := rfl
  simp [State.counters, still, State.drives, h]

/-! ## The station table -/

/-- The station as its table and line stand when the announce has filled or cleared the sender's entry (R24, R30). -/
def State.announcing (s : State) (table : List Entry) (port : Port) : State :=
  { s with line := s.line.closed, table := table, port := port }

theorem State.entryAnnounced_leaving {s : State} {f : Frame} (h : f.leaving = true) (p : Payload) (tr : Trailer) :
    (s.changeLine Line.closed).entryAnnounced f p tr =
      s.announcing (s.table.modify f.sender fun _ => .reset) (s.port.offerReport (.stationChange f.sender .absent none)) := by
  rw [State.entryAnnounced, if_pos h]
  rfl

theorem State.entryAnnounced_filled {s : State} {f : Frame} (h : f.leaving = false) (p : Payload) (tr : Trailer) :
    (s.changeLine Line.closed).entryAnnounced f p tr =
      s.announcing (s.table.modify f.sender fun e => { e with
        role := some p.role
        range := match p with | .bank first sums => some (first, sums.length) | _ => none
        payload := some (p, tr), age := 0, joining := f.joining })
      (if (s.entry f.sender).role = some p.role then s.port
        else s.port.offerReport (.stationChange f.sender (s.entry f.sender).presence (some p.role))) := by
  have filled : (Entry.announced p tr f.joining) = fun e => { e with
        role := some p.role
        range := match p with | .bank first sums => some (first, sums.length) | _ => none
        payload := some (p, tr), age := 0, joining := f.joining } := by
    funext e
    cases p <;> rfl
  rw [State.entryAnnounced, if_neg (by simp [h]), ← filled]
  simp only [State.reportIf_eq, decide_eq_true_eq, ne_eq, ite_not]
  rfl

theorem State.adoptStopped_none {s : State} {f : Frame} (h : s.life.state = .joining → f.joining = true ∨ f.stopped = false) :
    s.adoptStopped f = s := by
  unfold State.adoptStopped
  refine if_neg fun adopts => ?_
  simp only [Bool.and_eq_true, Bool.not_eq_true', State.joining, decide_eq_true_eq] at adopts
  obtain ⟨⟨⟨joining, fresh⟩, stopped⟩, -⟩ := adopts
  rcases h joining with h | h
  · exact absurd (h.symm.trans fresh) (by decide)
  · exact absurd (h.symm.trans stopped) (by decide)

/-- A heard ANNOUNCE: `v` is the station with the sender's entry, `u` what follows of it. -/
theorem State.heard_announce {s v u : State} {w : Window} {f : Frame} {p : Payload} {tr : Trailer} (h : s.Hears w f) (vto : s.line.vto = false)
    (body : f.body = .announce p tr) (entry : (s.changeLine Line.closed).entryAnnounced f p tr = v)
    (hu : (v.adoptStopped f).announceTaken f p tr = u) :
    exec (.settleOutcome false) s = .next (u.counters false).derive := by
  refine State.heard_next h vto ?_
  rw [State.frameTaken, State.entryTaken, body]
  dsimp only
  rw [entry, State.kindTaken, body]
  dsimp only
  rw [hu]
  unfold State.othersOutcome
  rw [body]

/-! ## What follows a filled entry -/

theorem State.duplicateCheck_quiet {s : State} {f : Frame} {p : Payload}
    (h : f.leaving = true ∨ s.drives = false ∨ s.duplicate p = none) : s.duplicateCheck f p = s := by
  unfold State.duplicateCheck
  split
  · rfl
  · next busy =>
    have none : s.duplicate p = none := by
      simp only [Bool.or_eq_true, not_or, Bool.not_eq_true, Bool.not_eq_false'] at busy
      obtain ⟨⟨leaving, -⟩, drives⟩ := busy
      rcases h with h | h | h
      · exact absurd (h.symm.trans leaving) (by decide)
      · simp [h] at drives
      · exact h
    rw [none]

theorem State.adoptClaim_none {s : State} {f : Frame} (h : s.life.state = .joining → f.joining = true) (tr : Trailer) : s.adoptClaim f tr = s := by
  unfold State.adoptClaim
  refine if_neg fun adopts => ?_
  simp only [Bool.and_eq_true, Bool.not_eq_true', State.joining, decide_eq_true_eq] at adopts
  exact absurd ((h adopts.1).symm.trans adopts.2) (by decide)

theorem State.followPusher_other {s : State} {p : Payload} (h : s.role = .quench → p.role ≠ .pusher) (f : Frame) : s.followPusher f p = s := by
  unfold State.followPusher
  split
  · exact absurd rfl (h ‹_›)
  · rfl

/-- A duplicate of role or range, in the words of the statements (R31). -/
theorem State.duplicate_iff (s : State) (p : Payload) (c : Cause) : s.duplicate p = some c ↔
    (c = .roleDuplicate ∧ s.role ≠ .bank ∧ p.role = s.role) ∨
    (c = .rangeOverlap ∧ s.role = .bank ∧ ∃ first sums n lim m b q, p = .bank first sums ∧ s.config = some ⟨n, lim, m, .bank b q⟩ ∧
      first < b.first + b.count ∧ b.first < first + sums.length) := by
  unfold State.duplicate
  split
  · next first sums role =>
    simp only [role, ne_eq, not_true, false_and, and_false, false_or, true_and]
    split
    · next b q config =>
      unfold State.bankConfig at config
      split at config
      · next held =>
        obtain ⟨rfl, rfl⟩ := Prod.mk.inj (Option.some.inj config)
        constructor
        · intro found
          split at found
          · next overlap => exact ⟨(Option.some.inj found).symm, _, _, _, _, _, _, _, rfl, held, overlap⟩
          · exact absurd found (by simp)
        · rintro ⟨rfl, _, _, _, _, _, _, _, same, held', overlap⟩
          obtain ⟨rfl, rfl⟩ := Payload.bank.inj same
          obtain ⟨-, -, -, role⟩ := Configuration.mk.inj (Option.some.inj (held.symm.trans held'))
          obtain ⟨rfl, rfl⟩ := RoleConfig.bank.inj role
          rw [if_pos overlap]
      · exact absurd config (by simp)
    · next config =>
      refine ⟨fun h => absurd h (by simp), ?_⟩
      rintro ⟨-, _, _, _, _, _, _, _, -, held, -⟩
      simp [State.bankConfig, held] at config
  · next role other =>
    refine ⟨fun h => absurd h (by simp), ?_⟩
    rintro (⟨-, h, -⟩ | ⟨-, -, first, sums, _, _, _, _, _, same, -⟩)
    · exact absurd role h
    · exact absurd same (other first sums)
  · next r q bank other =>
    have notBank : s.role ≠ .bank := bank
    split
    · next same =>
      constructor
      · intro found
        exact .inl ⟨(Option.some.inj found).symm, notBank, same⟩
      · rintro (⟨rfl, -⟩ | ⟨-, h, -⟩)
        · rfl
        · exact absurd h notBank
    · next differs =>
      refine ⟨fun h => absurd h (by simp), ?_⟩
      rintro (⟨-, -, same⟩ | ⟨-, h, -⟩)
      · exact absurd same differs
      · exact absurd h notBank

end Sys2Proof.Machine
end

section
/-! PROOFS. A heard ANNOUNCE (O30). -/

namespace Sys2Proof.Machine

/-! ## Entry to CONFLICT (R17, R23) -/

/-- The end of a claim queues nothing. -/
theorem State.endClaim_empty {s : State} (h : s.queue = []) (how : ClaimEnd) : (s.endClaim how).queue = [] := by
  cases open_ : s.openClaim with
  | none => rw [State.endClaim, open_]; exact h
  | some c =>
    rw [State.endClaim_eq open_]
    simp [State.claimOver, h, queueAfterClaim]

theorem State.emptyReseals_claims (s : State) :
    s.emptyReseals.claims.reseals = List.replicate 4 none ∧ s.emptyReseals.claims.highestReseal = 0 := ⟨rfl, rfl⟩

/-- What leaving the line makes of the blocks (R17, R22, R23). -/
theorem State.leaveBlocks_off (s : State) :
    s.leaveBlocks.queue = [] ∧ s.leaveBlocks.line = s.line.off ∧ s.leaveBlocks.claims.record = none ∧ s.leaveBlocks.claims.highest = 0 ∧
      s.leaveBlocks.claims.reseals = List.replicate 4 none ∧ s.leaveBlocks.claims.highestReseal = 0 ∧
      s.leaveBlocks.stop = s.stop.cleared := by
  have queue : (((s.withQueue []).changeLine Line.off).dropClaim).queue = [] := State.endClaim_empty rfl _
  obtain ⟨reseals, highestReseal⟩ := State.emptyReseals_claims (((s.withQueue []).changeLine Line.off).dropClaim)
  refine ⟨?_, ?_, ?_, ?_, ?_, ?_, ?_⟩
  · simpa [State.leaveBlocks, State.emptyClaims] using queue
  · simp [State.leaveBlocks, State.changeLine]
  · simp [State.leaveBlocks, State.emptyClaims]
  · simp [State.leaveBlocks, State.emptyClaims]
  · simpa [State.leaveBlocks, State.emptyClaims] using reseals
  · simpa [State.leaveBlocks, State.emptyClaims] using highestReseal
  · simp [State.leaveBlocks, State.changeStop, State.changeLine]

/-- A station that enters CONFLICT is off the line (R17, R23). -/
theorem State.enterConflict_off (s : State) (c : Cause) :
    (s.enterConflict c).life.state = .conflict ∧ (s.enterConflict c).life.conflict = some c ∧ (s.enterConflict c).OffTheLine := by
  set s1 := s.changeLife fun l => { l with state := .conflict, conflict := some c, joinCount := 0, adopted := false, census := none, announce := none }
    with hs1
  obtain ⟨queue, line, record, highest, reseals, highestReseal, stop⟩ := (s1.report (.lineState (.conflict c))).leaveBlocks_off
  have entered : s.enterConflict c = (s1.report (.lineState (.conflict c))).leaveBlocks.abandonWithdrawn := rfl
  have life : (s.enterConflict c).life = s1.life := by rw [entered]; simp
  refine ⟨by rw [life]; rfl, by rw [life]; rfl, ?_⟩
  have blocks : (s.enterConflict c).queue = [] ∧ (s.enterConflict c).line = s.line.off ∧
      (s.enterConflict c).claims = (s1.report (.lineState (.conflict c))).leaveBlocks.claims ∧ (s.enterConflict c).stop = s.stop.cleared := by
    rw [entered]
    exact ⟨by simpa using queue, by simpa [s1, State.changeLife] using line, by simp, by simpa [s1, State.changeLife] using stop⟩
  obtain ⟨queue, line, claims, stop⟩ := blocks
  unfold State.OffTheLine
  rw [queue, line, claims, stop, life, record, highest, reseals, highestReseal]
  exact ⟨rfl, rfl, rfl, rfl, rfl, rfl, rfl, rfl, rfl, rfl, rfl, rfl, rfl, rfl, rfl, rfl, rfl⟩

/-! ## An announce that nothing but its entry and its duplicate follow -/

theorem State.announceTaken_eq (s : State) (f : Frame) (p : Payload) (tr : Trailer) : s.announceTaken f p tr =
    if (s.duplicateCheck f p).receives then ((s.duplicateCheck f p).adoptClaim f tr).followPusher f p else s.duplicateCheck f p := rfl

theorem State.announceTaken_quiet {s t : State} {f : Frame} {p : Payload} (dup : s.duplicateCheck f p = t)
    (fresh : t.life.state = .joining → f.joining = true) (follow : t.followPusher f p = t) (tr : Trailer) : s.announceTaken f p tr = t := by
  rw [State.announceTaken_eq, dup, State.adoptClaim_none fresh, follow, ite_self]

/-- The station after a heard announce that leaves line and station state to the window. -/
theorem State.heard_announce_settled {s v u : State} {w : Window} {f : Frame} {p : Payload} {tr : Trailer} (h : s.Hears w f)
    (vto : s.line.vto = false) (body : f.body = .announce p tr) (stops : s.life.state = .joining → f.joining = true ∨ f.stopped = false)
    (entry : (s.changeLine Line.closed).entryAnnounced f p tr = v) (life : v.life = s.life) (hu : v.announceTaken f p tr = u)
    (line : u.line = s.line.closed) (state : u.life.state = s.life.state) :
    exec (.settleOutcome false) s = .next (u.withLine s.lineAfterClean).derive := by
  have still : v.adoptStopped f = v := State.adoptStopped_none (by rwa [life])
  rw [State.heard_announce h vto body entry (u := u) (by rw [still, hu]), State.counters_settled h line state]

/-- The check reports a duplicate, or the station enters CONFLICT (R31). -/
theorem State.duplicateCheck_found {s : State} {f : Frame} {p : Payload} {c : Cause} (leaving : f.leaving = false)
    (other : f.sender ≠ s.straps.id) (drives : s.drives = true) (found : s.duplicate p = some c) :
    s.duplicateCheck f p = if f.sender < s.straps.id then s.enterConflict c else s.report (.duplicateSeen f.sender c) := by
  unfold State.duplicateCheck
  rw [if_neg (by simp [leaving, other, drives]), found]

/-! ## Adoption reaches the port by reports -/

theorem State.offer_told (s : State) (b : Body) (leaving : Bool) : s.Told (s.offer b leaving) := by
  unfold State.offer
  split
  · exact told_of_port rfl
  · exact reportIf_told _ _ _

theorem State.compareReady_told (s : State) : s.Told s.compareReady := by
  unfold State.compareReady
  split
  · dsimp only
    repeat' split
    · exact told_of_port rfl
    · exact offer_told _ _ _
    · exact (offer_told _ _ _).same rfl
    · exact told_of_port rfl
    · exact told_of_port rfl
  · exact told_of_port rfl

theorem State.giveUpReseal_told (s : State) (n : Nat) (j : Side) : s.Told (s.giveUpReseal n j) := by
  unfold State.giveUpReseal
  split
  · next d r _ _ =>
    have given : s.Told (s.setReseals (s.claims.reseals.map (Option.map (Reseal.giveUpIf r)))) := told_of_port rfl
    exact ((given.trans (changeDoor_told _ _ _)).trans (report_told _ _)).trans (offer_told _ _ _)
  · exact changeDoor_told _ _ _
  · exact told_of_port rfl

theorem State.bankClaimAdopted_told (s : State) (n : Nat) (t : StageSet) : s.Told (s.bankClaimAdopted n t) := by
  unfold State.bankClaimAdopted
  split
  · exact told_of_port rfl
  · refine ((State.Told.trans ?_ (giveUpReseal_told _ _ _)).trans (giveUpReseal_told _ _ _)).trans
      ((seatDoor_told _ _).trans (seatDoor_told _ _))
    have loop {u v : State} (h : u.Told v) (b : Bool) (i : Nat) (f : Loop → Loop) : u.Told (if b then v.setLoop i f else v) := by
      split
      · exact h.same rfl
      · exact h
    refine loop ?_ _ _ _
    repeat' split
    all_goals first | exact (enterOven_told _ _ _).same rfl | exact reportOvenUnchanged_told _ _

theorem State.adoptTrailer_told (s : State) (t : Trailer) : s.Told (s.adoptTrailer t) := by
  unfold State.adoptTrailer
  extract_lets same s1
  have dropped : s.Told s1 := by
    unfold s1
    split
    · exact told_of_port rfl
    · exact endClaim_told _ _
  split
  · exact dropped.same rfl
  · rename_i src s2 s3 s4 _
    have adopted : s.Told s3 := ((dropped.same (u := s2) rfl).trans (bankClaimAdopted_told _ _ _)).same rfl
    have cleared : s.Told s4 := by
      unfold s4
      split
      · exact adopted
      · exact adopted.same rfl
    exact cleared.trans (compareReady_told _)

/-- A joining station hears a station that is not joining, and adopts of its trailer what it does (R33). -/
theorem State.adoptClaim_joins {s : State} {f : Frame} (joining : s.life.state = .joining) (fresh : f.joining = false) (tr : Trailer) :
    SameBut [.life, .queue, .claims, .bank, .plan, .machine, .car, .port] s (s.adoptClaim f tr) ∧
      (s.adoptClaim f tr).life = { s.life with adopted := true } ∧ s.Told (s.adoptClaim f tr) := by
  have trailer : SameBut [.queue, .claims, .bank, .plan, .machine, .car, .port] s (s.adoptTrailer tr) := (sameBut_iff _ _ _).2 (by simp)
  unfold State.adoptClaim
  rw [if_pos (by simp [State.joining, joining, fresh])]
  cases adopted : s.life.adopted with
  | false =>
    exact ⟨(SameBut.trans trailer ((sameBut_iff [.life] _ _).2 (by simp [State.changeLife]))).mono (by decide),
      by simp [State.changeLife], (s.adoptTrailer_told tr).same rfl⟩
  | true =>
    have same : s.life = { s.life with adopted := true } := by rw [← adopted]
    rw [if_neg (by simp)]
    split
    · exact ⟨fun p _ => by cases p <;> rfl, same, State.told_of_port rfl⟩
    · exact ⟨trailer.mono (by decide), (trailer .life (by decide)).trans same, s.adoptTrailer_told tr⟩

/-- The claims record as a trailer fills it, the PUSHER's id given (R33). -/
def Tracker.adopting (k : Tracker) (tr : Trailer) (pusher : Option Nat) (now : Nat) : Tracker :=
  { k with
    record := if tr.oven = 0 then none else some ⟨tr.oven, tr.serial, pusher, false, tr.stages, now, 0, .opened⟩
    highest := tr.serial, retry := none }

/-- A trailer adopted where it drops no claim, at a station without bank, plan and car (R33). -/
theorem State.adoptTrailer_undropped {s : State} {tr : Trailer}
    (stands : (if (s.openClaim.any fun c => decide (c.oven = tr.oven ∧ c.serial = tr.serial)) then s else s.dropClaim) = s)
    (bank : s.bankConfig = none) (plan : s.plan = none) (role : s.role ≠ .quench) :
    ∃ m, s.adoptTrailer tr = (s.withClaims (s.claims.adopting tr (s.stationOf .pusher) s.time)).withMachine m := by
  unfold State.adoptTrailer Tracker.adopting
  simp only [stands]
  split
  · exact ⟨s.machine, rfl⟩
  · set t := s.withClaims { s.claims with
      record := some ⟨tr.oven, tr.serial, s.stationOf .pusher, false, tr.stages, s.time, 0, .opened⟩, highest := tr.serial, retry := none } with ht
    have adopted : (t.bankClaimAdopted tr.oven tr.stages).changePlan (Plan.noteClaim tr.oven) = t := by
      rw [State.bankClaimAdopted, State.ovenIndex_none (s := t) bank]
      exact State.changePlan_none (s := t) plan _
    rw [adopted]
    split
    · exact ⟨t.machine, State.compareReady_other (s := t) role⟩
    · exact ⟨t.clearRevoke.machine, State.compareReady_other (s := t.clearRevoke) role⟩

theorem State.adoptTrailer_free {s : State} (free : s.openClaim = none) (bank : s.bankConfig = none) (plan : s.plan = none)
    (role : s.role ≠ .quench) (tr : Trailer) :
    ∃ m, s.adoptTrailer tr = (s.withClaims (s.claims.adopting tr (s.stationOf .pusher) s.time)).withMachine m := by
  refine State.adoptTrailer_undropped ?_ bank plan role
  rw [free]
  exact State.dropClaim_none free

end Sys2Proof.Machine

open Sys2Proof Sys2Proof.Machine

/-- Settles O30: the entry filled or cleared, a duplicate by the lower and by the higher id, and adoption. -/
theorem takenAnnounceFillsEntry : Obligations.TakenAnnounceFillsEntry := by
  intro s w f p tr table changed duplicate hears vto body htable hchanged hduplicate
  have found (v : State) (straps : v.straps = s.straps) (config : v.config = s.config) (c : Cause) :
      v.duplicate p = some c ↔ duplicate c := by
    rw [State.duplicate_iff, hduplicate]
    simp only [State.role, straps, config]
  have entered (leaving : f.leaving = false) : (s.changeLine Line.closed).entryAnnounced f p tr = s.announcing table changed := by
    rw [htable, hchanged]
    exact State.entryAnnounced_filled leaving p tr
  have other : f.sender ≠ s.straps.id := by
    obtain ⟨-, -, -, -, -, -, -, -, -, other, -⟩ := hears
    exact other
  have seen {c : Cause} (leaving : f.leaving = false) (drives : s.drives = true) (dup : duplicate c) (higher : s.straps.id < f.sender) :
      (s.announcing table changed).duplicateCheck f p = (s.announcing table changed).report (.duplicateSeen f.sender c) :=
    (State.duplicateCheck_found (s := s.announcing table changed) leaving other drives
      ((found (s.announcing table changed) rfl rfl c).2 dup)).trans (if_neg (Nat.lt_asymm higher))
  have notPusher (c : Cause) (dup : duplicate c) (quench : s.role = .quench) : p.role ≠ .pusher := by
    rcases (hduplicate c).1 dup with ⟨-, -, same⟩ | ⟨-, bank, -⟩
    · rw [same, quench]
      decide
    · exact absurd (bank.symm.trans quench) (by decide)
  refine ⟨fun sound leaving fresh quench quiet => ?_, fun sound leaving fresh => ?_, fun c leaving drives dup => ⟨fun lower => ?_, fun higher =>
    ⟨fun sound fresh => ?_, fun joining fresh stopped => ?_⟩⟩, fun leaving fresh stopped joining adopted role bank plan lower free => ?_⟩
  · have dup : (s.announcing table changed).duplicateCheck f p = s.announcing table changed := by
      refine State.duplicateCheck_quiet (.inr (quiet.imp (fun h => ?_) fun none => ?_))
      · show (match s.life.state with | .joining | .onLine => true | .offLine | .listenOnly | .conflict => false) = false
        rw [h]
      · refine Option.eq_none_iff_forall_ne_some.2 fun c h => none c ?_
        exact (found (s.announcing table changed) rfl rfl c).1 h
    have still := State.announceTaken_quiet dup fresh (State.followPusher_other (s := s.announcing table changed) quench f) tr
    rw [State.heard_announce_settled hears vto body (fun h => .inl (fresh h)) (entered leaving) rfl still rfl rfl]
    exact congrArg _ (State.derive_eq sound rfl rfl)
  · set v := s.announcing (s.table.modify f.sender fun _ => .reset) (s.port.offerReport (.stationChange f.sender .absent none)) with hv
    have gone : v.followPusher f p = v := by
      have entry : v.hasRole f.sender .pusher = false := by
        have reset : v.entry f.sender = .reset := by
          show ((s.table.modify f.sender fun _ => Entry.reset)[f.sender]?).getD .reset = .reset
          rw [List.getElem?_modify_eq]
          cases s.table[f.sender]? <;> rfl
        rw [State.hasRole, reset]
        decide
      unfold State.followPusher
      split
      · rw [if_neg (by simp [entry])]
      · rfl
    have still := State.announceTaken_quiet (State.duplicateCheck_quiet (s := v) (.inl leaving)) fresh gone tr
    rw [State.heard_announce_settled hears vto body (fun h => .inl (fresh h)) (State.entryAnnounced_leaving leaving p tr) rfl still rfl rfl]
    exact congrArg _ (State.derive_eq sound rfl rfl)
  · set v := (s.announcing table changed).adoptStopped f with hv
    have straps : v.straps = s.straps := by rw [hv]; simp [State.announcing]
    have config : v.config = s.config := by rw [hv]; simp [State.announcing]
    have life : v.life = s.life := by rw [hv]; simp [State.announcing]
    have check := State.duplicateCheck_found (s := v) leaving (by rwa [straps]) (by rwa [State.drives, life]) ((found v straps config c).2 dup)
    rw [if_pos (by rwa [straps])] at check
    obtain ⟨conflict, cause, off⟩ := v.enterConflict_off c
    have ends : v.announceTaken f p tr = v.enterConflict c := by
      rw [State.announceTaken_eq, check]
      exact if_neg (by simp [State.receives, conflict])
    have next := State.heard_announce hears vto body (entered leaving) ends
    rw [State.counters_conflict conflict] at next
    refine ⟨_, next, by simpa using conflict, by simpa using cause, ?_, ?_, (sameBut_iff _ _ _).2 (by simp [hv, State.announcing])⟩
    · simpa [State.OffTheLine] using off
    · simp [hv, State.announcing]
  · set v := (s.announcing table changed).report (.duplicateSeen f.sender c) with hv
    have check : (s.announcing table changed).duplicateCheck f p = v := seen leaving drives dup higher
    have still := State.announceTaken_quiet check fresh (State.followPusher_other (s := v) (notPusher c dup) f) tr
    rw [State.heard_announce_settled hears vto body (fun h => .inl (fresh h)) (entered leaving) rfl still rfl rfl]
    exact congrArg _ (State.derive_eq sound rfl rfl)
  · set v := (s.announcing table changed).report (.duplicateSeen f.sender c) with hv
    have check : (s.announcing table changed).duplicateCheck f p = v := seen leaving drives dup higher
    obtain ⟨kept, life, reports, port⟩ := State.adoptClaim_joins (s := v) joining fresh tr
    have ends : (s.announcing table changed).announceTaken f p tr = v.adoptClaim f tr := by
      have receives : v.receives = true := by
        show (match s.life.state with | .joining | .onLine | .listenOnly => true | .offLine | .conflict => false) = true
        rw [joining]
      have straps : (v.adoptClaim f tr).straps = s.straps := kept .straps (by decide)
      rw [State.announceTaken_eq, check, if_pos receives]
      exact State.followPusher_other (fun h => notPusher c dup (by rwa [State.role, straps] at h)) f
    have next := State.heard_announce_settled hears vto body (fun _ => .inr stopped) (entered leaving) rfl ends (kept .line (by decide))
      (by rw [life]; rfl)
    have held : (v.adoptClaim f tr).table = table := kept .table (by decide)
    refine ⟨_, reports, next, life, held, rfl, port, ?_⟩
    · have window : SameBut [.line, .table, .port] s v := (sameBut_iff _ _ _).2 (by simp [hv, State.announcing])
      have after : SameBut [.line, .out] (v.adoptClaim f tr) ((v.adoptClaim f tr).withLine s.lineAfterClean).derive :=
        (sameBut_iff _ _ _).2 (by simp)
      exact (SameBut.trans window (SameBut.trans kept after)).mono (by decide)
  · obtain ⟨v, check, kept, port⟩ : ∃ v, (s.announcing table changed).duplicateCheck f p = v ∧ SameBut [.port] (s.announcing table changed) v ∧
        v.port = (if p.role = .guide then changed.offerReport (.duplicateSeen f.sender .roleDuplicate) else changed) := by
      by_cases guide : p.role = .guide
      · have dup : duplicate .roleDuplicate := (hduplicate _).2 (.inl ⟨rfl, by simp [role], by rw [guide, role]⟩)
        refine ⟨_, seen leaving (by rw [State.drives, joining]) dup (lower guide), (sameBut_iff _ _ _).2 (by simp), ?_⟩
        rw [if_pos guide]
        rfl
      · refine ⟨_, State.duplicateCheck_quiet (.inr (.inr ?_)), fun p _ => by cases p <;> rfl, by rw [if_neg guide]; rfl⟩
        refine Option.eq_none_iff_forall_ne_some.2 fun c h => ?_
        rcases (hduplicate c).1 ((found (s.announcing table changed) rfl rfl c).1 h) with ⟨-, -, same⟩ | ⟨-, bank', -⟩
        · exact guide (same.trans role)
        · exact absurd (bank'.symm.trans role) (by decide)
    have straps : v.straps = s.straps := kept .straps (by decide)
    have config : v.config = s.config := kept .config (by decide)
    have life : v.life = s.life := kept .life (by decide)
    have claims : v.claims = s.claims := kept .claims (by decide)
    have held : v.table = table := kept .table (by decide)
    have guide (t : State) (h : t.straps = s.straps) : t.role ≠ .quench := by
      rw [State.role, h, show s.straps.role = .guide from role]
      decide
    obtain ⟨m, trailer⟩ := State.adoptTrailer_free (s := v) (by rw [State.openClaim, claims]; exact free)
      (by rw [State.bankConfig, config]; exact bank) ((kept .plan (by decide)).trans plan) (guide v straps) tr
    have ends : (s.announcing table changed).announceTaken f p tr = (v.adoptTrailer tr).changeLife fun l => { l with adopted := true } := by
      have receives : v.receives = true := by rw [State.receives, life, joining]
      have adopts : v.adoptClaim f tr = (v.adoptTrailer tr).changeLife fun l => { l with adopted := true } := by
        rw [State.adoptClaim, if_pos (by simp [State.joining, life, joining, fresh]), if_pos (by rw [life]; exact adopted)]
      rw [State.announceTaken_eq, check, if_pos receives, adopts]
      exact State.followPusher_other (fun h => absurd h (guide _ (by simpa using straps))) f
    rw [trailer] at ends
    have line : v.line = s.line.closed := kept .line (by decide)
    have next := State.heard_announce_settled hears vto body (fun _ => .inr stopped) (entered leaving) rfl ends (by simpa using line)
      (by simp [State.changeLife, life])
    refine ⟨_, next, by simp [State.changeLife, life], by simpa using held, by simpa using port, by simp, ?_, ?_⟩
    · have time : v.time = s.time := kept .time (by decide)
      simp [claims, time, State.stationOf, Tracker.adopting]
    · have window : SameBut [.line, .table, .port] s (s.announcing table changed) := (sameBut_iff _ _ _).2 (by simp [State.announcing])
      exact (SameBut.trans window (SameBut.trans kept ((sameBut_iff [.life, .line, .claims, .machine, .out] _ _).2
        (by simp [State.changeLife])))).mono (by decide)

end

section
/-! PROOFS. Claims dropped by another and adopted from a trailer (O42). -/

namespace Sys2Proof.Machine

/-! ## A claim taken over another (R113, R121) -/

/-- A claim is taken at a station without plan and car: what is OPEN is dropped first. -/
theorem State.takeClaim_over {s : State} (plan : s.dropClaim.plan = none) (role : s.role ≠ .quench) (n c sender : Nat) (forced : Bool) :
    s.takeClaim n c sender forced =
      (s.dropClaim.withClaims (s.dropClaim.claims.taking s.dropClaim.time n c sender forced)).bankClaimTaken n := by
  have same : s.dropClaim.role = s.role := by simp [State.role]
  rw [State.takeClaim]
  dsimp only
  rw [State.changePlan_none (by simpa using plan), State.makeChoice_none (by simpa using plan),
    State.compareReady_other (by simpa [State.role] using role)]
  rfl

/-- A drop at a station without plan and car (R113). -/
theorem State.dropClaim_eq {s : State} {c : Claim} (h : s.openClaim = some c) (plan : s.plan = none) (role : s.role ≠ .quench) :
    s.dropClaim = ((s.claimOver c (.abandoned .dropped)).bankClaimEnds c.oven c.stages (.abandoned .dropped)).withMachine
      s.machine.claimOver := by
  set t := (s.claimOver c (.abandoned .dropped)).bankClaimEnds c.oven c.stages (.abandoned .dropped) with ht
  have plan' : t.plan = none := by simpa [ht, State.claimOver] using plan
  have machine : t.machine = s.machine := by simp [ht, State.claimOver]
  have role' : (t.clearRevoke.clearWanted).role ≠ .quench := by simpa [ht, State.claimOver, State.role] using role
  rw [State.dropClaim, State.endClaim_eq h, ← ht, State.planClaimEnds_none plan', State.carClaimEnds_other role', ← machine]
  rfl

/-- The frames of a dropped claim, as the statements report them late (R126). -/
theorem Port.lateFrames_dropped (p : Port) (c : Nat) (q : List QueueEntry) :
    p.lateFrames c false q = (q.filterMap fun e => match e.inFlight, e.body with
      | false, .pushStage m k x _ => if k = c then some (Report.stageLate m k x) else none
      | false, .pushAbandon m k a => if k = c then some (.abandonLate m k (.ofCode a)) else none
      | _, _ => none).foldl Port.offerReport p := by
  unfold Port.lateFrames
  congr 1
  refine List.filterMap_congr fun e _ => ?_
  cases e.inFlight <;> cases e.body <;> simp

/-- A heard claim over the OPEN claim, on an oven that this bank does not hold: the drop, the record and the report (R113, R117, R121). -/
theorem State.kindTaken_drops {s : State} {f : Frame} {r : Claim} {n c : Nat} {forced : Bool} (record : s.claims.record = some r)
    (open_ : r.ending = .opened) (plan : s.plan = none) (role : s.role ≠ .quench) (elsewhere : s.ovenIndex n = none)
    (body : f.body = .pushClaim n c forced) {v : Verdict} (verdict : v = .take) (census : List Byte) :
    ((s.atKind f).kindTaken f census).othersOutcome false f v false =
      ((s.atKind f).dropClaim.withClaims ((s.atKind f).dropClaim.claims.taking s.time n c f.sender forced)).report
        (.pushOutcome n c forced .taken (some f.sender) none) := by
  set a := s.atKind f with ha
  have dropped := State.dropClaim_eq (s := a) (State.openClaim_of (s := a) record open_) plan role
  have plan' : a.dropClaim.plan = none := by
    have planA : a.plan = none := plan
    rw [dropped]
    simpa [State.claimOver] using planA
  have config : a.dropClaim.config = s.config := by simp [ha]; rfl
  have time : a.dropClaim.time = s.time := by simp [ha]; rfl
  have index : (a.dropClaim.withClaims (a.dropClaim.claims.taking s.time n c f.sender forced)).ovenIndex n = none := by
    rw [← elsewhere]
    simp only [State.ovenIndex, State.bankConfig, State.withClaims_config, config]
  simp only [State.kindTaken, body, State.takeClaim_over plan' role, time, State.bankClaimTaken_elsewhere index, State.othersOutcome, verdict]
  rfl

/-! ## Ovens through a claim's end -/

theorem State.changeDoor_ovens (s : State) (d : Nat) (f : Door → Door) : (s.changeDoor d f).bank.ovens = s.bank.ovens := by
  unfold State.changeDoor
  split
  · rfl
  · simp [State.setDoor]

theorem State.seatDoor_ovens (s : State) (d : Nat) : (s.seatDoor d).bank.ovens = s.bank.ovens := by
  unfold State.seatDoor
  split
  · split
    · exact State.changeDoor_ovens _ _ _
    · rfl
  · rfl

/-- The oven record as a claim on it has ended (R36, R132). -/
theorem State.bankClaimEnds_ovens {s : State} {p0 : BankPart0} {p1 : BankPart1} {n i : Nat} {o : Oven} (bank : s.bankConfig = some (p0, p1))
    (index : s.ovenIndex n = some i) (at_ : s.bank.ovens[i]? = some o) (t : StageSet) (how : ClaimEnd) :
    (s.bankClaimEnds n t how).bank.ovens =
      s.bank.ovens.set i (((ovenAfterClaim how t o.state).map fun new => s.ovenEntered p0 i new o).getD o) := by
  have found : s.oven? i = some o := at_
  unfold State.bankClaimEnds State.seatDoors State.endWatches
  simp only [index, found, Option.bind_some, State.seatDoor_ovens, State.changeDoor_ovens]
  cases ovenAfterClaim how t o.state with
  | none =>
    show (s.reportOvenUnchanged i).bank.ovens = _
    rw [Option.map_none, Option.getD_none, List.set_of_getElem? at_]
    simp
  | some new =>
    show (s.enterOven i new).bank.ovens = _
    rw [State.enterOven_eq bank at_ rfl]
    rfl

/-- The oven of a dropped claim (R113, R132; log 68). -/
theorem Oven.dropped (s : State) (p0 : BankPart0) (i : Nat) (o : Oven) (t : StageSet) :
    let o1 := ((ovenAfterClaim (.abandoned .dropped) t o.state).map fun new => s.ovenEntered p0 i new o).getD o
    o1.credit = o.credit ∧ o1.state =
      (if (o.state = .claimed ∨ o.state = .pushing) ∧ t.ramOut = true then .faulted
      else if o.state = .claimed then
        if t.psDoorOff = true ∨ t.csDoorOff = true ∨ t.isolated = true then .held else .coking
      else o.state) := by
  intro o1
  have entered (new : OvenState) (keeps : new = .coking ∨ new = .held ∨ new = .faulted) :
      (s.ovenEntered p0 i new o).credit = o.credit ∧ (s.ovenEntered p0 i new o).state = new := by
    unfold State.ovenEntered
    rcases keeps with rfl | rfl | rfl <;> split <;> exact ⟨rfl, rfl⟩
  unfold o1
  cases state : o.state with
  | claimed =>
    cases ram : t.ramOut
    · have next : ovenAfterClaim (.abandoned .dropped) t .claimed =
          some (if t.psDoorOff = true ∨ t.csDoorOff = true ∨ t.isolated = true then .held else .coking) := by
        unfold ovenAfterClaim
        cases t.psDoorOff <;> cases t.csDoorOff <;> cases t.isolated <;> simp [ram]
      rw [next]
      split
      · simp [entered]
      · simp [entered]
    · simpa [ovenAfterClaim, ram] using entered .faulted (by simp)
  | pushing =>
    cases ram : t.ramOut
    · simp [ovenAfterClaim, ram, state]
    · simpa [ovenAfterClaim, ram] using entered .faulted (by simp)
  | unknown | empty | coking | held | faulted | outOfService => simp [ovenAfterClaim, state]

/-! ## A claim adopted at its bank (R137) -/

/-- The state with other records of the oven at place i, and another port. -/
def State.withOvenLoop (s : State) (i : Nat) (o : Oven) (l : Loop) (q : Port) : State :=
  (s.withBank { s.bank with ovens := s.bank.ovens.set i o, loops := s.bank.loops.set i l }).withPort q

theorem State.withOvenLoop_setLoop {s : State} {i : Nat} {l : Loop} (loop : s.bank.loops[i]? = some l) (o : Oven) (l1 : Loop) (q : Port)
    (f : Loop → Loop) : (s.withOvenLoop i o l1 q).setLoop i f = s.withOvenLoop i o (f l1) q := by
  have inside := (List.getElem?_eq_some_iff.1 loop).1
  have set_ : (s.bank.loops.set i l1).modify i f = s.bank.loops.set i (f l1) := by
    rw [List.modify_eq_set_getElem?, List.getElem?_set_self inside]
    simp
  unfold State.setLoop State.withOvenLoop
  simp only [State.withPort_bank, State.withBank_bank, set_]
  rfl

theorem State.enterOven_withOvenLoop {s : State} {p0 : BankPart0} {p1 : BankPart1} {i : Nat} {o : Oven} {l : Loop}
    (bank : s.bankConfig = some (p0, p1)) (oven : s.bank.ovens[i]? = some o) (loop : s.bank.loops[i]? = some l) (new : OvenState) :
    ∃ q, s.enterOven i new = s.withOvenLoop i (s.ovenEntered p0 i new o) l q := by
  refine ⟨s.port.ovenEntered (s.ovenAt i) o (s.ovenEntered p0 i new o), ?_⟩
  rw [State.enterOven_eq bank oven rfl, State.withOvenLoop, List.set_of_getElem? loop]

theorem State.reportOvenUnchanged_withOvenLoop {s : State} {i : Nat} {o : Oven} {l : Loop} (oven : s.bank.ovens[i]? = some o)
    (loop : s.bank.loops[i]? = some l) : ∃ q, s.reportOvenUnchanged i = s.withOvenLoop i o l q := by
  refine ⟨s.port.offerReport (.ovenState (s.ovenAt i) o.state o.state o.credit o.readiness o.stamp), ?_⟩
  rw [State.reportOvenUnchanged_eq oven rfl, State.withOvenLoop, List.set_of_getElem? oven, List.set_of_getElem? loop]
  rfl

/-- The records of an oven as the claim of a trailer is adopted (R137; log 68). -/
def AdoptedRecords (t : StageSet) (o o1 : Oven) (l l1 : Loop) : Prop :=
  (t.isolated = false → o.state = .coking →
    o1.state = .claimed ∧ l1 = { l with mode := .isolating, a := 0, zero := 0, charge := none, target := none }) ∧
  (t.isolated = true → o.state = .coking ∨ o.state = .held →
    o1.state = (if t.ramOut = true then .pushing else .claimed) ∧ o1.held = none ∧ o1.credit = o.credit ∧
    l1 = (if l.mode = .isolated then { l with owed := false } else
      { l with mode := .isolating, a := 0, zero := 0, charge := none, target := none, owed := false })) ∧
  (o.state ≠ .coking → o.state ≠ .held ∨ t.isolated = false → o1 = o ∧ l1 = (if t.isolated = true then { l with owed := false } else l))

theorem State.bankClaimAdopted_records {s : State} {n i : Nat} {o : Oven} {l : Loop} {x y : Door} (index : s.ovenIndex n = some i)
    (oven : s.bank.ovens[i]? = some o) (loop : s.bank.loops[i]? = some l) (ps : s.bank.doors[2 * i]? = some x)
    (cs : s.bank.doors[2 * i + 1]? = some y) (hx : x.sealing ≠ .resealing) (hy : y.sealing ≠ .resealing) (ox : x.sealing ≠ .off)
    (oy : y.sealing ≠ .off) (t : StageSet) :
    ∃ o1 l1 q, s.bankClaimAdopted n t = s.withOvenLoop i o1 l1 q ∧ AdoptedRecords t o o1 l l1 := by
  obtain ⟨p0, p1, bank⟩ := State.bankConfig_of_index index
  have found : s.oven? i = some o := oven
  have doors (o1 : Oven) (l1 : Loop) (q : Port) :
      (((s.withOvenLoop i o1 l1 q).giveUpReseal n .ps).giveUpReseal n .cs).seatDoors i = s.withOvenLoop i o1 l1 q :=
    State.doors_stand (s := s.withOvenLoop i o1 l1 q) index ps cs hx hy ox oy
  obtain ⟨told, unchanged⟩ := State.reportOvenUnchanged_withOvenLoop oven loop
  have entered (new : OvenState) (keeps : new = .claimed ∨ new = .pushing) : (s.ovenEntered p0 i new o).state = new ∧
      (s.ovenEntered p0 i new o).held = none ∧ (s.ovenEntered p0 i new o).credit = o.credit := by
    rcases keeps with rfl | rfl <;> exact ⟨rfl, rfl, rfl⟩
  unfold State.bankClaimAdopted
  simp only [index, found, Option.map_some, Option.some.injEq]
  cases isolated : t.isolated with
  | false =>
    simp only [if_true, Bool.false_eq_true, if_false]
    by_cases cokes : o.state = .coking
    · obtain ⟨q, enters⟩ := State.enterOven_withOvenLoop bank oven loop .claimed
      rw [if_pos cokes, enters, State.withOvenLoop_setLoop loop, doors]
      exact ⟨_, _, _, rfl, fun _ _ => ⟨rfl, rfl⟩, fun h => absurd (isolated.symm.trans h) (by decide), fun h => absurd cokes h⟩
    · rw [if_neg cokes, unchanged, doors]
      exact ⟨_, _, _, rfl, fun _ h => absurd h cokes, fun h => absurd (isolated.symm.trans h) (by decide),
        fun _ _ => ⟨rfl, by rw [isolated]; rfl⟩⟩
  | true =>
    simp only [if_true, Bool.true_eq_false, if_false]
    by_cases moves : o.state = .coking ∨ o.state = .held
    · obtain ⟨q, enters⟩ := State.enterOven_withOvenLoop bank oven loop (if t.ramOut then .pushing else .claimed)
      rw [if_pos moves, enters, State.withOvenLoop_setLoop loop, State.withOvenLoop_setLoop loop, doors]
      obtain ⟨state, held, credit⟩ := entered (if t.ramOut then .pushing else .claimed) (by split <;> simp)
      refine ⟨_, _, _, rfl, fun h => absurd (isolated.symm.trans h) (by decide), fun _ _ => ⟨state, held, credit, ?_⟩, fun h1 h2 => ?_⟩
      · unfold Loop.adoptIsolated
        split <;> rfl
      · rcases h2 with h2 | h2
        · exact absurd moves (not_or.2 ⟨h1, h2⟩)
        · exact absurd (isolated.symm.trans h2) (by decide)
    · rw [if_neg moves, unchanged, State.withOvenLoop_setLoop loop, doors]
      exact ⟨_, _, _, rfl, fun h => absurd (isolated.symm.trans h) (by decide), fun _ h => absurd h moves,
        fun _ _ => ⟨rfl, by rw [isolated]; rfl⟩⟩

/-- A trailer with a claim adopted where none is OPEN, at the claim's bank (R33, R137). -/
theorem State.adoptTrailer_bank {s : State} {tr : Trailer} (free : s.openClaim = none) (plan : s.plan = none) (role : s.role ≠ .quench)
    (named : tr.oven ≠ 0) {i : Nat} {o : Oven} {l : Loop} {x y : Door} (index : s.ovenIndex tr.oven = some i)
    (oven : s.bank.ovens[i]? = some o) (loop : s.bank.loops[i]? = some l) (ps : s.bank.doors[2 * i]? = some x)
    (cs : s.bank.doors[2 * i + 1]? = some y) (hx : x.sealing ≠ .resealing) (hy : y.sealing ≠ .resealing) (ox : x.sealing ≠ .off)
    (oy : y.sealing ≠ .off) :
    ∃ o1 l1 q m, s.adoptTrailer tr =
      ((s.withClaims (s.claims.adopting tr (s.stationOf .pusher) s.time)).withOvenLoop i o1 l1 q).withMachine m ∧
      AdoptedRecords tr.stages o o1 l l1 := by
  have stands : (if (s.openClaim.any fun c => decide (c.oven = tr.oven ∧ c.serial = tr.serial)) then s else s.dropClaim) = s := by
    rw [free]
    exact State.dropClaim_none free
  set t := s.withClaims (s.claims.adopting tr (s.stationOf .pusher) s.time) with ht
  have filled : t = s.withClaims { s.claims with
      record := some ⟨tr.oven, tr.serial, s.stationOf .pusher, false, tr.stages, s.time, 0, .opened⟩, highest := tr.serial, retry := none } := by
    rw [ht, Tracker.adopting, if_neg named]
  obtain ⟨o1, l1, q, adopted, records⟩ := State.bankClaimAdopted_records (s := t) index oven loop ps cs hx hy ox oy tr.stages
  have planned : (t.bankClaimAdopted tr.oven tr.stages).changePlan (Plan.noteClaim tr.oven) = t.withOvenLoop i o1 l1 q := by
    rw [adopted]
    exact State.changePlan_none (s := t.withOvenLoop i o1 l1 q) plan _
  unfold State.adoptTrailer
  simp only [stands, if_neg named]
  rw [← filled, planned]
  split
  · exact ⟨o1, l1, q, t.machine, State.compareReady_other (s := t.withOvenLoop i o1 l1 q) role, records⟩
  · exact ⟨o1, l1, q, t.clearRevoke.machine, State.compareReady_other (s := (t.withOvenLoop i o1 l1 q).clearRevoke) role, records⟩

/-- A first trailer at a joining station whose own role the announce does not show (R33). -/
theorem State.announceTaken_adopts {s : State} {f : Frame} {p : Payload} (quiet : s.duplicateCheck f p = s)
    (joining : s.life.state = .joining) (fresh : f.joining = false) (adopted : s.life.adopted = false)
    (follow : s.role = .quench → p.role ≠ .pusher) (tr : Trailer) :
    s.announceTaken f p tr = (s.adoptTrailer tr).changeLife fun l => { l with adopted := true } := by
  have receives : s.receives = true := by rw [State.receives, joining]
  have adopts : s.adoptClaim f tr = (s.adoptTrailer tr).changeLife fun l => { l with adopted := true } := by
    rw [State.adoptClaim, if_pos (by simp [State.joining, joining, fresh]), if_pos adopted]
  rw [State.announceTaken_eq, quiet, if_pos receives, adopts]
  exact State.followPusher_other (fun h => follow (by simpa [State.role] using h)) f

/-- A later trailer (R33). -/
theorem State.announceTaken_compares {s : State} {f : Frame} {p : Payload} (quiet : s.duplicateCheck f p = s)
    (joining : s.life.state = .joining) (fresh : f.joining = false) (adopted : s.life.adopted = true)
    (follow : s.role = .quench → p.role ≠ .pusher) (tr : Trailer) :
    s.announceTaken f p tr = if s.agrees tr then s else s.adoptTrailer tr := by
  have receives : s.receives = true := by rw [State.receives, joining]
  have adopts : s.adoptClaim f tr = if s.agrees tr then s else s.adoptTrailer tr := by
    rw [State.adoptClaim, if_pos (by simp [State.joining, joining, fresh]), if_neg (by simp [adopted])]
  rw [State.announceTaken_eq, quiet, if_pos receives, adopts]
  refine State.followPusher_other (fun h => follow ?_) f
  split at h
  · exact h
  · simpa [State.role] using h

/-- An announce that shows another role than this station's shows no duplicate (R31). -/
theorem State.duplicate_other {s : State} {p : Payload} (h : p.role ≠ s.role) : s.duplicate p = none := by
  refine Option.eq_none_iff_forall_ne_some.2 fun c found => ?_
  rcases (s.duplicate_iff p c).1 found with ⟨-, -, same⟩ | ⟨-, bank, first, sums, _, _, _, _, _, rfl, -⟩
  · exact h same
  · exact h bank.symm

/-- The trailer of a later announce, heard by a joining GUIDE without a duplicate: it agrees with the record or is adopted (R33). -/
theorem State.heard_trailer_again {s : State} {w : Window} {f : Frame} {p : Payload} {tr : Trailer} (hears : s.Hears w f)
    (vto : s.line.vto = false) (body : f.body = .announce p tr) (leaving : f.leaving = false) (fresh : f.joining = false)
    (stopped : f.stopped = false) (joining : s.life.state = .joining) (role : s.role = .guide) (other : p.role ≠ .guide)
    (adopted : s.life.adopted = true) :
    ∃ v, SameBut [.line, .table, .port] s v ∧ ∀ u, (if v.agrees tr then v else v.adoptTrailer tr) = u → u.line = v.line → u.life = v.life →
      exec (.settleOutcome false) s = .next (u.withLine s.lineAfterClean).derive := by
  have entered := State.entryAnnounced_filled (s := s) leaving p tr
  set v := s.announcing _ _ with hv
  have guide : v.role = .guide := role
  have quiet : v.duplicateCheck f p = v := State.duplicateCheck_quiet (.inr (.inr (State.duplicate_other (guide ▸ other))))
  have ends := State.announceTaken_compares (s := v) (f := f) quiet joining fresh adopted (fun h => by simp [guide] at h) tr
  refine ⟨v, (sameBut_iff _ _ _).2 (by simp [hv, State.announcing]), fun u hu line life => ?_⟩
  exact State.heard_announce_settled hears vto body (fun _ => .inr stopped) entered rfl (ends.trans hu) line (by rw [life]; rfl)

/-- A trailer that shows another claim than the OPEN one drops it, at a station without bank, plan and car (R33, R113). -/
theorem State.adoptTrailer_drops {s : State} {tr : Trailer} {c : Claim} (open_ : s.openClaim = some c)
    (differs : tr.oven ≠ c.oven ∨ tr.serial ≠ c.serial) (bank : s.bankConfig = none) (plan : s.plan = none) (role : s.role ≠ .quench) :
    SameBut [.queue, .claims, .machine, .port] s (s.adoptTrailer tr) ∧
      (s.adoptTrailer tr).claims = s.claims.adopting tr (s.stationOf .pusher) s.time := by
  have dropped := State.dropClaim_eq open_ plan role
  rw [State.bankClaimEnds_elsewhere (s := s.claimOver c _) (State.ovenIndex_none (s := s.claimOver c _) bank _)] at dropped
  have same : SameBut [.queue, .claims, .machine, .port] s s.dropClaim := (sameBut_iff _ _ _).2 (by simp [dropped, State.claimOver])
  have left : s.dropClaim.claims = { s.claims with record := some { c with ending := .abandoned .dropped }, retry := none } := by
    rw [dropped]
    rfl
  have ended : s.dropClaim.openClaim = none := by simp [State.openClaim, left]
  have again : s.adoptTrailer tr = s.dropClaim.adoptTrailer tr := by
    have other : (s.openClaim.any fun c => decide (c.oven = tr.oven ∧ c.serial = tr.serial)) = false := by
      rw [open_]
      rcases differs with h | h <;> simp [Ne.symm h]
    unfold State.adoptTrailer
    simp only [other, ended, Option.any_none, Bool.false_eq_true, if_false, State.dropClaim_none ended]
  have config : s.dropClaim.config = s.config := same .config (by decide)
  obtain ⟨m, free⟩ := State.adoptTrailer_free (s := s.dropClaim) ended (by rwa [State.bankConfig, config]) ((same .plan (by decide)).trans plan)
    (by rwa [State.role, show s.dropClaim.straps = s.straps from same .straps (by decide)]) tr
  rw [again, free]
  refine ⟨(SameBut.trans same ((sameBut_iff [.claims, .machine] _ _).2 (by simp))).mono (by decide), ?_⟩
  simp [left, Tracker.adopting, State.stationOf]

/-- A trailer that shows the claim of the record with other stages drops nothing (R33, log 52). -/
theorem State.adoptTrailer_refills {s : State} {tr : Trailer} {c : Claim} (record : s.claims.record = some c) (oven : tr.oven = c.oven)
    (serial : tr.serial = c.serial) (bank : s.bankConfig = none) (plan : s.plan = none) (role : s.role ≠ .quench) :
    ∃ m, s.adoptTrailer tr = (s.withClaims (s.claims.adopting tr (s.stationOf .pusher) s.time)).withMachine m := by
  by_cases opened : c.ending = .opened
  · refine State.adoptTrailer_undropped ?_ bank plan role
    rw [State.openClaim_of record opened]
    simp [oven, serial]
  · refine State.adoptTrailer_free ?_ bank plan role tr
    simp [State.openClaim, record, opened]

/-! ## The stopped condition of a heard frame (R34) -/

/-- Of the kinds of frames only STOP_NOTE, RESUME and an announce that leads to CONFLICT touch the stopped condition (R173, R175). -/
theorem State.heard_stop (s : State) {f : Frame} (announce : ∀ p t, f.body ≠ .announce p t) (resume : ∀ r, f.body ≠ .resume r)
    (note : ∀ c r, f.body ≠ .stopNote c r) (census : List Byte) (v : Verdict) :
    (((s.kindTaken f census).othersOutcome false f v false).counters false).derive.stop = s.stop := by
  have kind : (s.kindTaken f census).stop = s.stop := by
    unfold State.kindTaken
    cases body : f.body with
    | announce p t => exact absurd body (announce p t)
    | resume r => exact absurd body (resume r)
    | stopNote c r => exact absurd body (note c r)
    | census | mainPressure | charged | pushClaim | pushStage | pushAbandon | resealCall | resealClaim | resealDone => simp
  simpa using kind

end Sys2Proof.Machine

open Sys2Proof Sys2Proof.Machine

/-- Settles O42: the drop of an OPEN claim, the adoption of a trailer at a bank and at a guide, and the stopped condition adopted. -/
theorem claimsDroppedAndAdopted : Obligations.ClaimsDroppedAndAdopted := by
  intro s w f hears vto
  have window (state : s.life.state ≠ .joining) : SameBut [.line, .table] s (s.windowEnded f s.queue) :=
    (sameBut_iff _ _ _).2 (by simp [State.windowEnded, state])
  have left {kept : List QueueEntry} (k : Nat) (h : kept = s.queue.filter (fun e => e.inFlight ||
      !(match e.body with | .pushStage _ c _ _ => decide (c = k) | .pushAbandon _ c _ => decide (c = k) | _ => false))) :
      kept = queueAfterClaim k s.queue := h
  have after {u : State} : SameBut [.line, .out] u (u.withLine s.lineAfterClean).derive := (sameBut_iff _ _ _).2 (by simp)
  refine ⟨fun n c forced r kept body record open_ state verdict plan role hkept => ⟨fun bank => ?_, fun i o bankRole bank index at_ elsewhere => ?_⟩,
    fun p tr i o l x y body leaving fresh stopped joining role other bank plan free adopted named index oven loop ps cs hx hy ox oy => ?_,
    fun p tr body leaving fresh stopped joining role other bank plan adopted => ⟨fun agrees => ?_, fun c record open_ differs => ?_,
      fun c record same serial stages named => ?_⟩,
    fun joining fresh stopped clear => ⟨fun k1 k2 k3 => ?_, fun kind bank => ?_⟩, fun settled k1 k2 k3 => ?_⟩
  · have kind := State.kindTaken_drops record open_ plan role (State.ovenIndex_none bank n) body verdict w.census
    rw [State.dropClaim_eq (s := s.atKind f) (State.openClaim_of (s := s.atKind f) record open_) plan role,
      State.bankClaimEnds_elsewhere (s := (s.atKind f).claimOver r _) (State.ovenIndex_none bank _)] at kind
    obtain ⟨t, done, same, claims, queue, -, -, machine, -, port, -⟩ := State.heard_ends hears vto (by simp [body]) kind
      (parts := [.queue, .claims, .machine, .port]) ((sameBut_iff _ _ _).2 (by simp [State.claimOver])) (by decide) (by decide)
    obtain ⟨told, -⟩ := State.windowEnded_settled state f s.queue
    refine ⟨t, done, (SameBut.trans (window state) same).mono (by decide), queue.trans (left r.serial hkept).symm, machine, claims, port.trans ?_⟩
    have late := Port.lateFrames_dropped (s.port.offerReport (.claimAbandoned r.oven r.serial .dropped r.stages)) r.serial s.queue
    rw [← told] at late ⊢
    exact congrArg (fun p => p.offerReport (.pushOutcome n c forced .taken (some f.sender) none)) late
  · have kind := State.kindTaken_drops record open_ plan role elsewhere body verdict w.census
    obtain ⟨p0, p1, config⟩ := State.bankConfig_of_index index
    rw [State.dropClaim_eq (s := s.atKind f) (State.openClaim_of (s := s.atKind f) record open_) plan role] at kind
    have ovens := State.bankClaimEnds_ovens (s := (s.atKind f).claimOver r (.abandoned .dropped)) config index at_ r.stages (.abandoned .dropped)
    obtain ⟨t, done, same, claims, queue, units, -, machine, -, port, -⟩ := State.heard_ends hears vto (by simp [body]) kind
      (parts := [.queue, .claims, .bank, .machine, .port]) ((sameBut_iff _ _ _).2 (by simp [State.claimOver])) (by decide) (by decide)
    obtain ⟨credit, becomes⟩ := Oven.dropped ((s.atKind f).claimOver r (.abandoned .dropped)) p0 i o r.stages
    refine ⟨t, _, done, (SameBut.trans (window state) same).mono (by decide), queue.trans ?_, (congrArg Bank.ovens units).trans ovens, credit, becomes⟩
    exact (show _ = queueAfterClaim r.serial s.queue by simp [State.claimOver]).trans (left r.serial hkept).symm
  · have entered := State.entryAnnounced_filled (s := s) leaving p tr
    set v := s.announcing _ _ with hv
    have quiet : v.duplicateCheck f p = v := State.duplicateCheck_quiet (.inr (.inr (State.duplicate_other (by
      rw [show v.role = s.role from rfl, role]; exact other))))
    obtain ⟨o1, l1, q, m, trailer, records⟩ := State.adoptTrailer_bank (s := v) (tr := tr) free plan (by
      rw [show v.role = s.role from rfl, role]; decide) named index oven loop ps cs hx hy ox oy
    have ends := State.announceTaken_adopts (s := v) (f := f) (p := p) quiet joining fresh adopted (fun h => by
      rw [show v.role = s.role from rfl, role] at h; exact absurd h (by decide)) tr
    rw [trailer] at ends
    have next := State.heard_announce_settled hears vto body (fun _ => .inr stopped) entered rfl ends rfl rfl
    refine ⟨_, o1, l1, next, ?_, rfl, ?_, rfl, records⟩
    · exact (sameBut_iff _ _ _).2 (by simp [hv, State.announcing, State.withOvenLoop, State.changeLife])
    · simp [hv, State.announcing, State.withOvenLoop, State.changeLife, Tracker.adopting, named, State.stationOf]
  · obtain ⟨v, seen, next⟩ := State.heard_trailer_again hears vto body leaving fresh stopped joining role other adopted
    have agreed : v.agrees tr = true := by
      rw [State.agrees, show v.claims = s.claims from seen .claims (by decide)]
      cases held : s.claims.record <;> rw [held] at agrees <;> exact decide_eq_true agrees
    exact ⟨_, next v (if_pos agreed) rfl rfl, (SameBut.trans seen after).mono (by decide)⟩
  · obtain ⟨v, seen, next⟩ := State.heard_trailer_again hears vto body leaving fresh stopped joining role other adopted
    have claims : v.claims = s.claims := seen .claims (by decide)
    have disagrees : v.agrees tr = false := by
      rw [State.agrees, claims, record]
      rcases differs with h | h <;> simp [h]
    obtain ⟨kept, becomes⟩ := State.adoptTrailer_drops (s := v) (tr := tr) (c := c) (State.openClaim_of (claims ▸ record) open_) differs
      (by rwa [State.bankConfig, show v.config = s.config from seen .config (by decide)]) ((seen .plan (by decide)).trans plan)
      (by rw [State.role, show v.straps = s.straps from seen .straps (by decide)]; simp [show s.straps.role = .guide from role])
    refine ⟨_, next _ (by rw [disagrees]; rfl) (kept .line (by decide)) (kept .life (by decide)),
      (SameBut.trans seen (SameBut.trans kept after)).mono (by decide), ?_⟩
    have time : v.time = s.time := seen .time (by decide)
    simp [becomes, claims, time, Tracker.adopting, State.stationOf]
  · obtain ⟨v, seen, next⟩ := State.heard_trailer_again hears vto body leaving fresh stopped joining role other adopted
    have claims : v.claims = s.claims := seen .claims (by decide)
    have disagrees : v.agrees tr = false := by
      rw [State.agrees, claims, record]
      simp [stages]
    obtain ⟨m, becomes⟩ := State.adoptTrailer_refills (s := v) (tr := tr) (c := c) (claims ▸ record) same serial
      (by rwa [State.bankConfig, show v.config = s.config from seen .config (by decide)]) ((seen .plan (by decide)).trans plan)
      (by rw [State.role, show v.straps = s.straps from seen .straps (by decide)]; simp [show s.straps.role = .guide from role])
    refine ⟨_, next _ ((if_neg (by simp [disagrees])).trans becomes) rfl rfl,
      (SameBut.trans seen (SameBut.trans ((sameBut_iff [.claims, .machine] _ _).2 (by simp)) after)).mono (by decide), ?_⟩
    have time : v.time = s.time := seen .time (by decide)
    simp [claims, time, Tracker.adopting, named, State.stationOf]
  · have next := State.heard_next hears vto rfl
    refine ⟨_, next, ?_⟩
    rw [State.frameTaken_atKind _ _ _ (fun p t h => k1 (by rw [h]; rfl))]
    refine (State.heard_stop (s.atKind f) (fun p t h => k1 (by rw [h]; rfl)) (fun r h => k2 (by rw [h]; rfl)) (fun c r h => k3 (by rw [h]; rfl))
      w.census w.verdict).trans ?_
    simp [State.atKind, State.windowEnded, joining, fresh, stopped, clear]
  · obtain ⟨x, q, body⟩ : ∃ x q, f.body = .mainPressure x q := by
      cases h : f.body with
      | mainPressure x q => exact ⟨x, q, rfl⟩
      | _ => simp [h, Body.kind] at kind
    have taken : ((s.atKind f).kindTaken f w.census).othersOutcome false f w.verdict false = s.atKind f := by
      simp only [State.kindTaken, State.othersOutcome, body, State.mainPressureTaken, show (s.atKind f).bankConfig = none from bank]
    obtain ⟨t, done, same, -, -, -, -, -, -, port, stop⟩ := State.heard_ends hears vto (by simp [body]) taken
      (parts := []) (fun p _ => by cases p <;> rfl) (by decide) (by decide)
    have adopts : SameBut [.line, .table, .stop, .port] s (s.windowEnded f s.queue) := (sameBut_iff _ _ _).2 (by simp [State.windowEnded])
    refine ⟨t, done, (SameBut.trans adopts same).mono (by decide), stop.trans ?_, port.trans ?_⟩ <;>
      simp [State.atKind, State.windowEnded, joining, fresh, stopped, clear]
  · have next := State.heard_next hears vto rfl
    refine ⟨_, next, ?_⟩
    rw [State.frameTaken_atKind _ _ _ (fun p t h => k1 (by rw [h]; rfl))]
    refine (State.heard_stop (s.atKind f) (fun p t h => k1 (by rw [h]; rfl)) (fun r h => k2 (by rw [h]; rfl)) (fun c r h => k3 (by rw [h]; rfl))
      w.census w.verdict).trans ?_
    rcases settled with h | h | h | h <;> simp [State.atKind, State.windowEnded, h]

end
